-- ==== Sys2Proof/Word.lean ====
section
/-!
DEFINITION. Word.lean: the word types of the SV4870 (00 R5: addresses in bytes, a register of 32 bits, little-endian) and
the range of a stroke number (01 R15, R16).
-/

namespace Sys2Proof

/-- One byte of memory. -/
abbrev Byte := BitVec 8

/-- A 32-bit word: a register of a page, a general register of a core, a data word. -/
abbrev Word := BitVec 32

/-- A 64-bit word: the timebase, a stamp, the extended stroke number. -/
abbrev DWord := BitVec 64

/-- The number of values of the 32-bit stroke counter. -/
def strokeModulus : Nat := 4294967296

end Sys2Proof
end

