-- ==== Sys2Proof/Syntax.lean ====
section
/-!
DEFINITION. Syntax.lean: the commands of the SV4870, one constructor of Instr for each row of spec/opcode_table.json, with
the operands a command carries from outside: a frame, a reading, a requester, a register number. The table gives its rows
no operands and no bits: the operands are the model's (log entry 1).
-/

namespace Sys2Proof

/-- Who makes an access (03 R106 REQUESTER codes, R112): a core by its physical number, the host port, a Marshal-relayed
management session by its number, the Marshal itself, the pair link. -/
inductive Req where
  | core (n : Fin 5)
  | host
  | mgmt (n : Nat)
  | marshal
  | pairLink
  deriving DecidableEq, Repr

/-- What the decoder of the data code finds in the word that a command reads (10 R367). A word that the state holds as
poisoned decodes as UE whatever the command says (R370). -/
inductive Ecc where
  | clean
  | ce1 (pos : Nat)
  | ce2 (pos1 pos2 : Nat)
  | ue (syndrome : Nat)
  | addr (syndrome : Nat)
  /-- The transfer over the on-die fabric was corrected at a position. -/
  | fabricCe (pos : Nat)
  /-- The transfer over the fabric was uncorrectable and was resent once; `again` says that the resent word was so too. -/
  | fabricUe (again : Bool) (syndrome : Nat)
  deriving DecidableEq, Repr

/-- What a host-port access to HP_A does (18 R553, R558; log entry 172): a write of a word, or a read; `more` says that HP_CS_n
stays low and the next access continues the burst, and `e` is what the decoder finds in the word of memory that a read, or a
write's read-modify-write, reads. -/
inductive HostOp where
  | write (v : BitVec 32) (e : Ecc)
  | read (more : Bool) (e : Ecc)
  deriving DecidableEq, Repr

/-- Where an instruction of a core executes: the physical core, and what the decoder finds in the fetched word; `cut` is the number
of 32-bit words that TON, TOF, TP or CTR has written of its block in retain memory when the supply-fail latch interrupts it (05
R200), and none when nothing does. -/
structure At where
  core : Fin 5
  fetch : Ecc
  cut : Option (Fin 8) := none
  deriving DecidableEq, Repr

/-- The address field of a format B instruction (05 R182, R185): an image bit, or a bit relative to a register. -/
inductive BitOp where
  | i (ba : BitVec 23)
  | q (ba : BitVec 23)
  | m (ba : BitVec 23)
  | rel (rb : BitVec 5) (boff : BitVec 18)
  deriving DecidableEq, Repr

/-- One entry of an event queue (03 "Event controller"): INFO's fields, the stamp and the DATA word. -/
structure EvEntry where
  seq : Nat
  source : Nat
  forced : Bool
  code : Nat
  stamp : BitVec 64
  data : BitVec 32
  deriving DecidableEq, Repr

/-- The admission record of a stroke (06 R241): the admitted executions by task, the deferred executions with their reasons,
the logical cores on which B is held as a mask, the entries that port 2 holds in the order in which it will deliver them (03 R122),
the bytes of forwarded host writes by address (04 R139), the forwarded loop writes by register address (07 R258) and the retired
counts of B executions by logical core and task (05 R209). A `delta` follows the record of its stroke and decides nothing: it
brings later retired counts, or the entries of port 2 anew, those delivered in the stroke first. -/
structure AdmRecord where
  stroke : Nat
  admitted : List Nat
  deferred : List (Nat × Nat)
  held : Nat
  port2 : List EvEntry
  hostWrites : List (Nat × BitVec 8)
  loopWrites : List (Nat × BitVec 32)
  retired : List (Nat × Nat × Nat)
  delta : Bool := false
  deriving DecidableEq, Repr

/-- A block of an edit transaction (04 R160, R585): EDIT_BDESC's KIND and BLOCKNO, EDIT_BLEN, and the bytes written. -/
structure EditBlock where
  kind : Nat
  no : Nat
  len : Nat
  data : List (BitVec 8)
  deriving DecidableEq, Repr

/-- An edit transaction (04 R158 to R160). -/
structure EditTx where
  txid : Nat
  tmo : Nat
  baseSig : List (BitVec 8)
  newSig : List (BitVec 8)
  blocks : List EditBlock
  deriving DecidableEq, Repr

/-- A pair-link message about an edit transaction (04 R171): the transaction from the active unit, and the other unit's word
that it is checked and in flash, or the reason of a refusal. -/
inductive EditMsg where
  | transaction (t : EditTx)
  | accepted (txid : Nat)
  | ready (txid : Nat)
  | refused (txid reason : Nat)
  deriving DecidableEq, Repr

/-- A memory that background activity reads (01 R42, 10 R366): main SRAM, loop SRAM, DRAM, retain memory and its shadows. -/
inductive MemSel where
  | main | loop | dram | retain
  deriving DecidableEq, Repr

/-- The kinds of item that a pair mirrors (09 R361), with the session or controller. -/
inductive ItemKind where
  | net (sess : Nat)
  | radio
  | can (ctl : Nat)
  | acq
  deriving DecidableEq, Repr

/-- What holds a word of DRAM (10 R368): the payload of a queued item, a session's received data, a received radio record, a
staged record of the event log. -/
inductive DramHolder where
  | item (k : ItemKind) (id : Nat)
  | received (sess : Nat)
  | radioRecord
  | staged (recno : Nat)
  deriving DecidableEq, Repr

/-- A reserved cycle of a background activity (01 R42, R43): a word read by a scrub or a check, with the duration of the pass
in ms when it ends one, and of a word of DRAM what it holds part of; a step of flash wear management, with the erase life used in
percent, the MiB written since manufacture and whether it goes on; a read of a flash partition that fails. -/
inductive ScrubOp where
  | word (m : MemSel) (off : Nat) (e : Ecc) (passMs : Option Nat) (holder : Option DramHolder)
  | wear (life mib : Nat) (busy : Bool)
  | flashError (part : Nat)
  deriving DecidableEq, Repr

/-- A background activity that has missed its completion interval (01 R44): main SRAM scrub of a bank, loop SRAM and DRAM
scrub, margin read of a bank, flash wear management after a number of hours. -/
inductive LateOp where
  | main (bank : Nat)
  | loop
  | dram
  | margin (bank : Nat)
  | wear (hours : Nat)
  deriving DecidableEq, Repr

/-- A Floryn frame without its preamble and FCS (08 R292): RPT, SENDER, SLOT, VERSION; STROKE; word 2 (CLAIM, EPOCH or
NSTAT); FLAGS and LEN; AUX; READY, RANK and CFGGEN; the payload. TYPE is the command's, or stands beside the frame. -/
structure FlorynFrame where
  rpt : Nat
  sender : Nat
  slot : Nat
  version : Nat
  stroke : BitVec 32
  word2 : BitVec 32
  flags : Nat
  len : Nat
  aux : BitVec 32
  ready : Bool
  rank : Nat
  cfggen : Nat
  payload : List (BitVec 8)
  deriving DecidableEq, Repr

/-- A copy of a Floryn frame as a port receives it (08 R294): the channel (B or A), the port (2 or 1), whether its FCS is
valid, the slot in which its first symbol arrived (0xFE the reference window, 0xFF the dynamic segment and the idle
guard), and whether its TYPE field holds an assigned type. -/
structure FlorynRx where
  chanB : Bool
  port2 : Bool
  fcsOk : Bool
  place : Nat
  frame : FlorynFrame
  typeOk : Bool := true
  deriving DecidableEq, Repr

/-- A node that a measurement has seen (08 R310): channel, port, address, repeaters between it and the module, delay in ns. -/
structure FlorynNode where
  chanB : Bool
  port2 : Bool
  addr : Nat
  rpt : Nat
  delay : Nat
  deriving DecidableEq, Repr

/-- The states in which an item is mirrored (09 R361): accepted, with the item's own words and data; started; ended, with its
outcome and reason; and for a session its sequence and acknowledgement state, what it received with its source and source
port, and the bytes the host has read of it (11 R409). -/
inductive MirrorPhase where
  | accepted (words : List Nat) (data : List (BitVec 8))
  | started
  | ended (outcome reason : Nat)
  | session (words : List Nat)
  | received (src port : Nat) (data : List (BitVec 8))
  | opened
  | read (n : Nat)
  deriving DecidableEq, Repr

/-- A mirrored change of state of an item (09 R361). -/
structure MirrorMsg where
  kind : ItemKind
  id : Nat
  phase : MirrorPhase
  deriving DecidableEq, Repr

/-- What every pair-link message carries (09 R329): the sender's stroke, extended, and its epoch record. -/
structure PairHdr where
  stroke : Nat
  epoch : Nat
  deriving DecidableEq, Repr

/-- What a heartbeat reports (09 R329, R359, 11 R413): the unit's part in the pair as PAIR_STAT.PEER codes it, its run intent,
the configuration that must agree, NET_TODOFSLO, TODOFSHI, TODRATE and the time-of-day state, and its program's signature. -/
structure HbInfo where
  peer : Nat
  intent : Bool
  config : List (BitVec 32)
  tod : List (BitVec 32)
  sig : List (BitVec 8) := []
  deriving DecidableEq, Repr

/-- The output digest of a stroke and what it carries (09 R329): the completed set as task, scan stroke and fault code, the
contexts that faulted, and where one is set an activation stroke (04 R172), a power-state switch as stroke and state
(06 R226), a configuration switch as stroke and staged registers (08 R291), a snapshot stroke (10 R387), a STOP stroke
(02 R87). -/
structure OutDig where
  digest : List (BitVec 8)
  completed : List (Nat × Nat × Nat)
  ctxFaults : List Nat
  activation : Option Nat
  power : Option (Nat × Nat)
  config : Option (BitVec 32 × List (Nat × BitVec 32))
  snapshot : Option Nat
  stop : Option Nat
  deriving DecidableEq, Repr

/-- A block of the state copy (09 R359): bytes by address, with the words of 32 bytes among them that are uncorrectable at the
source (10 R370); the registers of a page that do not hold their reset values; words of the loop table area; the record of a loop
context as numbers and its two windows; work-ledger entries as kind, unit, identity and started; the program with
its signature; the progress of the copy (percent, dirty passes, ms); the join stroke, extended, with the active unit's
power state and its pending agreements: activation stroke, power-state switch as stroke and state, snapshot stroke. -/
inductive CopyBlock where
  | bytes (a : Nat) (d : List (BitVec 8)) (poison : List Nat)
  | regs (page : Nat) (l : List (Nat × BitVec 32))
  | table (i : Nat) (l : List (BitVec 32))
  | loop (n : Nat) (w : List Nat) (wa wj : List Nat)
  | ledger (l : List (Nat × Nat × Nat × Bool))
  | program (d : List (BitVec 8)) (version : Nat) (txs : List EditTx) (sig : List (BitVec 8))
  | progress (pct passes ms : Nat)
  | join (stroke pstate : Nat) (activation : Option Nat) (power : Option (Nat × Nat)) (snapshot : Option Nat)
  deriving DecidableEq, Repr

/-- What an acknowledgement of the other unit answers (09 R333, R338, R361): an item's STARTED, the forwarded host write, or an input
digest that differs, whose acknowledgement asks for the image. -/
inductive AckMsg where
  | started (kind : ItemKind) (id : Nat)
  | hostWrite
  | imageRequest
  deriving DecidableEq, Repr

/-- Where an Ethernet packet comes from: the port (ETH2 or ETH1), the IP version, the source address; and whether it is one that the
module drops and counts (11 R401): a frame over 1522 bytes or with stacked tags, an IPv4 fragment, or an IPv6 extension header. -/
structure EthFrom where
  eth2 : Bool
  v6 : Bool
  src : Nat
  unfit : Bool
  deriving DecidableEq, Repr

/-- A TCP segment (11 R401): ports, sequence and acknowledgement numbers, flags, the window in bytes after scaling, the MSS
option, the data. -/
structure TcpSeg where
  sport : Nat
  dport : Nat
  seq : Nat
  ack : Nat
  syn : Bool
  acks : Bool
  fin : Bool
  rst : Bool
  wnd : Nat
  mss : Option Nat
  data : List (BitVec 8)
  deriving DecidableEq, Repr

/-- What asks for a REBOOT (17 R544): UPD_CMD of a requester, or a recovery frame of TYPE 4 over the radio port or ETH1, with its
REGION and SEQ, whose CRC was correct or not. -/
inductive RebootBy where
  | command (r : Req)
  | frame (radio : Bool) (n : Fin 256) (seq : BitVec 16) (crcOk : Bool)
  deriving DecidableEq, Repr

/-- What an ARP request or a Neighbour Solicitation asks for (11 R403): an IPv4 or IPv6 address, or the link-local address
formed from the unit MAC or the service MAC. -/
inductive ArpTarget where
  | ip4 (a : BitVec 32)
  | ip6 (a : BitVec 128)
  | linkLocal (unit : Bool)
  deriving DecidableEq, Repr

/-- An Announce message (11 R412): its domain, the values the best master clock algorithm compares, in its order, and the
steps removed. -/
structure PtpAnnounce where
  domain : Nat
  prio1 : Nat
  cls : Nat
  accuracy : Nat
  variance : Nat
  prio2 : Nat
  identity : Nat
  steps : Nat
  deriving DecidableEq, Repr

/-- A CAN frame (11 R419): extended, FD, bit rate switched, error state indicator, remote, identifier, data, and the stamp of
its start. -/
structure CanFrame where
  ide : Bool
  fdf : Bool
  brs : Bool
  esi : Bool
  rtr : Bool
  id : Nat
  data : List (BitVec 8)
  stamp : BitVec 64
  deriving DecidableEq, Repr

/-- The elements of the service floors (02 R72, R73), in the order of SYS_FLOOR's bits. -/
inductive FloorElem where
  | rom | marshal | hostPort | eth1 | radio | pll | core | sram | evtCox | retain | io | loop
  deriving DecidableEq, Repr

/-- What a change of a floor's element names: the element and, of main SRAM, the bank. -/
structure FloorPart where
  elem : FloorElem
  bank : Fin 16 := 0
  deriving DecidableEq, Repr

/-- The commands: one constructor per row of spec/opcode_table.json. Each docstring gives the row's mnemonic and rule. -/
inductive Instr where
  /-- STROKE_START (R15): At the timebase tick on which the time master begins its reference, the stroke counter increments and the stroke begins. -/
  | strokeStart
  /-- SLOT_START (R288): A static slot starts and its owner begins transmitting its frame on both channels. -/
  | slotStart (slot : Nat)
  /-- LATCH_INSTANT (R300): Every synchronised node applies its selected output frame and samples its inputs, local I/O included. -/
  | latchInstant (pins : BitVec 16)
  /-- INPUT_COMPLETE (R20): The input image of the stroke closes, forcing is applied and the loop engine starts. -/
  | inputComplete (ws : List (Nat × Nat × Ecc))
  /-- LOOP_COMPLETION (R248): Every lane has finished and the loop outputs are written to their destinations. -/
  | loopCompletion
  /-- EXECUTION_START (R176): An admitted execution starts on its core with its context initialised. -/
  | executionStart (core : Fin 5)
  /-- OUTPUT_CUTOFF (R137): The Q working image is built from completed write buffers, forcing applied and the output image frozen. -/
  | outputCutoff (join : Bool)
  /-- DYNAMIC_SEGMENT (R316): The dynamic segment starts and the dynamic master sends its GRANT frame for the next stroke. -/
  | dynamicSegment
  /-- REFERENCE (R309): A REFERENCE frame is received and the node computes its offset and follows the master. -/
  | reference (x : FlorynRx) (stamp : Nat)
  /-- OUTPUT (R304): An OUTPUT frame is received and becomes a candidate for the node's output choice. -/
  | output (x : FlorynRx)
  /-- INPUT (R302): An INPUT frame is received and its payload enters the I-slot range at input complete. -/
  | input (x : FlorynRx)
  /-- NULL (R302): A NULL frame is received and its range is held or zeroed. -/
  | null (x : FlorynRx)
  /-- GRANT (R316): A GRANT frame is received and names the mini-slots a node may use in the next stroke. -/
  | grant (x : FlorynRx)
  /-- DATA (R319): A DATA frame of acyclic service is received, such as a request or a response. -/
  | data (x : FlorynRx) (dest : Nat)
  /-- PROBE (R310): A PROBE frame is received and answered at once with PROBE_REPLY. -/
  | probe (x : FlorynRx) (t2 t3 : BitVec 64)
  /-- PROBE_REPLY (R310): A PROBE_REPLY is received and the link delay, topology and hop counts are derived. -/
  | probeReply (x : FlorynRx) (t4 : BitVec 64) (nodes : Option (List FlorynNode))
  /-- MASTER_CHANGE (R313): A configured master with no reference for its rank's offset begins to act. -/
  | masterChange
  /-- HANDOVER (R315): After 64 strokes of READY from a lower rank the acting master hands the role over. -/
  | handover
  /-- SYNC_FAILED (R308): LISTEN or ALIGN ends without progress within its bound of strokes. -/
  | syncFailed
  /-- HOLDOVER_TIMEOUT (R308): No reference for 10 ms or 16 strokes returns the module from HOLDOVER to LISTEN. -/
  | holdoverTimeout
  /-- LINK_CHANGE (R303): A Floryn port gains or loses link. -/
  | linkChange (chanB port2 up : Bool)
  /-- FBC_APPLY (R291): APPLY checks and distributes the staged Floryn configuration and schedules a switch stroke. -/
  | fbcApply (r : Req)
  /-- FBC_REVERT (R291): REVERT copies the values in force to the staged registers. -/
  | fbcRevert (r : Req)
  /-- ACQ_SUBMIT (R319): An acyclic request is submitted through FBC_ACQ and receives a REQID. -/
  | acqSubmit (r : Req)
  /-- ACQ_TIMEOUT (R320): An acyclic request reaches its timeout and fails or is possibly delivered. -/
  | acqTimeout (id : Nat)
  /-- HEARTBEAT (R329): A pair-link heartbeat is received. -/
  | heartbeat (h : PairHdr) (hb : HbInfo)
  /-- INPUT_DIGEST (R333): The standby receives the input digest and starts its loops or fetches the image. -/
  | inputDigest (h : PairHdr) (d : List (BitVec 8)) (ws : List (Nat × Nat × Ecc))
  /-- ADMISSION_RECORD (R241): The standby receives and applies the active unit's admission record. -/
  | admissionRecord (h : PairHdr) (a : AdmRecord)
  /-- REGISTER_LOAD_VALUE (R208): A standby's register-page load completes with the value sent by the active unit. -/
  | registerLoadValue (h : PairHdr) (lcore addr : Nat) (v : BitVec 32)
  /-- LOAD_VALUE_TIMEOUT (R342): A register load value not received within 2.0 µs makes the standby use its own value and mark the stroke provisional. -/
  | loadValueTimeout (c : Fin 5)
  /-- OUTPUT_DIGEST (R335): The standby receives the output digest and completed set with any agreed strokes. -/
  | outputDigest (h : PairHdr) (d : OutDig)
  /-- ITEM_MIRROR (R361): The standby receives a mirrored state change of an item. -/
  | itemMirror (h : PairHdr) (m : MirrorMsg)
  /-- EDIT_TRANSACTION (R171): The standby receives a replicated edit transaction, checks it and writes it to flash. -/
  | editTransaction (h : PairHdr) (m : EditMsg)
  /-- INPUT_IMAGE (R333): The fetched input image completes and replaces the standby's I area. -/
  | inputImage (h : PairHdr) (img : List (Nat × BitVec 8)) (ws : List (Nat × Nat × Ecc))
  /-- STATE_COPY (R359): A block of the resynchronisation state copy is received. -/
  | stateCopy (h : PairHdr) (c : CopyBlock)
  /-- SWAP_AGREEMENT (R357): A swap agreement is received over the pair link without an Umpire. -/
  | swapAgreement (h : PairHdr) (epoch unit : Nat)
  /-- MESSAGE_RESEND (R329): A pair-link message unacknowledged within 0.4 µs is resent on the other lane. -/
  | messageResend (lane : Fin 3)
  /-- LANE_FAIL (R330): A pair-link lane loses block lock or needs 16 resends in a stroke. -/
  | laneFail (lane : Fin 3)
  /-- LANE_RESTORED (R330): A failed lane returns to service after 64 clean strokes. -/
  | laneRestored (lane : Fin 3)
  /-- RESYNC_START (R90): A pair unit in STOP with target RUN starts resynchronising when an active unit is present. -/
  | resyncStart
  /-- MIRROR_LAG (R363): An item waits more than 10 µs for a mirror acknowledgement. -/
  | mirrorLag (us : Nat)
  /-- INTENT_LAPSE (R328): Run intent lapses after 256 strokes without an offer. -/
  | intentLapse
  /-- UMPIRE_LOST (R352): The Umpire's I-frame has been missing for 16 strokes. -/
  | umpireLost
  /-- RESYNC (R359): PAIR_CMD RESYNC starts a resynchronisation. -/
  | resync (r : Req)
  /-- SPARE_LANE (R330): PAIR_CMD SPARE_LANE substitutes PL2 for a named lane. -/
  | spareLane (r : Req) (lane : Fin 4)
  /-- ABORT_RESYNC (R360): PAIR_CMD ABORT_RESYNC interrupts a resynchronisation. -/
  | abortResync (r : Req)
  /-- STOP (R86): SYS_CMD STOP moves RUN to STOP. -/
  | stop (r : Req)
  /-- START_WARM (R78): SYS_CMD START_WARM requests a warm restart. -/
  | startWarm (r : Req)
  /-- START_COLD (R78): SYS_CMD START_COLD requests a cold restart. -/
  | startCold (r : Req)
  /-- RESET (R86): SYS_CMD RESET makes a host-command reset. -/
  | reset (r : Req)
  /-- PERSIST (R93): SYS_CMD PERSIST starts writing SYS_PONTGT and SYS_RSTCFG to two flash copies. -/
  | persist (r : Req)
  /-- PERSIST_DONE (R93): The persisted settings write completes or fails. -/
  | persistDone (bad0 bad1 : List Nat)
  /-- COLD_CONSENT (R78): SYS_CMD COLD_CONSENT gives consent to a cold start. -/
  | coldConsent (r : Req)
  /-- HOLD (R364): SYS_CMD HOLD detaches a standby into HOLD. -/
  | hold (r : Req)
  /-- RELEASE (R365): SYS_CMD RELEASE returns a unit from HOLD to STOP. -/
  | release (r : Req)
  /-- SWAP (R355): SYS_CMD SWAP requests that the standby become active. -/
  | swap (r : Req)
  /-- POWER_ON (R64): VIN24 rises above the start threshold and the power-on sequence begins.
  Operands: the calendar domain has been without power; the lowest VBAT in mV that it recorded during the outage (15 R500, R501). -/
  | powerOn (calLost : Bool) (vbatMin : Nat)
  /-- STRAP_INSTANT (R55): The Marshal is released and the straps are sampled. -/
  | strapInstant (role : Fin 4) (recov : Fin 2) (delay : Fin 8)
  /-- REFCLK_READY (R465): The REFCLK ready flag sets after the strap delay and the PLL starts. -/
  | refclkReady
  /-- PLL_LOCK (R466): The PLL locks and the domains switch to their PLL sources. -/
  | pllLock (coastMs : Nat)
  /-- PLL_LOCK_TIMEOUT (R66): The PLL has not locked within 2 ms, so the bus reference is tried or the diagnostic floor is held. -/
  | pllLockTimeout
  /-- HP_ERR_RELEASE (R64): HP_ERR_n is released 0.1 ms after lock and the host port enters service. -/
  | hpErrRelease
  /-- BOOT2_VERIFIED (R64): The ROM completes verification of the BOOT2 slot. -/
  | boot2Verified (passA passB : Bool)
  /-- REGIONS_LOADED (R65): BOOT2 completes verification of FW, MARSHAL, TABLES and CONFIG. -/
  | regionsLoaded (passA passB : BitVec 4) (width height : Nat) (table : List (BitVec 8)) (config : List (Nat × BitVec 32))
  /-- RECALL_DONE (R390): Retain recall completes from the newest committed generation. -/
  | recallDone (crcBad ue : List (Fin 2))
  /-- RETAIN_CHECK (R61): The code check of retain SRAM after a reset without supply loss completes. -/
  | retainCheck (pass : Bool)
  /-- SELF_TEST_COMPLETE (R64): Self-test completes, floors are evaluated and spares substituted. -/
  | selfTestComplete (paths failed : BitVec 5) (banks : BitVec 17) (evtCox io loop : Bool)
  /-- PROGRAM_LOADED (R64): The program is loaded from flash and its signature and code checked. -/
  | programLoaded (okA okB : Bool)
  /-- INIT_END (R95): INIT ends and the module enters its power state and target mode. -/
  | initEnd
  /-- PATH_RETRY (R72): With the diagnostic floor unmet the Marshal retries every service path once per second. -/
  | pathRetry (host eth1 radio : Bool)
  /-- FLOOR_CHANGE (R74): A floor element changes state and SYS_FLOOR is re-evaluated. -/
  | floorChange (e : FloorPart) (working : Bool)
  /-- SUPPLY_FAIL (R245): VIN24 below 17.5 V for 50 µs sets the supply-fail latch and starts the store and shutdown. -/
  | supplyFail (mv : Nat)
  /-- SUPPLY_RETURN (R63): VIN24 returns above the start threshold after a supply-fail store and resets the module.
  Operands as of POWER_ON. -/
  | supplyReturn (calLost : Bool) (vbatMin : Nat)
  /-- RST_N (R59): RST_n held low for at least 10 µs resets the module. -/
  | rstN
  /-- VIN_LOW (R245): VIN24 below 19.2 V for 1 ms raises a warning. -/
  | vinLow (mv : Nat)
  /-- VOUTA_LOW (R245): VOUT24A below 19.2 V for 1 ms raises a warning. -/
  | voutaLow (mv : Nat)
  /-- VOUTB_LOW (R245): VOUT24B below 19.2 V for 1 ms raises a warning. -/
  | voutbLow (mv : Nat)
  /-- HUREADY (R396): HOLDUP first reaches its ready voltage and HUREADY sets. -/
  | huready
  /-- HOLDUP_MEASURE (R397): The Marshal measures the hold-up capacitance at its scheduled time. -/
  | holdupMeasure (uf : Nat)
  /-- P0 (R225): PWR_CMD requests P0. -/
  | p0 (r : Req)
  /-- P1 (R225): PWR_CMD requests P1. -/
  | p1 (r : Req)
  /-- P2 (R225): PWR_CMD requests P2. -/
  | p2 (r : Req)
  /-- PARK (R229): PWR_CMD requests PARK. -/
  | park (r : Req)
  /-- STORE (R387): RETAIN_CMD STORE requests a commanded retain store. -/
  | store (r : Req)
  /-- STORE_DONE (R385): Every bank has copied and the commit record is written COMMITTED. -/
  | storeDone (us mv : Nat)
  /-- SCRUB (R43): A reserved background cycle scrubs or checks one word, burst or page. -/
  | scrub (op : ScrubOp)
  /-- MAIN_SCRUB_LATE (R44): A background activity has not completed a pass within its completion interval. -/
  | mainScrubLate (op : LateOp)
  /-- CORRECTED_WRITE_BACK (R369): A corrected word is written back in the first free cycle. -/
  | correctedWriteBack (m : MemSel) (off : Nat)
  /-- ROW_REPLACED (R373): A row with a hard error has been copied to a spare row and mapped. -/
  | rowReplaced (bank row : Nat) (words : List (Nat × Ecc))
  /-- BANK_SPARED (R374): The spare bank copy completes and the mapping switches. -/
  | bankSpared (words : List (Nat × Ecc))
  /-- MARGIN_READ (R393): A shadow page is read at the tightened threshold and compared. -/
  | marginRead (slot : Fin 2) (page : Nat) (differs : Bool) (e : Ecc)
  /-- RETAIN_WRITE_BURST (R382): A host write burst to retain memory is applied word by word. -/
  | retainWriteBurst (start : BitVec 21) (words : List (BitVec 32 × BitVec 4 × Ecc))
  /-- HOST_DATA_WRITE (R139): A host write to the M area or instance data is queued for the next admission and forwarded in a pair. -/
  | hostDataWrite (w : BitVec 22) (op : HostOp) (be : BitVec 4)
  /-- ACCESS_TIMEOUT (R561): A host access waits HOST_CFG.TMO and fails with TIMEOUT. -/
  | accessTimeout (w : BitVec 22) (write : Bool) (cycles : Nat)
  /-- EDIT_OPEN (R159): EDIT_CMD OPEN opens an edit transaction. -/
  | editOpen (r : Req)
  /-- BLOCK (R160): EDIT_CMD BLOCK starts a block of the transaction. -/
  | block (r : Req)
  /-- EDIT_WDATA (R160): A write to EDIT_WDATA appends 4 bytes to the current block. -/
  | editWdata (r : Req) (v : BitVec 32)
  /-- COMMIT (R162): EDIT_CMD COMMIT checks the transaction and starts writing it to flash. -/
  | commit (r : Req)
  /-- EDIT_ABORT (R170): EDIT_CMD ABORT ends a pending transaction. -/
  | editAbort (r : Req)
  /-- ELIGIBLE (R158): The transaction's flash write completes in every unit and it becomes ELIGIBLE. -/
  | eligible (bad : List Nat)
  /-- NEVER_IDLE (R166): No qualifying boundary within EDIT_TMO strokes fails the transaction. -/
  | neverIdle
  /-- APPLY (R148): FORCE_CMD APPLY schedules the staged forcing table for the next stroke start. -/
  | apply (r : Req)
  /-- CLEAR_ALL (R149): FORCE_CMD CLEAR_ALL clears both forcing tables at the next stroke start. -/
  | clearAll (r : Req)
  /-- REVERT (R148): FORCE_CMD REVERT copies the table in force back to the staged copy. -/
  | revert (r : Req)
  /-- EXEC_STOPREQ (R157): The program requests STOP through EXEC_STOPREQ. -/
  | execStopreq (r : Req) (v : BitVec 32)
  /-- EXEC_STROKELO (R10): A read of EXEC_STROKELO snapshots the extended stroke number. -/
  | execStrokelo (r : Req)
  /-- EXEC_SCANLO (R10): A read of EXEC_SCANLO snapshots the reading core's scan stroke. -/
  | execScanlo (r : Req)
  /-- PWR_EMODLO (R10): A read of PWR_EMODLO snapshots the module energy. -/
  | pwrEmodlo (r : Req)
  /-- HALT (R216): CORE_DBGCMD HALT stops the core at its next instruction boundary. -/
  | halt (r : Req) (c : Fin 5)
  /-- RESUME (R216): CORE_DBGCMD RESUME continues a halted core. -/
  | resume (r : Req) (c : Fin 5)
  /-- STEP (R216): CORE_DBGCMD STEP executes one instruction and halts. -/
  | step (r : Req) (c : Fin 5)
  /-- RUNTASK (R217): CORE_DBGCMD RUNTASK starts one execution of a task on an idle core. -/
  | runtask (r : Req) (c : Fin 5) (task : Fin 64)
  /-- EVT_PNHEAD (R119): A read of EVT_PnHEAD removes the next entry of the port and shadows it. -/
  | evtPnhead (r : Req) (port : Fin 4)
  /-- EVT_RAISE (R123): The program raises an event on ES240-ES255 with EVT_RDATA as data. -/
  | evtRaise (r : Req) (source : BitVec 8) (code : BitVec 7)
  /-- PG_EVFORCE (R105): A PG_EVFORCE write sets a pending bit and raises a forced entry. -/
  | pgEvforce (r : Req) (page : BitVec 7) (bits : BitVec 32)
  /-- LOCK (R109): PG_LOCKKEY command 0x4C4B locks the page with a key. -/
  | lock (r : Req) (page : BitVec 7) (key : BitVec 16)
  /-- UNLOCK (R109): PG_LOCKKEY command 0x554C unlocks the page when the key matches. -/
  | unlock (r : Req) (page : BitVec 7) (key : BitVec 16)
  /-- BLOCK_RESET (R101): A write of PG_CTL.BRST resets the block and fails its work in flight. -/
  | blockReset (r : Req) (page : BitVec 7)
  /-- BLOCK_DISABLE (R103): A write of PG_CTL.EN enables or disables the block. -/
  | blockDisable (r : Req) (page : BitVec 7) (en : Bool)
  /-- REGISTER_WRITE (R8): A write to a register without a row of its own updates the fields its access types accept. -/
  | registerWrite (r : Req) (w : BitVec 17) (v : BitVec 32) (be : BitVec 4)
  /-- LOOP_TDATA (R256): A read or write of LOOP_TDATA accesses a table word and advances the index. -/
  | loopTdata (r : Req) (write : Option (BitVec 32))
  /-- NOP (R184): The NOP instruction does nothing. -/
  | nop (x : At)
  /-- NOT (R189): LAOP NOT inverts LA. -/
  | not (x : At)
  /-- SET1 (R189): LAOP SET1 sets LA to 1. -/
  | set1 (x : At)
  /-- CLR (R189): LAOP CLR clears LA. -/
  | clr (x : At)
  /-- PUSH (R189): LAOP PUSH pushes LA onto the LA stack. -/
  | push (x : At)
  /-- POP (R189): LAOP POP loads LA from the LA stack. -/
  | pop (x : At)
  /-- POPAND (R189): LAOP POPAND ANDs the popped entry into LA. -/
  | popand (x : At)
  /-- POPOR (R189): LAOP POPOR ORs the popped entry into LA. -/
  | popor (x : At)
  /-- POPXOR (R189): LAOP POPXOR XORs the popped entry into LA. -/
  | popxor (x : At)
  /-- GETLA (R189): LAOP GETLA copies LA into a register. -/
  | getla (x : At) (rd : BitVec 5)
  /-- PUTLA (R189): LAOP PUTLA sets LA from a register being non-zero. -/
  | putla (x : At) (ra : BitVec 5)
  /-- TSTB (R189): LAOP TSTB loads LA from a register bit. -/
  | tstb (x : At) (ra k : BitVec 5)
  /-- PUTB (R189): LAOP PUTB writes LA into a register bit. -/
  | putb (x : At) (rd ra k : BitVec 5)
  /-- CONDLA (R189): LAOP CONDLA sets LA from a condition on FL. -/
  | condla (x : At) (c : BitVec 4)
  /-- BRK (R218): SYS BRK halts the core in STOP or HOLD and faults in RUN or TRACK. -/
  | brk (x : At)
  /-- LD (R186): LD loads LA from a memory bit. -/
  | ld (x : At) (op : BitOp) (d : Ecc)
  /-- LDN (R186): LDN loads LA from the inverted memory bit. -/
  | ldn (x : At) (op : BitOp) (d : Ecc)
  /-- AND (R186): AND combines a memory bit into LA. -/
  | and (x : At) (op : BitOp) (d : Ecc)
  /-- ANDN (R186): ANDN combines the inverted memory bit into LA. -/
  | andn (x : At) (op : BitOp) (d : Ecc)
  /-- OR (R186): OR combines a memory bit into LA. -/
  | or (x : At) (op : BitOp) (d : Ecc)
  /-- ORN (R186): ORN combines the inverted memory bit into LA. -/
  | orn (x : At) (op : BitOp) (d : Ecc)
  /-- XOR (R186): XOR combines a memory bit into LA. -/
  | xor (x : At) (op : BitOp) (d : Ecc)
  /-- XORN (R186): XORN combines the inverted memory bit into LA. -/
  | xorn (x : At) (op : BitOp) (d : Ecc)
  /-- ST (R186): ST stores LA into a memory bit. -/
  | st (x : At) (op : BitOp) (d : Ecc)
  /-- STN (R186): STN stores NOT LA into a memory bit. -/
  | stn (x : At) (op : BitOp) (d : Ecc)
  /-- SET (R186): SET sets a memory bit when LA is 1. -/
  | set (x : At) (op : BitOp) (d : Ecc)
  /-- RST (R186): RST clears a memory bit when LA is 1. -/
  | rst (x : At) (op : BitOp) (d : Ecc)
  /-- RE (R186): RE detects a rising edge of LA against its memory bit. -/
  | re (x : At) (op : BitOp) (d : Ecc)
  /-- FE (R186): FE detects a falling edge of LA against its memory bit. -/
  | fe (x : At) (op : BitOp) (d : Ecc)
  /-- PUSHLD (R186): PUSHLD pushes LA and loads a memory bit. -/
  | pushld (x : At) (op : BitOp) (d : Ecc)
  /-- PUSHLDN (R186): PUSHLDN pushes LA and loads the inverted memory bit. -/
  | pushldn (x : At) (op : BitOp) (d : Ecc)
  /-- ADD (R190): ALU ADD adds with wrap. -/
  | add (x : At) (rd ra rb : BitVec 5)
  /-- ADDS (R190): ALU ADDS adds with signed saturation. -/
  | adds (x : At) (rd ra rb : BitVec 5)
  /-- SUB (R190): ALU SUB subtracts with wrap. -/
  | sub (x : At) (rd ra rb : BitVec 5)
  /-- SUBS (R190): ALU SUBS subtracts with signed saturation. -/
  | subs (x : At) (rd ra rb : BitVec 5)
  /-- CMP (R190): ALU CMP sets flags as SUB. -/
  | cmp (x : At) (ra rb : BitVec 5)
  /-- MUL (R190): ALU MUL gives the low 32 bits of the product. -/
  | mul (x : At) (rd ra rb : BitVec 5)
  /-- MULS (R190): ALU MULS multiplies with signed saturation. -/
  | muls (x : At) (rd ra rb : BitVec 5)
  /-- MULH (R190): ALU MULH gives the high half of the signed product. -/
  | mulh (x : At) (rd ra rb : BitVec 5)
  /-- MULHU (R190): ALU MULHU gives the high half of the unsigned product. -/
  | mulhu (x : At) (rd ra rb : BitVec 5)
  /-- DIV (R195): ALU DIV divides signed with defined results for all cases. -/
  | div (x : At) (rd ra rb : BitVec 5)
  /-- DIVU (R195): ALU DIVU divides unsigned. -/
  | divu (x : At) (rd ra rb : BitVec 5)
  /-- REM (R195): ALU REM gives the signed remainder. -/
  | rem (x : At) (rd ra rb : BitVec 5)
  /-- REMU (R195): ALU REMU gives the unsigned remainder. -/
  | remu (x : At) (rd ra rb : BitVec 5)
  /-- ALU_AND (R190): ALU AND of two registers. -/
  | aluAnd (x : At) (rd ra rb : BitVec 5)
  /-- ALU_OR (R190): ALU OR of two registers. -/
  | aluOr (x : At) (rd ra rb : BitVec 5)
  /-- ALU_XOR (R190): ALU XOR of two registers. -/
  | aluXor (x : At) (rd ra rb : BitVec 5)
  /-- ALU_ANDN (R190): ALU ANDN of two registers. -/
  | aluAndn (x : At) (rd ra rb : BitVec 5)
  /-- SHL (R190): ALU SHL shifts left. -/
  | shl (x : At) (rd ra rb : BitVec 5)
  /-- SHR (R190): ALU SHR shifts right logically. -/
  | shr (x : At) (rd ra rb : BitVec 5)
  /-- SAR (R190): ALU SAR shifts right arithmetically. -/
  | sar (x : At) (rd ra rb : BitVec 5)
  /-- ROL (R190): ALU ROL rotates left. -/
  | rol (x : At) (rd ra rb : BitVec 5)
  /-- MIN (R190): ALU MIN gives the signed minimum. -/
  | min (x : At) (rd ra rb : BitVec 5)
  /-- MAX (R190): ALU MAX gives the signed maximum. -/
  | max (x : At) (rd ra rb : BitVec 5)
  /-- MINU (R190): ALU MINU gives the unsigned minimum. -/
  | minu (x : At) (rd ra rb : BitVec 5)
  /-- MAXU (R190): ALU MAXU gives the unsigned maximum. -/
  | maxu (x : At) (rd ra rb : BitVec 5)
  /-- NEG (R190): ALU NEG negates with saturation. -/
  | neg (x : At) (rd ra : BitVec 5)
  /-- ABS (R190): ALU ABS gives the saturated absolute value. -/
  | abs (x : At) (rd ra : BitVec 5)
  /-- SEL (R190): ALU SEL selects a register by LA. -/
  | sel (x : At) (rd ra rb : BitVec 5)
  /-- ADDI (R191): ADDI adds a sign-extended immediate. -/
  | addi (x : At) (rd ra : BitVec 5) (imm : BitVec 15)
  /-- ANDI (R191): ANDI ANDs a zero-extended immediate. -/
  | andi (x : At) (rd ra : BitVec 5) (imm : BitVec 15)
  /-- ORI (R191): ORI ORs a zero-extended immediate. -/
  | ori (x : At) (rd ra : BitVec 5) (imm : BitVec 15)
  /-- XORI (R191): XORI XORs a zero-extended immediate. -/
  | xori (x : At) (rd ra : BitVec 5) (imm : BitVec 15)
  /-- CMPI (R191): CMPI compares with a sign-extended immediate. -/
  | cmpi (x : At) (ra : BitVec 5) (imm : BitVec 15)
  /-- SHI (R191): SHI shifts or rotates by an immediate of the selected kind. -/
  | shi (x : At) (rd ra : BitVec 5) (kind : BitVec 2) (amount : BitVec 5)
  /-- LUI (R191): LUI loads an upper immediate. -/
  | lui (x : At) (rd : BitVec 5) (imm : BitVec 20)
  /-- LDW (R193): LDW loads a word. -/
  | ldw (x : At) (rd ra : BitVec 5) (imm : BitVec 15) (d : Ecc)
  /-- STW (R193): STW stores a word. -/
  | stw (x : At) (rd ra : BitVec 5) (imm : BitVec 15) (d : Ecc)
  /-- LDH (R193): LDH loads a sign-extended halfword. -/
  | ldh (x : At) (rd ra : BitVec 5) (imm : BitVec 15) (d : Ecc)
  /-- LDHU (R193): LDHU loads a zero-extended halfword. -/
  | ldhu (x : At) (rd ra : BitVec 5) (imm : BitVec 15) (d : Ecc)
  /-- LDB (R193): LDB loads a sign-extended byte. -/
  | ldb (x : At) (rd ra : BitVec 5) (imm : BitVec 15) (d : Ecc)
  /-- LDBU (R193): LDBU loads a zero-extended byte. -/
  | ldbu (x : At) (rd ra : BitVec 5) (imm : BitVec 15) (d : Ecc)
  /-- STH (R193): STH stores a halfword. -/
  | sth (x : At) (rd ra : BitVec 5) (imm : BitVec 15) (d : Ecc)
  /-- STB (R193): STB stores a byte. -/
  | stb (x : At) (rd ra : BitVec 5) (imm : BitVec 15) (d : Ecc)
  /-- FADD (R194): FPU FADD adds binary32 values. -/
  | fadd (x : At) (rd ra rb : BitVec 5)
  /-- FSUB (R194): FPU FSUB subtracts binary32 values. -/
  | fsub (x : At) (rd ra rb : BitVec 5)
  /-- FMUL (R194): FPU FMUL multiplies binary32 values. -/
  | fmul (x : At) (rd ra rb : BitVec 5)
  /-- FDIV (R196): FPU FDIV divides binary32 values. -/
  | fdiv (x : At) (rd ra rb : BitVec 5)
  /-- FMIN (R196): FPU FMIN gives the minimum. -/
  | fmin (x : At) (rd ra rb : BitVec 5)
  /-- FMAX (R196): FPU FMAX gives the maximum. -/
  | fmax (x : At) (rd ra rb : BitVec 5)
  /-- FCMP (R194): FPU FCMP sets flags from a binary32 comparison. -/
  | fcmp (x : At) (ra rb : BitVec 5)
  /-- FABS (R194): FPU FABS clears the sign. -/
  | fabs (x : At) (rd ra : BitVec 5)
  /-- FNEG (R194): FPU FNEG inverts the sign. -/
  | fneg (x : At) (rd ra : BitVec 5)
  /-- FSQRT (R196): FPU FSQRT gives the square root. -/
  | fsqrt (x : At) (rd ra : BitVec 5)
  /-- ITOF (R194): FPU ITOF converts an integer to binary32. -/
  | itof (x : At) (rd ra : BitVec 5)
  /-- FTOI (R195): FPU FTOI converts to an integer rounded toward zero. -/
  | ftoi (x : At) (rd ra : BitVec 5)
  /-- FTOIR (R195): FPU FTOIR converts to an integer rounded to nearest. -/
  | ftoir (x : At) (rd ra : BitVec 5)
  /-- B (R201): B branches when its condition holds. -/
  | b (x : At) (c : BitVec 4) (disp : BitVec 21)
  /-- BLA (R201): BLA branches when LA is 1. -/
  | bla (x : At) (disp : BitVec 21)
  /-- BNLA (R201): BNLA branches when LA is 0. -/
  | bnla (x : At) (disp : BitVec 21)
  /-- JR (R201): JR jumps to a register address. -/
  | jr (x : At) (ra : BitVec 5)
  /-- CALL (R203): CALL saves a frame in the window file and jumps to a direct target. -/
  | call (x : At) (tgt : BitVec 22) (mask : BitVec 16)
  /-- CALLR (R203): CALLR saves a frame and jumps to a register target. -/
  | callr (x : At) (ra : BitVec 5) (mask : BitVec 16)
  /-- RET (R204): RET restores the saved frame and returns, or completes the execution. -/
  | ret (x : At) (d : Ecc)
  /-- TON (R197): TON evaluates an on-delay timer block. -/
  | ton (x : At) (ra : BitVec 5) (off : BitVec 15) (d : Ecc)
  /-- TOF (R197): TOF evaluates an off-delay timer block. -/
  | tof (x : At) (ra : BitVec 5) (off : BitVec 15) (d : Ecc)
  /-- TP (R197): TP evaluates a pulse timer block. -/
  | tp (x : At) (ra : BitVec 5) (off : BitVec 15) (d : Ecc)
  /-- CTR (R198): CTR evaluates a counter block. -/
  | ctr (x : At) (ri ra : BitVec 5) (off : BitVec 15) (d : Ecc)
  /-- NET_SUBMIT (R406): NET_TXCMD SUBMIT submits a network send item. -/
  | netSubmit (r : Req)
  /-- SESS_OPEN (R405): SESS_CMD OPEN opens a session context. -/
  | sessOpen (r : Req) (sess : Fin 128)
  /-- SESS_CLOSE (R405): SESS_CMD CLOSE sends FIN after submitted items. -/
  | sessClose (r : Req) (sess : Fin 128)
  /-- SESS_ABORT (R405): SESS_CMD ABORT sends RST at once. -/
  | sessAbort (r : Req) (sess : Fin 128)
  /-- TCP_SEGMENT (R409): A TCP segment is received, mirrored and acknowledged. -/
  | tcpSegment (e : EthFrom) (g : TcpSeg)
  /-- UDP_DATAGRAM (R408): A UDP datagram is received and queued for its session. -/
  | udpDatagram (e : EthFrom) (sport dport : Nat) (data : List (BitVec 8))
  /-- ARP (R403): An ARP or Neighbour Solicitation for the module's address is received and answered. -/
  | arp (eth2 : Bool) (target : ArpTarget)
  /-- TXTMO_EXPIRY (R407): A network item's lifetime NET_TXTMO expires. -/
  | txtmoExpiry (id : BitVec 16)
  /-- RETRANSMISSION_TIMEOUT (R407): A TCP retransmission timer expires and the segment is resent or the limit is reached. -/
  | retransmissionTimeout (sess : Fin 128)
  /-- NO_ROUTE (R407): No ARP or Neighbour Discovery answer within 3 s fails the item. -/
  | noRoute (sess : Fin 128)
  /-- KEEPALIVE (R401): A TCP keepalive timer expires. -/
  | keepalive (sess : Fin 128)
  /-- ADDRESS_AGEING (R402): A learned MAC address ages out after 300 s. -/
  | addressAgeing (mac : BitVec 48)
  /-- ANNOUNCED (R404): A gratuitous ARP and Neighbour Advertisement are sent after takeover. -/
  | announced
  /-- ETH_LINK_CHANGE (R401): ETH1 or ETH2 changes link state or speed. -/
  | ethLinkChange (eth2 : Bool) (speed : Fin 3)
  /-- NET_RXINFO (R408): A read of NET_RXINFO opens the next datagram or reports TCP bytes. -/
  | netRxinfo (r : Req)
  /-- NET_RXDATA (R408): A read of NET_RXDATA consumes 4 received bytes. -/
  | netRxdata (r : Req)
  /-- ANNOUNCE (R412): A PTP Announce message is received for time-transmitter selection. -/
  | announce (m : PtpAnnounce)
  /-- SYNC (R412): A PTP Sync message is received and time of day is stepped or slewed. -/
  | sync (identity domain seq : Nat) (twoStep : Bool) (origin : Int)
  /-- TOD_HOLDOVER (R412): No Sync for 3 s puts time of day into HOLDOVER. -/
  | todHoldover
  /-- NET_TODOFSLO (R10): A read of NET_TODOFSLO snapshots the time-of-day mapping. -/
  | netTodofslo (r : Req)
  /-- RADIO_SUBMIT (R415): RADIO_CMD SUBMIT queues a radio item. -/
  | radioSubmit (r : Req)
  /-- RADIO_ACK (R416): RADIO_CMD ACK reports the acknowledgement of an item. -/
  | radioAck (r : Req)
  /-- RADIO_CANCEL (R416): RADIO_CMD CANCEL fails an item not begun. -/
  | radioCancel (r : Req)
  /-- DCD_CHANGE (R415): The DCD input changes. -/
  | dcdChange (level : Bool)
  /-- CTS (R415): CTS is asserted during a wait. -/
  | cts
  /-- CTS_TIMEOUT (R415): The CTS wait ends without CTS and RTS is released. -/
  | ctsTimeout
  /-- KEYUP (R415): The key-up delay ends and the first start bit is sent. -/
  | keyup
  /-- ITEM_COMPLETED (R416): The last stop bit of a radio item is sent. -/
  | itemCompleted
  /-- TAIL (R415): The tail time ends and RTS is released. -/
  | tail
  /-- NO_ACK (R416): ACKTMO expires and the item is possibly delivered. -/
  | noAck (id : BitVec 16)
  /-- RADIO_EXPIRED (R416): A radio item's lifetime expires. -/
  | radioExpired (id : BitVec 16)
  /-- RX_CHARACTER (R417): A character is received on the radio port. -/
  | rxCharacter (c : BitVec 8) (overrun parity framing : Bool) (start : BitVec 64)
  /-- RX_RECORD (R417): An idle gap of RADIO_GAP characters closes a receive record. -/
  | rxRecord
  /-- RADIO_RXINFO (R417): A read of RADIO_RXINFO opens the next record. -/
  | radioRxinfo (r : Req)
  /-- RADIO_RXDATA (R417): A read of RADIO_RXDATA consumes 4 record bytes. -/
  | radioRxdata (r : Req)
  /-- CAN_SUBMIT (R420): CANx_CMD SUBMIT queues a transmit item. -/
  | canSubmit (r : Req) (ctl : Fin 2)
  /-- CAN_CANCEL (R421): CANx_CMD CANCEL fails an item not on the bus. -/
  | canCancel (r : Req) (ctl : Fin 2)
  /-- RECOVER (R422): CANx_CMD RECOVER starts bus-off recovery. -/
  | recover (r : Req) (ctl : Fin 2)
  /-- ACK_DELIMITER (R421): The ACK delimiter of an item's frame ends and the item completes. -/
  | ackDelimiter (ctl : Fin 2)
  /-- ATTEMPT_ERROR (R420): A transmit attempt ends in a bus error and is retried while RETRY allows. -/
  | attemptError (ctl : Fin 2) (afterAck : Bool)
  /-- RECOVERED (R422): 128 occurrences of 11 recessive bits complete recovery. -/
  | recovered (ctl : Fin 2)
  /-- CAN_EXPIRED (R421): A CAN item's lifetime expires. -/
  | canExpired (ctl : Fin 2) (id : BitVec 16)
  /-- RX_FRAME (R423): A CAN frame is received, filtered and queued. -/
  | rxFrame (ctl : Fin 2) (f : CanFrame)
  /-- CANX_RXHEAD (R423): A read of CANx_RXHEAD opens the next received frame. -/
  | canxRxhead (r : Req) (ctl : Fin 2)
  /-- CANX_RXDATA (R423): A read of CANx_RXDATA consumes 4 data bytes. -/
  | canxRxdata (r : Req) (ctl : Fin 2)
  /-- DI_CHANGE (R429): A local input changes its raw level. -/
  | diChange (n : Fin 32) (level : Bool)
  /-- INPUT_FILTER (R429): A raw level held for the filter time becomes the filtered value. -/
  | inputFilter (n : Fin 32)
  /-- WIRE_BREAK (R430): Input current below the threshold for 100 ms marks a wire break. -/
  | wireBreak (n : Fin 32)
  /-- WIRE_OK (R430): Input current at the threshold for 100 ms ends a wire break. -/
  | wireOk (n : Fin 32)
  /-- OVERLOAD (R435): An output in current limit for the trip time switches off. -/
  | overload (ch : Fin 16)
  /-- OUTPUT_RESTART (R435): A tripped channel restarts 100 ms later while retries remain. -/
  | outputRestart (ch : Fin 16)
  /-- RETRY_RESET (R435): After 1 s on without a trip the retry count is restored. -/
  | retryReset (ch : Fin 16)
  /-- OVERTEMP (R436): A channel over-temperature trip switches it off. -/
  | overtemp (ch : Fin 16) (temp : Nat)
  /-- OPEN_WIRE (R438): An off output above 6 V for 50 ms has an open wire. -/
  | openWire (ch : Fin 16)
  /-- OPEN_WIRE_CLEARED (R438): An off output below 6 V for 50 ms ends the open wire. -/
  | openWireCleared (ch : Fin 16)
  /-- LEG_TEST (R440): The legs of a channel are tested at switching or once per second. -/
  | legTest (ch : Fin 16) (res : Option (Fin 2 × Bool))
  /-- LEG_SPARED (R441): Leg 2 takes the place of a failed leg 1. -/
  | legSpared (ch : Fin 16)
  /-- SPARE_LEG (R441): DIO_CMD SPARE_LEG brings in leg 2 of a channel. -/
  | spareLeg (r : Req) (ch : Fin 16)
  /-- GROUP_SUPPLY (R439): A group supply becomes present or absent. -/
  | groupSupply (g : Fin 2) (present : Bool)
  /-- SURGE (R443): A clamp current above 5 A for 1 µs counts a surge. -/
  | surge (g : Fin 8)
  /-- SAFE_ENTERED (R434): The logic-silence timer expires and outputs go to their safe state. -/
  | safeEntered
  /-- CLEAR (R451): PANEL_CMD CLEAR starts a clear update. -/
  | clear (r : Req)
  /-- FULL (R451): PANEL_CMD FULL starts a full update. -/
  | full (r : Req)
  /-- PARTIAL (R451): PANEL_CMD PARTIAL starts an update of a rectangle. -/
  | partialUpdate (r : Req)
  /-- MORDANT (R451): A MORDANT update of the mordant area starts. -/
  | mordant (via : Option Req)
  /-- INITIAL_CLEAR (R458): After self-test with a valid table and panel in range the Marshal starts a clear of the whole panel. -/
  | initialClear
  /-- REFRESH (R451): A REFRESH update falls due every PANEL_CFG.REFRESH hours. -/
  | refresh
  /-- RAILSUP (R446): A panel rail reaches 90 % and the next rail in the sequence is enabled. -/
  | railsup
  /-- RAIL_FAULT (R448): A rail misses its power-up or leaves its band and updates fail. -/
  | railFault (rail : Fin 5)
  /-- PANEL_FRAME (R452): A 20 ms frame boundary drives the next waveform frame of every update in progress. -/
  | panelFrame
  /-- RAILS_DOWN (R447): A rail falls below 10 % and the next rail is disabled. -/
  | railsDown
  /-- REFRESH_LATE (R463): A MORDANT update not completed within 60 s of being due. -/
  | refreshLate (seconds : Nat)
  /-- PANEL_WDATA (R445): A PANEL_WDATA access reaches a host-plane word and advances the address. -/
  | panelWdata (r : Req) (write : Option (BitVec 32))
  /-- PANEL_MWDATA (R460): A PANEL_MWDATA access reaches a mordant bitmap word and advances the address. -/
  | panelMwdata (r : Req) (write : Option (BitVec 32))
  /-- READY_CHANGE (R465): A clock source's ready flag sets or clears. -/
  | readyChange (src : Fin 12) (ready : Bool)
  /-- REF_LOST (R469): The PLL reference loses its ready flag and the PLL coasts. -/
  | refLost
  /-- CLK_SEL (R474): A write of CLK_SEL.PLLREF changes the PLL reference. -/
  | clkSel (r : Req) (ref : BitVec 2)
  /-- CLKOUT_SET (R476): A write of CLK_OUTCTL changes CLKOUT after its next falling edge. -/
  | clkoutSet (r : Req) (en : Bool) (src : BitVec 4) (div : BitVec 12)
  /-- FMC_START (R477): FMC_CMD START begins a frequency measurement. -/
  | fmcStart (r : Req)
  /-- FMC_ABORT (R478): FMC_CMD ABORT ends a measurement. -/
  | fmcAbort (r : Req)
  /-- FMC_DONE (R478): The gate completes or the reference is lost and the outcome is final. -/
  | fmcDone (count : Nat)
  /-- FMC_TIMEOUT (R478): A gate not completed within 1024 s fails. -/
  | fmcTimeout
  /-- SERVICE (R481): A write to WDT_SERVICE is judged against the window and check-ins. -/
  | service (r : Req) (count : Option Nat)
  /-- CHECKIN (R482): A core checks a task in through WDT_CHECKIN. -/
  | checkin (r : Req) (task : Fin 64)
  /-- EXPIRY (R483): The watchdog count reaches WDT_PERIOD and enters stage 1 or resets. -/
  | expiry
  /-- MONITOR_RESET (R486): The clock monitor finds the watchdog clock stopped and resets the module. -/
  | monitorReset
  /-- RTC_COMMIT (R493): RTC_CTL.COMMIT checks and loads the staged time. -/
  | rtcCommit (r : Req)
  /-- ARM (R496): RTC_CTL.ARM checks and arms the alarm. -/
  | arm (r : Req)
  /-- DISARM (R496): RTC_CTL.DISARM disarms the alarm. -/
  | disarm (r : Req)
  /-- SECOND_INCREMENT (R488): The calendar advances by one second. -/
  | secondIncrement
  /-- RTC_SEC (R491): A read of RTC_SEC snapshots the time group for the requester. -/
  | rtcSec (r : Req)
  /-- RTC_YEAR_HI (R491): A read of RTC_YEAR_HI releases the requester's shadow set. -/
  | rtcYearHi (r : Req)
  /-- SHADOW_RELEASE (R492): A shadow set held for 1 s releases itself. -/
  | shadowRelease (r : Req)
  /-- TRIM_SET (R499): A write of RTC_TRIM sets the rate trim from the next second. -/
  | trimSet (r : Req) (ppm10 : BitVec 16)
  /-- OSC_STOP (R501): No crystal edge for 2 ms stops the calendar count. -/
  | oscStop
  /-- MBX_SUBMIT (R505): MBX_SUBMIT SUBMIT accepts a mailbox command. -/
  | mbxSubmit (r : Req)
  /-- MBX_CANCEL (R507): MBX_SUBMIT CANCEL fails a command not begun. -/
  | mbxCancel (r : Req)
  /-- ECHO (R506): Mailbox ECHO returns its payload. -/
  | echo (late : Bool)
  /-- ENTER_RECOVERY (R67): A signed ENTER_RECOVERY resets the module into RECOVERY. -/
  | enterRecovery (late : Bool)
  /-- LOG_CLEAR (R523): A signed LOG_CLEAR removes every earlier record. -/
  | logClear (late : Bool)
  /-- SENSOR_SNAPSHOT (R506): Mailbox SENSOR_SNAPSHOT returns the sensor readings of one sweep. -/
  | sensorSnapshot (late : Bool)
  /-- SPARE_REPORT (R506): Mailbox SPARE_REPORT returns the spare inventory. -/
  | spareReport (late : Bool)
  /-- CLOSE_SESSIONS (R506): Mailbox CLOSE_SESSIONS closes every management session. -/
  | closeSessions (late : Bool)
  /-- DEADLINE (R507): A command not begun at its deadline fails. -/
  | deadline (id : Fin 65536)
  /-- MBX_NONCE0 (R508): A read of MBX_NONCE0 generates a fresh nonce. -/
  | mbxNonce0 (r : Req)
  /-- NONCE_EXPIRY (R508): A nonce expires after 600 s. -/
  | nonceExpiry (r : Req)
  /-- SESSION_OPEN (R547): A client's signed answer to the nonce opens a management session or is refused. -/
  | sessionOpen (radio : Bool) (keyId sig : List (BitVec 8))
  /-- MANAGEMENT_MESSAGE (R547): A management session message arrives, and a sequence gap closes the session. -/
  | managementMessage (n : Fin 4) (seq : BitVec 32)
  /-- MARSHAL_RESTART (R503): An uncorrectable Marshal SRAM error reloads and restarts the Marshal processor. -/
  | marshalRestart
  /-- TELEMETRY_SWEEP (R510): The Marshal reads every sensor and energy meter. -/
  | telemetrySweep (sensors : List (Option Int)) (nj us : Nat) (pages : List (Nat × Nat))
  /-- SWEEP_LATE (R512): A sweep taking more than 100 ms raises SWEEP_LATE. -/
  | sweepLate (ms : Nat)
  /-- CORE_FAILED (R515): A core fails on an uncorrectable error, no retirement for 100 µs or a failed self-test. -/
  | coreFailed (c : Fin 5) (cause : Fin 4) (bgBad : Bool)
  /-- SPARE_SELF_TEST (R515): The Marshal self-tests the spare core every second. -/
  | spareSelfTest (pass : Bool)
  /-- SUBST_CORE (R517): SPARE_CMD SUBST_CORE maps the spare to a logical core at the next boundary. -/
  | substCore (r : Req) (lcore : Fin 4)
  /-- TEST_SPARE (R515): SPARE_CMD TEST_SPARE self-tests the spare core now. -/
  | testSpare (r : Req)
  /-- RECORD_FLUSH (R522): Staged records are written to the event log in flash. -/
  | recordFlush (bad : List Nat)
  /-- TOKEN_GAIN (R521): A recorder token bucket gains one token each second. -/
  | tokenGain (src : Fin 256) (code : Fin 128)
  /-- LOG_RDATA0 (R525): A read of LOG_RDATA0 snapshots the selected record. -/
  | logRdata0 (r : Req) (stored : Option (List (BitVec 8)))
  /-- NEXT (R525): LOG_RCMD NEXT selects the nearest present record above. -/
  | next (r : Req)
  /-- PREV (R525): LOG_RCMD PREV selects the nearest present record below. -/
  | prev (r : Req)
  /-- FIRST (R525): LOG_RCMD FIRST selects the lowest record. -/
  | first (r : Req)
  /-- LAST (R525): LOG_RCMD LAST selects the highest record. -/
  | last (r : Req)
  /-- UPD_OPEN (R530): UPD_CMD OPEN opens an update of the selected region. -/
  | updOpen (r : Req)
  /-- UPD_WDATA (R531): A write of UPD_WDATA takes 4 image bytes, and the header is checked at byte 3583. -/
  | updWdata (r : Req) (v : BitVec 32)
  /-- FINISH (R532): UPD_CMD FINISH checks the length and digest of the image. -/
  | finish (r : Req)
  /-- STAGED (R532): The final writes and read-back complete and the slot becomes STAGED or the program is loaded. -/
  | staged (n : Fin 16) (bad : List Nat)
  /-- UPD_ABORT (R533): UPD_CMD ABORT fails an open update. -/
  | updAbort (r : Req)
  /-- UNSTAGE (R534): UPD_CMD UNSTAGE invalidates the STAGED slot. -/
  | unstage (r : Req)
  /-- UPD_TIMEOUT (R533): 600 s without a write fails an open update. -/
  | updTimeout (n : Fin 16)
  /-- REBOOT (R544): UPD_CMD REBOOT or a REBOOT recovery frame makes a host-command reset in RECOVERY. -/
  | reboot (via : RebootBy)
  /-- WRITE (R542): A WRITE recovery frame delivers image bytes at an offset. -/
  | write (radio : Bool) (n : Fin 256) (offset : BitVec 32) (seq : BitVec 16) (data : List (BitVec 8)) (crcOk : Bool)
  /-- STATUS (R542): A STATUS recovery frame is answered with the update state. -/
  | status (radio : Bool) (n : Fin 256) (seq : BitVec 16) (crcOk : Bool)
  /-- KCMD_OPEN (R546): SEC_KCMD OPEN clears the key command data. -/
  | kcmdOpen (r : Req)
  /-- ENROLL (R546): SEC_KCMD ENROLL enrols an operator key. -/
  | enroll (r : Req)
  /-- REVOKE (R546): SEC_KCMD REVOKE revokes an operator key. -/
  | revoke (r : Req)
  /-- REPORT (R549): SEC_ATTCMD REPORT builds a signed attestation report. -/
  | report (r : Req)
  /-- CERT (R549): SEC_ATTCMD CERT returns the identity certificate. -/
  | cert (r : Req)
  /-- SEC_ATTDATA (R549): A read of SEC_ATTDATA consumes 4 bytes of the result. -/
  | secAttdata (r : Req)
  /-- SEC_PROFSEL (R551): A write of SEC_PROFSEL stores the profile for the next reset. -/
  | secProfsel (r : Req) (prof : BitVec 8)
  /-- ILLEGAL_INSTR (R183): A fetched word with an unassigned opcode, FN or SHI kind is executed and faults the task. -/
  | illegalInstr (x : At) (w : BitVec 32)
  /-- MESSAGE_ACKNOWLEDGEMENT (R329): The other unit's acknowledgement of a pair-link message arrives. -/
  | messageAcknowledgement (m : AckMsg)
  /-- DATAGRAM_SENT (R407): The last byte of a UDP datagram leaves the MAC and the item completes. -/
  | datagramSent (id : BitVec 16)
  /-- REPORT_DONE (R549): Building of the attestation report or certificate completes and SEC_ATTSTAT becomes READY. -/
  | reportDone (r : Req)
  /-- FIRST_NODE_CLOCK (R326): In SV2210 mode the first node's clock is read in the service window and the timebase slews to it, or the first node is found lost. -/
  | firstNodeClock (present : Bool) (offset : Int)
  /-- ECHO_REQUEST (R401): An ICMP or ICMPv6 echo request is received and answered. -/
  | echoRequest (e : EthFrom) (target : ArpTarget) (data : List (BitVec 8))
  /-- BRIDGED_FRAME (R402): An Ethernet frame arrives that is forwarded, learned or flooded by the switch, or dropped and counted. -/
  | bridgedFrame (eth2 : Bool) (dst src : BitVec 48) (len tags : Nat)
  /-- DELAY_RESP (R412): A PTP Delay_Resp message is received for the end-to-end delay measurement. -/
  | delayResp (identity domain seq : Nat) (arrival : Int)
  /-- FOLLOW_UP (R412): A PTP Follow_Up message carrying the precise origin time of a two-step Sync is received. -/
  | followUp (identity domain seq : Nat) (origin : Int)
  /-- RESTART_TEMPERATURE (R436): A channel tripped for over-temperature cools to its restart temperature and may restart. -/
  | restartTemperature (ch : Fin 16)
  /-- MBX_RDATA (R506): A read of MBX_RDATA consumes the next 4 response bytes of the selected command. -/
  | mbxRdata (r : Req)
  /-- FBC_ACQ_RDATA (R319): A read of FBC_ACQ_RDATA returns the next 4 response bytes of the selected acyclic request and advances. -/
  | fbcAcqRdata (r : Req)
  deriving DecidableEq, Repr

end Sys2Proof
end

