-- ==== Sys2Proof/Machine/Float.lean ====
section
/-!
DEFINITION. Machine/Float.lean: binary floating point by exact integers and one rounding (05 R196): every operation
computes the exact value of its operands and rounds it once to nearest, ties to even; subnormals are read and delivered as
zeros. The same functions serve binary32 and binary64, a format being given by its precision and its exponent range.
-/

namespace Sys2Proof.Machine

/-- A binary interchange format: bits of the fraction field and of the exponent field. -/
structure Fmt where
  frac : Nat
  ex : Nat
  deriving DecidableEq, Repr

def b32 : Fmt := ⟨23, 8⟩
def b64 : Fmt := ⟨52, 11⟩

/-- The exponent bias, and the exponent of the lowest bit of the smallest normal number's significand. -/
def Fmt.bias (f : Fmt) : Nat := 2 ^ (f.ex - 1) - 1

/-- A number as its operand reads: NaN, an infinity, or sign, significand and the exponent of its lowest bit. -/
inductive FVal where
  | nan
  | inf (neg : Bool)
  | fin (neg : Bool) (m : Nat) (e : Int)
  deriving DecidableEq, Repr

/-- Reads a number (R196: a subnormal is a zero of the same sign). -/
def Fmt.unpack (f : Fmt) (w : Nat) : FVal :=
  let neg := w / 2 ^ (f.frac + f.ex) % 2 = 1
  let ex := w / 2 ^ f.frac % 2 ^ f.ex
  let fr := w % 2 ^ f.frac
  if ex = 2 ^ f.ex - 1 then (if fr = 0 then .inf neg else .nan)
  else if ex = 0 then .fin neg 0 0
  else .fin neg (2 ^ f.frac + fr) ((ex : Int) - f.bias - f.frac)

def Fmt.signBit (f : Fmt) (neg : Bool) : Nat := if neg then 2 ^ (f.frac + f.ex) else 0
def Fmt.zero (f : Fmt) (neg : Bool) : Nat := f.signBit neg
def Fmt.infinity (f : Fmt) (neg : Bool) : Nat := f.signBit neg + (2 ^ f.ex - 1) * 2 ^ f.frac

/-- The canonical NaN (R196: 0x7FC0_0000). -/
def Fmt.qnan (f : Fmt) : Nat := (2 ^ f.ex - 1) * 2 ^ f.frac + 2 ^ (f.frac - 1)

/-- m shifted right by k bits, rounded to nearest, ties to even. -/
def shiftRound (m k : Nat) : Nat :=
  let q := m / 2 ^ k
  let r := m % 2 ^ k
  if k = 0 then m
  else if 2 ^ (k - 1) < r || (r = 2 ^ (k - 1) && q % 2 = 1) then q + 1 else q

/-- The exact value m * 2^e, rounded to the format's precision with an unbounded exponent range, then delivered as a
number of the format: a zero of the same sign below the smallest normal number, an infinity above the largest (R196). -/
def Fmt.round (f : Fmt) (neg : Bool) (m : Nat) (e : Int) : Nat :=
  if m = 0 then f.zero neg
  else
    let len := m.log2 + 1
    let k := len - (f.frac + 1)
    let up := (f.frac + 1) - len
    let q := if 0 < k then shiftRound m k else m * 2 ^ up
    let e1 : Int := e + k - up
    let (q, e1) := if 2 ^ (f.frac + 1) ≤ q then (q / 2, e1 + 1) else (q, e1)
    let ex : Int := e1 + f.frac + f.bias
    if ex < 1 then f.zero neg
    else if (2 : Int) ^ f.ex - 1 ≤ ex then f.infinity neg
    else f.signBit neg + ex.toNat * 2 ^ f.frac + q % 2 ^ f.frac

/-- The exact value as a signed integer times 2^e. -/
def signedMant (neg : Bool) (m : Nat) : Int := if neg then -(m : Int) else m

/-- The sum of two finite numbers, exactly: a signed significand and the exponent of its lowest bit. -/
def exactAdd (na : Bool) (ma : Nat) (ea : Int) (nb : Bool) (mb : Nat) (eb : Int) : Int × Int :=
  let e := min ea eb
  (signedMant na (ma * 2 ^ (ea - e).toNat) + signedMant nb (mb * 2 ^ (eb - e).toNat), e)

/-- Addition. A sum of zeros of one sign keeps it, and any other zero sum is +0 (rounding to nearest). -/
def Fmt.add (f : Fmt) (a b : Nat) : Nat :=
  match f.unpack a, f.unpack b with
  | .nan, _ => f.qnan
  | _, .nan => f.qnan
  | .inf x, .inf y => if x = y then f.infinity x else f.qnan
  | .inf x, .fin _ _ _ => f.infinity x
  | .fin _ _ _, .inf y => f.infinity y
  | .fin na ma ea, .fin nb mb eb =>
    if ma = 0 && mb = 0 then f.zero (na && nb)
    else
      let (v, e) := if ma = 0 then (signedMant nb mb, eb) else if mb = 0 then (signedMant na ma, ea)
        else exactAdd na ma ea nb mb eb
      if v = 0 then f.zero false else f.round (decide (v < 0)) v.natAbs e

/-- The sign inverted. -/
def Fmt.neg (f : Fmt) (a : Nat) : Nat :=
  let b := 2 ^ (f.frac + f.ex)
  if a / b % 2 = 1 then a - b else a + b

/-- The sign cleared. -/
def Fmt.abs (f : Fmt) (a : Nat) : Nat := a % 2 ^ (f.frac + f.ex)

/-- Subtraction. A NaN is canonical whatever its sign. -/
def Fmt.sub (f : Fmt) (a b : Nat) : Nat := f.add a (f.neg b)

/-- Multiplication. -/
def Fmt.mul (f : Fmt) (a b : Nat) : Nat :=
  match f.unpack a, f.unpack b with
  | .nan, _ => f.qnan
  | _, .nan => f.qnan
  | .inf x, .inf y => f.infinity (x != y)
  | .inf x, .fin n m _ => if m = 0 then f.qnan else f.infinity (x != n)
  | .fin n m _, .inf y => if m = 0 then f.qnan else f.infinity (n != y)
  | .fin na ma ea, .fin nb mb eb => f.round (na != nb) (ma * mb) (ea + eb)

/-- Division (R196: x / 0 is an infinity, 0 / 0 the canonical NaN). The quotient is taken to twice the precision with one
more bit that says whether a remainder is left, so that the one rounding is that of the exact quotient. -/
def Fmt.div (f : Fmt) (a b : Nat) : Nat :=
  match f.unpack a, f.unpack b with
  | .nan, _ => f.qnan
  | _, .nan => f.qnan
  | .inf _, .inf _ => f.qnan
  | .inf x, .fin n _ _ => f.infinity (x != n)
  | .fin n _ _, .inf y => f.zero (n != y)
  | .fin na ma ea, .fin nb mb eb =>
    if mb = 0 then (if ma = 0 then f.qnan else f.infinity (na != nb))
    else
      let k := 2 * f.frac + 4
      let n := ma * 2 ^ k
      f.round (na != nb) (2 * (n / mb) + (if n % mb = 0 then 0 else 1)) (ea - eb - k - 1)

/-- The integer square root, one bit at a time from bit k down. -/
def isqrtFrom : Nat → Nat → Nat → Nat
  | 0, n, r => if (r + 1) * (r + 1) ≤ n then r + 1 else r
  | k + 1, n, r => isqrtFrom k n (if (r + 2 ^ (k + 1)) * (r + 2 ^ (k + 1)) ≤ n then r + 2 ^ (k + 1) else r)

def isqrt (n : Nat) : Nat := isqrtFrom (n.log2 / 2 + 1) n 0

/-- Square root (R196: of a value below zero the canonical NaN, of -0 -0). -/
def Fmt.sqrt (f : Fmt) (a : Nat) : Nat :=
  match f.unpack a with
  | .nan => f.qnan
  | .inf neg => if neg then f.qnan else f.infinity false
  | .fin neg m e =>
    if m = 0 then f.zero neg
    else if neg then f.qnan
    else
      let odd := (e % 2).toNat
      let k := 2 * f.frac + 6
      let n := m * 2 ^ (odd + k)
      let r := isqrt n
      f.round false (2 * r + (if r * r = n then 0 else 1)) ((e - odd - k) / 2 - 1)

/-- The order of two numbers: none when unordered; -0 and +0 are equal. -/
def Fmt.compare (f : Fmt) (a b : Nat) : Option Ordering :=
  match f.unpack a, f.unpack b with
  | .nan, _ => none
  | _, .nan => none
  | .inf x, .inf y => some (if x = y then .eq else if x then .lt else .gt)
  | .inf x, .fin _ _ _ => some (if x then .lt else .gt)
  | .fin _ _ _, .inf y => some (if y then .gt else .lt)
  | .fin na ma ea, .fin nb mb eb =>
    let (v, _) := exactAdd na ma ea (!nb) mb eb
    some (if v < 0 then .lt else if v = 0 then .eq else .gt)

/-- A finite number's operand as delivered: a subnormal as a zero, a NaN canonical. -/
def Fmt.canon (f : Fmt) (a : Nat) : Nat :=
  match f.unpack a with
  | .nan => f.qnan
  | .inf neg => f.infinity neg
  | .fin neg m e => f.round neg m e

/-- Below, with -0 below +0 (R196, FMIN and FMAX). -/
def Fmt.below (f : Fmt) (a b : Nat) : Bool :=
  match f.compare a b with
  | some .lt => true
  | some .eq => a / 2 ^ (f.frac + f.ex) % 2 = 1 && b / 2 ^ (f.frac + f.ex) % 2 = 0
  | _ => false

/-- Minimum and maximum (R196: with one NaN the other operand, with two the canonical NaN). -/
def Fmt.min (f : Fmt) (a b : Nat) : Nat :=
  match f.unpack a, f.unpack b with
  | .nan, .nan => f.qnan
  | .nan, _ => f.canon b
  | _, .nan => f.canon a
  | _, _ => if f.below b a then f.canon b else f.canon a

def Fmt.max (f : Fmt) (a b : Nat) : Nat :=
  match f.unpack a, f.unpack b with
  | .nan, .nan => f.qnan
  | .nan, _ => f.canon b
  | _, .nan => f.canon a
  | _, _ => if f.below a b then f.canon b else f.canon a

/-- A signed integer as a number, rounded to nearest, ties to even. -/
def Fmt.ofInt (f : Fmt) (v : Int) : Nat := f.round (decide (v < 0)) v.natAbs 0

/-- How a conversion to an integer rounds. -/
inductive IntRound where
  | toZero | nearest
  deriving DecidableEq, Repr

/-- The integer nearest to m * 2^e in the given direction of rounding. -/
def intMag (r : IntRound) (m : Nat) (e : Int) : Nat :=
  if 0 ≤ e then m * 2 ^ e.toNat
  else match r with
  | .toZero => m / 2 ^ (-e).toNat
  | .nearest => shiftRound m (-e).toNat

/-- A number as a signed integer between lo and hi, and whether it saturated (05 R195): a NaN gives 0 saturated. -/
def Fmt.toInt (f : Fmt) (r : IntRound) (lo hi : Int) (a : Nat) : Int × Bool :=
  match f.unpack a with
  | .nan => (0, true)
  | .inf neg => (if neg then lo else hi, true)
  | .fin neg m e =>
    let v := signedMant neg (intMag r m e)
    if v < lo then (lo, true) else if hi < v then (hi, true) else (v, false)

/-- A number of one format in another: exact to binary64, rounded once to binary32. -/
def Fmt.conv (f g : Fmt) (a : Nat) : Nat :=
  match f.unpack a with
  | .nan => g.qnan
  | .inf neg => g.infinity neg
  | .fin neg m e => g.round neg m e

/-- The number is finite. -/
def Fmt.finite (f : Fmt) (a : Nat) : Bool :=
  match f.unpack a with
  | .fin _ _ _ => true
  | _ => false

end Sys2Proof.Machine
end

