-- ==== Sys2Proof/Machine/State.lean ====
section
/-!
DEFINITION. Machine/State.lean: the state of one SV4870 as plain data. Every register a page section gives lives in the
register file `regs`; what stands behind the registers lives in one record per block. A field's default is its value
after State.reset.
-/

namespace Sys2Proof.Machine

/-- Why the machine stops. The spec names no event that ends the module's operation for good: it gives each command an
effect, and its faults are events, refusals, resets and states of the model. So this type has no constructor and no
command raises one. Safe. -/
inductive Fault where
  deriving DecidableEq, Repr

/-- Why a command has no meaning. -/
inductive Refusal where
  /-- Raised by the dispatcher alone, for a command whose meaning has not been written. Safe: the run stops. -/
  | notModelled (mnemonic : String)
  deriving DecidableEq, Repr

/-- The event controller behind its registers (03 R113 to R122). -/
structure EvtState where
  /-- Entries waiting, by source, oldest first; an unlisted source has none. -/
  queues : List (Nat × List EvEntry) := []
  /-- last[p] of R120, by port * 4 + p; an unlisted one is 255. -/
  last : List (Nat × Nat) := []
  /-- In a standby in TRACK, the entries that port 2 is to deliver (R122). -/
  follow : List EvEntry := []
  /-- Entries that port 2 delivered since the admission of the stroke, and in the active unit those that the standby knows it is
  about to deliver (R122). -/
  delivered : List EvEntry := []
  announced : List EvEntry := []
  deriving DecidableEq, Repr

/-- A record of the event log (16 R519); its CRC is formed where it is read. -/
structure LogRec where
  recno : Nat
  stamp : DWord
  caltime : Nat
  boot : Nat
  stroke : Nat
  source : Nat
  code : Nat
  severity : Nat
  seq : Nat
  suppressed : Nat
  data : Nat
  detail : List Byte
  lost : Nat
  deriving DecidableEq, Repr

/-- A token bucket of the recorder (16 R521). -/
structure Bucket where
  tokens : Nat
  suppressed : Nat
  deriving DecidableEq, Repr

/-- The event recorder (16 R519 to R525). -/
structure RecState where
  /-- Records waiting in DRAM for flash, oldest first (R522). -/
  staged : List LogRec := []
  /-- The event log in flash, by rising RECNO. Kept. -/
  log : List LogRec := []
  /-- Token buckets by source * 128 + code; an unlisted one is full with nothing suppressed (R521). -/
  buckets : List (Nat × Bucket) := []
  /-- The RECNO of the next record. Kept. -/
  nextRecno : Nat := 0
  /-- Ticks at the latest DROPPED (R522: at most once per second), and drops since. -/
  dropAt : Option Nat := none
  dropsSince : Nat := 0
  /-- The RECNO range of staged records written at the supply-fail latch (R524). Kept. -/
  latched : Option (Nat × Nat) := none
  /-- The stamp of that latch. Kept. -/
  latchAt : Nat := 0
  deriving DecidableEq, Repr

/-! ### Cores and executions -/

/-- FL (05 R174): sticky saturation, negative, zero, carry, overflow. -/
structure Flags where
  s : Bool := false
  n : Bool := false
  z : Bool := false
  c : Bool := false
  v : Bool := false
  deriving DecidableEq, Repr

/-- One context of a core (05 R174). -/
structure Ctx where
  /-- F0 to F15 by number; an unlisted one holds 0. -/
  f : List (Nat × Word) := []
  pc : Word := 0
  fl : Flags := {}
  la : Bool := false
  /-- The LA stack, top first, at most 16 entries. -/
  las : List Bool := []
  /-- The context's slots of the window file in use, oldest first (R203, R205). -/
  window : List Word := []
  /-- The slots of each saved frame, newest first; frames may have slots in the spill area. -/
  frames : List Nat := []
  spillp : Nat := 0
  deriving DecidableEq, Repr

/-- An execution of a task (04 R130, R136). -/
structure Run where
  task : Nat
  /-- The extended stroke number of its scan stroke. -/
  scan : Nat
  /-- The Q working image as it stood at its admission, by offset in the Q area. -/
  qsnap : List Host.Cell
  /-- Its own Q writes, by offset in the Q area. -/
  qbuf : List Host.Cell
  /-- Started by RUNTASK (05 R217): its Q write buffer is discarded. -/
  runtask : Bool
  /-- Its overrun has been reported (01 R29). -/
  late : Bool := false
  deriving DecidableEq, Repr

/-- A physical core. -/
structure CoreSt where
  fg : Ctx := {}
  bg : Ctx := {}
  fgRun : Option Run := none
  bgRun : Option Run := none
  /-- The B execution is suspended (04 R131). -/
  bgSusp : Bool := false
  /-- The B execution is held by Cox or by a power state (06 R227, R238). -/
  bgHeld : Bool := false
  /-- G1 to G15 by number; an unlisted one holds 0. -/
  g : List (Nat × Word) := []
  halted : Bool := false
  /-- A STEP is waiting for the instruction that it executes (05 R216). -/
  stepping : Bool := false
  /-- The breakpoint at the present PC has halted the core already (05 R218). -/
  bpPassed : Bool := false
  failed : Bool := false
  /-- Instructions retired by the current or last B execution (05 R209). -/
  retired : Nat := 0
  /-- In TRACK, the retired count last received for it. -/
  limit : Nat := 0
  /-- In TRACK, the load from a register page that waits for the active unit's value (05 R208): destination, address, and the
  value that this unit's own page gave. -/
  wait : Option (BitVec 5 × Nat × Word) := none
  /-- Core clocks the B execution ran in the present stroke (06 R233). -/
  bClocks : Nat := 0
  deriving DecidableEq, Repr

/-- The class of a task (04 R125). -/
inductive TaskClass where
  | m | d | b
  deriving DecidableEq, Repr

/-- Why Cox defers an execution (06 R238). -/
inductive Defer where
  | energy | heat | time | power
  deriving DecidableEq, Repr

/-- A released execution waiting for admission (04 R132). -/
structure Waiting where
  task : Nat
  /-- Its release stroke, extended. -/
  release : Nat
  /-- Strokes in which it was deferred, and the latest reason. -/
  deferred : Nat
  reason : Option Defer
  deriving DecidableEq, Repr

/-- An admitted execution that has not started (04 R131). -/
structure Admitted where
  task : Nat
  scan : Nat
  lcore : Nat
  cls : TaskClass
  qsnap : List Host.Cell
  late : Bool := false
  deriving DecidableEq, Repr

/-- An execution completed or abandoned since the latest output cutoff (04 R137, R153). -/
structure Finished where
  task : Nat
  scan : Nat
  qbuf : List Host.Cell
  /-- The fault code, or 0 (05 R210). -/
  fault : Nat
  deriving DecidableEq, Repr

/-- A byte of shared data that a logical core has written and not published (04 R138): address, value, and the M or D task
whose execution wrote it (none: a B execution). -/
structure SharedWrite where
  addr : Nat
  val : Byte
  owner : Option Nat
  deriving DecidableEq, Repr

/-- The execution engine (04). -/
structure ExecState where
  cores : List (Nat × CoreSt) := []
  waiting : List Waiting := []
  admitted : List Admitted := []
  finished : List Finished := []
  /-- Tasks that receive no release until the next restart (R155). -/
  disabled : List Nat := []
  /-- Unpublished shared writes of each logical core, in program order, latest first (R138). -/
  shared : List (Nat × List SharedWrite) := []
  /-- Writes of M and D executions complete at the latest output cutoff, as the engine view has them (07 R252). -/
  mView : List Host.Cell := []
  /-- Bytes of the M area that an M or D execution wrote and that were published before it completed: address, the byte before,
  and the task; the engine view keeps the byte before until the cutoff that completes it (07 R252). -/
  hidden : List (Nat × Byte × Nat) := []
  /-- The loop engine's writes to the M area, until the admission of their stroke (07 R254). -/
  engineWrites : List Host.Cell := []
  /-- Host writes waiting for the next admission, in order (R139). -/
  hostWrites : List Host.Cell := []
  /-- The Q working image and the output image frozen at the latest cutoff, by offset (R137, R140). -/
  qWork : List Host.Cell := []
  outImage : List Host.Cell := []
  /-- An output image has been frozen in RUN or TRACK since the latest restart (02 R79). -/
  imaged : Bool := false
  /-- High half of the extended stroke number (R127). -/
  strokeHi : Nat := 0
  /-- The output cutoff of the stroke has passed and its admission has not come: no execution starts (04 R164). -/
  closed : Bool := true
  /-- The input image of the stroke is closed, and its loops are not complete. -/
  looping : Bool := false
  /-- The extended stroke number of the first RUN stroke (02 R79). -/
  firstRun : Nat := 0
  /-- The model's own (log entry 15): since the latest restart, the bits that bit instructions have written, by bit address, and
  the bytes that anything else has written. -/
  seen : List Nat := []
  wrote : List Nat := []
  /-- The latest restart was cold. -/
  cold : Bool := true
  /-- In TRACK, an admission record that waits for the standby's loop completion or retired counts. -/
  record : Option AdmRecord := none
  deriving DecidableEq, Repr

/-- Cox behind its registers (06). -/
structure CoxState where
  /-- The hottest junction of the latest completed sweep, in degrees C (R237). -/
  tj : Int := 0
  /-- Core clocks of the B executions that have completed in the present stroke, and of those that ran in the previous stroke, until
  they are charged (R233). -/
  bRan : List Nat := []
  bLast : List Nat := []
  /-- Logical cores that hold B, as a mask, and the reason mask (R239). -/
  held : Nat := 0
  heldReasons : Nat := 0
  /-- Charges in nJ and strokes since the latest completed sweep (R234). -/
  etNow : Nat := 0
  dNow : Nat := 0
  /-- The span of the next correction up to the latest completed sweep: metered energy and charges in nJ, strokes. -/
  em : Nat := 0
  et : Nat := 0
  d : Nat := 0
  /-- A sweep has opened the span, and one has completed since the latest correction. -/
  opened : Bool := false
  swept : Bool := false
  /-- BUDGET_LOW has been raised and the account has not risen again (R235). -/
  low : Bool := false
  deriving DecidableEq, Repr

/-- A power-state request behind PWR_STAT (06 R222 to R231): the extended stroke at whose start it takes effect, whether
a pair has agreed that stroke (R226), its place in the order of acceptance, and in PARK the boundaries still to come after
synchronisation. -/
structure PwrState where
  due : Option Nat := none
  agreed : Bool := false
  order : Nat := 0
  unpark : Option Nat := none
  /-- Module energy since reset in uJ (06 PWR_EMOD) and the nJ below 1 uJ. -/
  energy : Nat := 0
  energyRest : Nat := 0
  deriving DecidableEq, Repr

/-- An edit transaction in flash, with its activation marker (01 R49). -/
structure FlashTx where
  tx : EditTx
  marker : Bool
  deriving DecidableEq, Repr

/-- The edit transaction behind the EDIT page (04 R158 to R172). -/
structure EditState where
  /-- The transaction in OPEN or later. -/
  tx : Option EditTx := none
  /-- The flash write is complete; the other unit must be and is ready too. -/
  written : Bool := false
  peerNeeded : Bool := false
  peerReady : Bool := false
  /-- It came over the pair link (R171). -/
  mirrored : Bool := false
  /-- The extended stroke of entry to ELIGIBLE. -/
  since : Nat := 0
  /-- Every affected task was idle at the latest output cutoff (R164); the agreed activation stroke (R172). -/
  idle : Bool := false
  agreed : Option Nat := none
  /-- Transactions in flash, oldest first. Kept. -/
  flash : List FlashTx := []
  deriving DecidableEq, Repr

/-- The profile record of a loop context (07 R271 to R276), in binary64: ramp, goal, step, start of the plan, working
set-point and velocity; plan length, steps left, steps since the last change of step; the windows with the latest value
first (a value beyond a list's end is 0), their running sums and lengths; and the limits in use in binary32. -/
structure Prof where
  r : Nat := 0
  goal : Nat := 0
  dr : Nat := 0
  r0 : Nat := 0
  w : Nat := 0
  vp : Nat := 0
  k : Nat := 0
  left : Nat := 0
  gap : Nat := 2
  wa : List Nat := []
  wj : List Nat := []
  sa : Nat := 0
  sj : Nat := 0
  na : Nat := 1
  nj : Nat := 1
  vmax : Nat := 0
  amax : Nat := 0
  jmax : Nat := 0
  deriving DecidableEq, Repr

/-- What a loop context keeps beside its registers (07 R260, R265, R266, R279). -/
structure LoopCtx where
  reinit : Bool := true
  /-- The region in force, and the gains KP, KD, KFF it gave. -/
  region : Option Nat := none
  gains : Nat × Nat × Nat := (0, 0, 0)
  /-- SCHEN and the table pointer at the previous computation. -/
  sched : Bool := false
  ptr : Nat := 0
  prof : Prof := {}
  /-- PROFEN at the previous computation. -/
  profen : Bool := false
  /-- PROFILE_FAILED with reason START is to be raised at the first loop completion of RUN. -/
  failStart : Bool := false
  deriving DecidableEq, Repr

/-- An accepted write to the LOOP and LOOPCTX pages that waits for an input complete (07 R257): a register's address, or
0x8000000 plus a table word's index; the value; the logical core of a program write and its M or D task (none: a B
execution), or none for the host; whether it is due at the next input complete. -/
structure LoopWrite where
  addr : Nat
  val : Word
  lcore : Option Nat
  owner : Option Nat
  ready : Bool
  deriving DecidableEq, Repr

/-- The loop engine behind its registers (07). -/
structure LoopState where
  ctx : List (Nat × LoopCtx) := []
  /-- The table area, by word index. -/
  table : List (Nat × Word) := []
  /-- Accepted writes, oldest first. -/
  writes : List LoopWrite := []
  /-- Contexts computed in the present stroke, and those that faulted in it (05 R210). -/
  due : List Nat := []
  faults : List Nat := []
  deriving DecidableEq, Repr

/-- The forcing tables by index: entry word, mask, value (04 R147, R148). -/
structure ForceState where
  staged : List (Nat × (Word × Word × Word)) := []
  table : List (Nat × (Word × Word × Word)) := []
  /-- An APPLY or a CLEAR_ALL waits for the stroke start (R149). -/
  apply : Bool := false
  clear : Bool := false
  deriving DecidableEq, Repr

/-! ### The module's mode -/

/-- A persisted copy of the settings (02 R93): sequence number, SYS_PONTGT, SYS_RSTCFG. -/
structure Settings where
  seq : Word
  pontgt : Word
  rstcfg : Word
  deriving DecidableEq, Repr

/-- A read burst of the host port (18 R558): the tick of its first address edge, the word address that continues it, the words
read so far, whether a word lay beyond the limit, and the content of the image window at the first address edge, by host byte
address. -/
structure HostBurst where
  start : Nat
  next : Nat
  words : Nat
  torn : Bool
  snap : List Host.Cell
  deriving DecidableEq, Repr

/-- What stands behind the SYS page (02). -/
structure SysState where
  /-- Reasons for a protective or requested STOP at the next stroke boundary (R82, R85, R155, R157), oldest first. -/
  stopReqs : List Nat := []
  /-- The supply-fail latch (06 R245). -/
  latch : Bool := false
  /-- Commands and requests accepted so far, the pending command's place among them, and the extended stroke at whose start it
  takes effect: the order of 02 R89. -/
  accepted : Nat := 0
  cmdOrder : Nat := 0
  cmdDue : Nat := 0
  /-- The steps of R64 that have passed: 1 t0, 2 strap instant, 3 REFCLK ready, 4 PLL locked, 5 BOOT2 verified, 6 regions loaded,
  7 self-test, 8 program loaded, 9 INIT ended. -/
  stage : Nat := 0
  /-- HP_ERR_n has been released (R64). -/
  hpOut : Bool := false
  /-- The persisted settings (R93). Kept. -/
  copy0 : Option Settings := none
  copy1 : Option Settings := none
  /-- Every region started from its preferred slot (17 R536); the start follows a supply failure (16 R524). -/
  preferred : Bool := true
  failStart : Bool := false
  /-- Why no program is in force: 3 none in the store, 4 it failed its checks (R91). -/
  loadRsn : Nat := 3
  /-- A restart is due without a command: INIT ended with target RUN (R82, R95). -/
  autoRun : Bool := false
  /-- A reset that a write has asked for, made when its access is complete (R59): 0 the watchdog's, 1 the host command's, 2 the
  host command's into RECOVERY. The model's own; none between commands. -/
  resetDue : Option Nat := none
  /-- What retain memory still needs after the reset: 0 nothing, 1 the recall (10 R390), 2 the code check (R61). -/
  retainDue : Nat := 0
  /-- The local I/O works (R73). -/
  localIo : Bool := false
  /-- The two copies of the epoch record, none while a copy is not valid (09 R339). Kept. -/
  epoch0 : Option Nat := none
  epoch1 : Option Nat := none
  /-- Strokes of INIT since Floryn synchronisation started, up to the 64 that INIT waits for it (R64). -/
  initStrokes : Nat := 0
  /-- The read burst of the host port that is open (18 R558). -/
  burst : Option HostBurst := none
  /-- The calendar's seconds at the loss of VIN24, where it was valid (R80). Kept. -/
  outageFrom : Option Nat := none
  deriving DecidableEq, Repr

/-! ### The program -/

/-- A block of the program (04 R581): number, KIND (1 code, 2 data, 5 loop), base address, function entries, contents. -/
structure Block where
  no : Nat
  kind : Nat
  base : Nat
  entries : List Nat
  data : List Byte
  deriving DecidableEq, Repr

/-- A task entry of the program (04 R581). -/
structure TaskEntry where
  task : Nat
  enabled : Bool
  cfg0 : Word
  cfg1 : Word
  entry : Word
  cost : Word
  deriving DecidableEq, Repr

/-- A program in the form of 04 R581: its blocks and its task entries, each in ascending number. -/
structure Program where
  blocks : List Block
  tasks : List TaskEntry
  deriving DecidableEq, Repr

/-! ### Memory and retain storage -/

/-- The kinds of item the work ledger holds (01 R13), and the activation markers of edit transactions (04 R165). -/
inductive LedgerKind where
  | net | radio | can | acq | mbx | edit | marker
  deriving DecidableEq, Repr

/-- An entry of the work ledger: an item's kind, its unit (session, controller), its identity, and whether its transmission
has begun. -/
structure LedgerItem where
  kind : LedgerKind
  unit : Nat
  id : Nat
  started : Bool
  deriving DecidableEq, Repr

/-- A commit record of a shadow slot (10 R383) with the generation it stands for. -/
structure Generation where
  committed : Bool
  /-- The record's CRC is correct. -/
  crcOk : Bool
  gen : Nat
  snapStroke : Nat
  caltime : Nat
  cause : Nat
  progSig : List Byte
  /-- The content of the retain SRAM at the snapshot, by address. -/
  content : List Host.Cell
  /-- The work ledger at the snapshot (01 R14). -/
  ledger : List LedgerItem
  /-- The latest recall has found an uncorrectable word in it, so that it counts as not committed (R390). -/
  spoiled : Bool := false
  deriving DecidableEq, Repr

/-- A store in progress (10 R385). -/
structure Store where
  slot : Nat
  /-- 1 commanded, 2 supply failure. -/
  cause : Nat
  /-- The snapshot has been taken. -/
  taken : Bool
  /-- In a pair, the stroke whose start is the snapshot edge. -/
  atStroke : Option Nat
  deriving DecidableEq, Repr

/-- Main SRAM, loop SRAM, DRAM, retain memory and flash behind their registers (10). -/
structure MemState where
  /-- Words that decode as UE until written whole (R370), by core address / 32. -/
  poison : List Nat := []
  /-- Corrected words waiting for write-back (R369), by memory and byte offset. -/
  writeBack : List (Nat × Nat) := []
  /-- The corrected positions of a word at its latest read (R373), by memory and byte offset. -/
  history : List ((Nat × Nat) × List Nat) := []
  /-- Rows with a hard error being copied, by bank and row. -/
  rowCopy : List (Nat × Nat) := []
  /-- The bank the spare bank is being copied from (R374). -/
  bankCopy : Option Nat := none
  /-- Words of main SRAM that read uncorrectable, by core address / 32, and whether each was written whole since (R374). -/
  ueWords : List (Nat × Bool) := []
  /-- The tick of each memory's latest corrected-error event (R371). -/
  ceAt : List (Nat × Nat) := []
  /-- The shadow slots (R383). Kept. -/
  slot0 : Option Generation := none
  slot1 : Option Generation := none
  store : Option Store := none
  /-- The work ledger (01 R13). -/
  ledger : List LedgerItem := []
  /-- The program signature held beside retain memory (R384, R77). Kept while VIN24 stays present. -/
  retainSig : List Byte := []
  /-- Shadow pages restored at their latest pass (R394), by slot and page. Kept. -/
  weak : List (Nat × Nat) := []
  /-- What holds an uncorrectable word of DRAM (R368). -/
  dramBad : List DramHolder := []
  /-- Life warnings already raised (R378). Kept. -/
  lifeWarned : Nat := 0
  deriving DecidableEq, Repr

/-- What stands behind the CLK page (14): the selection of a new reference is pending in PARK or while the PLL relocks. -/
structure ClkState where
  /-- The reference applied to the PLL is not the one that CLK_STAT shows yet: a switch by CLK_SEL completes at lock. -/
  switching : Bool := false
  /-- The reference that was selected before it, to which an abandoned switch returns (R473). -/
  old : Nat := 0
  deriving DecidableEq, Repr

/-- What stands behind the WDT page (14 R479 to R486). -/
structure WdtState where
  /-- The stamp of the latest valid service since the count started, or 0. -/
  svc : Nat := 0
  /-- The tasks of the expected set that checked in more than once in the window, as a mask (R482). -/
  twice : Nat := 0
  /-- The model's own: a command has given the count of a watchdog on the RC since its latest freeze (log entry 3). -/
  rcHeld : Bool := false
  /-- The cause of a watchdog reset, and the clock whose stop made a clock-monitor reset, to be raised at the end of INIT. -/
  stage2 : Option Nat := none
  monitor : Option Nat := none
  deriving DecidableEq, Repr

/-- The calendar domain (15). Kept through resets. -/
structure RtcState where
  /-- Seconds since 2000-01-01 00:00:00, below 400 years. -/
  secs : Nat := 0
  /-- Frozen sets by requester: the registers of the time group (R491). -/
  shadows : List (Nat × List Word) := []
  /-- A new trim takes effect at the next second (R499). -/
  trimNew : Bool := false
  /-- An alarm fired while VIN24 was absent (R498). -/
  missed : Bool := false
  deriving DecidableEq, Repr

/-- A tripped output channel that waits to restart (12 R435, R436): the over-temperature trip, the 100 ms passed, the restart
temperature reached. -/
structure Trip where
  ch : Nat
  ot : Bool
  timed : Bool
  cooled : Bool
  deriving DecidableEq, Repr

/-- The local 24 V I/O behind its registers (12). Channel sets are masks. -/
structure DioState where
  /-- Raw and filtered levels of DI0 to DI31. -/
  raw : Nat := 0
  filt : Nat := 0
  /-- The local input range captured at the latest latch instant (R427). -/
  captured : List Byte := []
  /-- Retries left, by channel; an unlisted channel has the full count (R435). -/
  retries : List (Nat × Nat) := []
  tripped : List Trip := []
  /-- The value that each output last drove from an image, and the outputs that have driven one since the reset (R433). -/
  imageVal : Nat := 0
  imageSeen : Nat := 0
  /-- What the outputs are switched to now: at the latch instant DIO_OUT.DRIVEN takes it; a trip, a restart and the safe state
  change it between two of them (R432 to R436). -/
  out : Nat := 0
  /-- Leg 1 and leg 2 failed (R440). -/
  leg1 : Nat := 0
  leg2 : Nat := 0
  /-- Channels whose leg 2 is being brought in (R441). -/
  sparing : Nat := 0
  /-- The group supplies present: bit 0 group A, bit 1 group B (R439). -/
  supply : Nat := 0
  deriving DecidableEq, Repr

/-- A panel update in progress (13 R452): its kind (1 CLEAR, 2 FULL, 3 PARTIAL, 4 MORDANT, 5 REFRESH), the band it started
in, frames run, driven pixels with their waveform entry and target level, and for the mordant area whether it draws the
forcing marker. -/
structure PanelUpdate where
  kind : Nat
  band : Nat
  frame : Nat
  pixels : List (Nat × Nat × Nat)
  marker : Bool
  deriving DecidableEq, Repr

/-- The panel's rails (13 R446 to R448): off, powering up with n rails up, up, powering down with n rails left. -/
inductive Rails where
  | off
  | rising (n : Nat)
  | up
  | falling (n : Nat)
  deriving DecidableEq, Repr

/-- The status panel behind its registers (13). Planes hold 16 pixels a word. -/
structure PanelState where
  hostPlane : List (Nat × Word) := []
  shown : List (Nat × Word) := []
  bitmap : List (Nat × Word) := []
  /-- The waveform table (R449), 8 bands of 17 entries of 20 bytes. -/
  table : List Byte := []
  main : Option PanelUpdate := none
  mord : Option PanelUpdate := none
  /-- A host request that waits (R455): its PANEL_CMD code. -/
  request : Option Nat := none
  refreshDue : Bool := false
  /-- The stamp at which a due REFRESH began to wait (R456). -/
  refreshAt : Nat := 0
  mordDue : Bool := false
  rails : Rails := .off
  /-- The VCOM setting of the latest power-up of the rails (R447), in mV. -/
  vcom : Nat := 1500
  /-- Consecutive updates that ended with a rail fault (R448). -/
  railFaults : Nat := 0
  /-- Consecutive sweeps back in range (R450). -/
  inRange : Nat := 0
  deriving DecidableEq, Repr

/-- A mailbox command without an outcome (16 R505): its CMDID, the bank of its requester, CODE and payload. -/
structure MbxCmd where
  id : Nat
  bank : Nat
  code : Nat
  payload : List Byte
  deriving DecidableEq, Repr

/-- The outcome of a mailbox command (16 "MBX page"): OUTCOME, LATE, REASON, the response bytes not yet read, their number. -/
structure MbxResult where
  id : Nat
  outcome : Nat
  late : Bool
  reason : Nat
  resp : List Byte
  rlen : Nat
  deriving DecidableEq, Repr

/-- An open management session (17 R547): its number, whether it came by radio, the latest sequence number. -/
structure MgmtSession where
  n : Nat
  radio : Bool
  seq : Option Nat
  deriving DecidableEq, Repr

/-- The Marshal's services behind the MBX page (16). -/
structure MbxState where
  cmds : List MbxCmd := []
  /-- The latest 4096 outcomes (11 R398), latest first. -/
  results : List MbxResult := []
  /-- The banks whose copy of MBX_NONCE0 to 3 is a valid nonce (R508). -/
  nonces : List Nat := []
  /-- Payload bytes written, by bank. -/
  wdata : List (Nat × List Byte) := []
  nextId : Nat := 0
  sessions : List MgmtSession := []
  /-- Junctions at or above +125 degrees C since every junction was last below +115, as a mask (R512). -/
  tripped : Nat := 0
  boardHigh : Bool := false
  deriving DecidableEq, Repr

/-- Sparing of cores (16 R515 to R518). -/
structure SpareState where
  /-- The logical core that the spare takes over at a stroke boundary. -/
  subst : Option Nat := none
  /-- A commanded self-test of the spare runs. -/
  testing : Bool := false
  /-- The stamp of the latest self-test of the spare. -/
  tested : Option Nat := none
  deriving DecidableEq, Repr

/-- A slot of an update region (17 R527, R528): its state (0 INVALID, 1 VALID, 2 STAGED), the header's VERSION, PMIN, PMAX,
NEWFLOOR and DIGEST, the payload, and the attempts used (R536). -/
structure UpdSlot where
  state : Nat := 0
  version : Nat := 0
  pmin : Nat := 1
  pmax : Nat := 1
  newFloor : Nat := 0
  digest : List Byte := []
  payload : List Byte := []
  attempts : Nat := 0
  deriving DecidableEq, Repr

/-- An update region, or the program target (17 R526 to R538). Slots, active slot, floor and raises are kept. -/
structure UpdRegion where
  a : UpdSlot := {}
  b : UpdSlot := {}
  /-- Slot B is the active slot. -/
  activeB : Bool := false
  floor : Nat := 0
  raises : Nat := 255
  /-- UPD_STAT.STATE and REASON. -/
  state : Nat := 0
  reason : Nat := 0
  /-- The image bytes received, and the bank of the requester that opened the update. -/
  image : List Byte := []
  owner : Nat := 0
  deriving DecidableEq, Repr

/-- The update regions behind the UPD page, by code (17). -/
structure UpdState where
  regions : List (Nat × UpdRegion)
  /-- Updates that a reset ended, to be reported at the next start (R533). -/
  failed : List Nat := []
  deriving DecidableEq, Repr

/-- An operator key (17 R545): rights and public key. -/
structure OpKey where
  rights : Nat
  pub : List Byte
  deriving DecidableEq, Repr

/-- A requester's attestation buffer (17 R549): its kind (1 report, 2 certificate), whether it is ready, the bytes to read. -/
structure Attest where
  kind : Nat
  ready : Bool
  data : List Byte
  deriving DecidableEq, Repr

/-- Keys and attestation behind the SEC page (17). Keys are kept through every reset. -/
structure SecState where
  keys : List (Nat × OpKey) := []
  kdata : List Byte := []
  attest : List (Nat × Attest) := []
  deriving DecidableEq, Repr

/-! ### The Floryn bus -/

/-- The copy used of a slot's frame in the present stroke (08 R301): TYPE, the frame, the channels that delivered a valid copy,
and whether their payloads differ. -/
structure FbCopy where
  typ : Nat
  frame : FlorynFrame
  aOk : Bool
  bOk : Bool
  mismatch : Bool
  deriving DecidableEq, Repr

/-- An entry of a GRANT frame (08 R316). -/
structure FbGrant where
  node : Nat
  first : Nat
  count : Nat
  deriving DecidableEq, Repr

/-- An acyclic request without an outcome (08 R319): REQID, the bank of its requester, the M or D task that submitted it,
destination, service, INDEX, data, and whether it was sent. -/
structure AcqReq where
  id : Nat
  bank : Nat
  task : Option Nat
  dest : Nat
  service : Nat
  index : Nat
  data : List Byte
  sent : Bool
  deriving DecidableEq, Repr

/-- The outcome of an acyclic request (08 R320). -/
structure AcqRes where
  id : Nat
  outcome : Nat
  reason : Nat
  nodestat : Nat
  data : List Byte
  deriving DecidableEq, Repr

/-- A node-management request without an answer (08 R291, R583): node, INDEX, strokes waited, whether it belongs to the generation in
force, its REQID once it is sent, and its data. -/
structure NodeReq where
  addr : Nat
  index : Nat
  age : Nat
  live : Bool
  id : Option Nat
  data : List Byte
  deriving DecidableEq, Repr

/-- The Floryn controllers behind their registers (08). Channels are 0 for A and 1 for B. -/
structure FbcState where
  /-- The copies used in the present stroke, by slot. -/
  copies : List (Nat × FbCopy) := []
  /-- The latch instant, and input complete, of the present stroke have passed. -/
  latched : Bool := false
  closed : Bool := false
  /-- Copies that failed in the present stroke, by channel * 2, plus 1 for a check other than the FCS. -/
  fails : List (Nat × Nat) := []
  /-- The FBA and FBB conditions raised in the present stroke: channel * 8 + bit. -/
  raised : List Nat := []
  /-- Channels that delivered a valid frame of another node in the present stroke, and strokes without one, by channel (an
  unlisted channel: 16). -/
  heard : List Nat := []
  quiet : List (Nat × Nat) := []
  /-- Channels on which the configuration in force passed its line checks. -/
  lineOk : List Nat := []
  /-- ARANK of the reference followed in the present stroke, and the channels that delivered a valid reference. -/
  ref : Option Nat := none
  refOn : List Nat := []
  /-- Strokes of MEASURE; consecutive references within 50 ns in ALIGN. -/
  measured : Nat := 0
  aligned : Nat := 0
  /-- Ranks that showed READY in the present stroke, and the consecutive strokes in which each did (R315). -/
  readyNow : List Nat := []
  readyRun : List (Nat × Nat) := []
  /-- A handover under way (R315): the address named; 0 to be named, 1 named, 2 its reference is awaited. -/
  handover : Option (Nat × Nat) := none
  /-- This module acts from the next stroke start on; it stops acting at the next stroke start. -/
  takeover : Bool := false
  stopActing : Bool := false
  /-- Measured link delays in ns, by channel * 2 + port - 1. -/
  linkDelay : List (Nat × Nat) := []
  /-- The neighbour at a port: the sender of its latest frame with RPT 0, by channel * 2 + port - 1; 0 for none (R310). -/
  neigh : List (Nat × Nat) := []
  /-- The highest CLAIM or EPOCH word of the present stroke's valid references and of the module's own frames (R304). -/
  seen : Word := 0
  /-- The nodes of the latest measurement; the places from which frames have arrived since (R310): channel, address, port, RPT. -/
  nodes : List FlorynNode := []
  heardAt : List (Nat × Nat × Bool × Nat) := []
  /-- DATA frames received in the present stroke: sender, channel, payload (R301). -/
  dynSeen : List (Nat × Bool × List Byte) := []
  /-- The configuration in force breaks a line check. -/
  violated : Bool := false
  /-- Grants of the present and of the next stroke; a GRANT was received in the present stroke. -/
  grants : List FbGrant := []
  next : List FbGrant := []
  granted : Bool := false
  lastServed : Nat := 0
  /-- Nodes whose present request has raised DYN_OVERRUN. -/
  tooLong : List Nat := []
  acq : List AcqReq := []
  /-- The latest 128 outcomes, latest first. -/
  acqDone : List AcqRes := []
  nextReq : Nat := 0
  /-- Data bytes written, and response bytes read, by bank. -/
  wdata : List (Nat × List Byte) := []
  taken : List (Nat × Nat) := []
  mgmt : List NodeReq := []
  /-- Strokes without a valid I-frame, by node. -/
  silent : List (Nat × Nat) := []
  /-- The activation whose TXID the O-frames carry, and the extended stroke of its first frame (R297). -/
  activated : Option (Nat × Nat) := none
  /-- Answers of the Umpire that wait for a grant: destination and payload, oldest first. -/
  replies : List (Nat × List Byte) := []
  /-- The other units whose frames arrived at the latest input complete. -/
  units : List Nat := []
  /-- The Umpire's staged generation (R322): the words of SLOTS, then MASTER where sent. -/
  node : Option (List Word) := none
  /-- The Umpire as a node (R299, R304 to R307): SILENT (1 until it applies a frame, 2 until it applies a data frame), the silent
  strokes counted and their limit, and NSTAT's STALE, CONFLICT and APPLIED of the latest latch instant. -/
  nodeSilent : Nat := 1
  nodeQuiet : Nat := 0
  nodeLimit : Nat := 255
  nodeStat : Nat := 0
  /-- Another unit presents this unit's address (02 R58). -/
  conflict : Bool := false
  deriving DecidableEq, Repr

/-! ### The pair -/

/-- An item that the other unit mirrors to this one (09 R361). -/
structure MirItem where
  kind : ItemKind
  id : Nat
  words : List Nat
  data : List Byte
  started : Bool
  ended : Option (Nat × Nat)
  deriving DecidableEq, Repr

/-- What stands behind the PAIR and CLAIM pages (09). -/
structure PairState where
  /-- STARTED messages sent and not acknowledged, and acknowledged ones whose item has not been sent yet (R361). -/
  waits : List (ItemKind × Nat) := []
  acked : List (ItemKind × Nat) := []
  /-- Items mirrored to this unit. -/
  items : List MirItem := []
  /-- Strokes the Umpire still listens before it counts (R340). -/
  listen : Nat := 0
  /-- A valid message arrived in the present stroke; messages resent on each lane in it; MIRROR_LAG was raised in it. -/
  heard : Bool := false
  resends : List (Nat × Nat) := []
  lagged : Bool := false
  /-- The epochs of the other unit's latest message and of the Umpire's latest valid I-frame (R340). -/
  linkEpoch : Nat := 0
  umpEpoch : Nat := 0
  /-- UMPIRE_LOST has been raised and the Umpire has not come back. -/
  umpLost : Bool := false
  /-- NO_UMPIRE_MODE has been raised since the reset (R354). -/
  umpNoted : Bool := false
  /-- What the other unit's latest heartbeat reports, and the extended stroke since which it reports STANDBY. -/
  peerIntent : Bool := false
  peerConfig : List Word := []
  peerSince : Option Nat := none
  /-- A valid O-frame of the active unit's current claim arrived in the present stroke by its latch instant. -/
  activeSeen : Bool := false
  /-- In STANDBY: the input image is closed and the digest is awaited; the active unit's image has been asked for; strokes with
  a fetch since the latest onset (R333). -/
  awaiting : Bool := false
  fetching : Bool := false
  fetchRun : Nat := 0
  /-- The admission record and the output digest of the present stroke, as far as they have arrived. -/
  recordSeen : Bool := false
  outDig : Option OutDig := none
  /-- The executions complete at the unit's own output cutoff (R343). -/
  cutSet : List Finished := []
  /-- The present stroke is provisional; the ended one is, and is decided at the next latch instant (R342); the digests of the
  provisional strokes. -/
  provNow : Bool := false
  provOld : Option Nat := none
  provisional : List (Nat × List Byte) := []
  /-- A divergence found: stroke and cause (R336); it was found before the present boundary. -/
  div : Option (Nat × Nat) := none
  divOld : Bool := false
  /-- The retired counts last received of B executions: logical core, task, count (05 R209). -/
  counts : List (Nat × Nat × Nat) := []
  /-- Ticks since a message was last sent over the pair link, and how many the module had sent by then (R329). -/
  quiet : Nat := 0
  sent : Nat := 0
  /-- Register load values that have arrived before their loads: logical core, address, value (05 R208). -/
  loads : List (Nat × Nat × Word) := []
  /-- The active unit has found a higher epoch or claim (R341); the epoch of its O-frames from then on. -/
  demoted : Bool := false
  higher : Nat := 0
  /-- The epoch of an offer that this unit has accepted, to take effect at the next boundary (R350). -/
  accepted : Option Nat := none
  /-- Without an Umpire: consecutive strokes without the active unit's frames and with the link down (R354). -/
  alone : Nat := 0
  /-- A swap (R355): 0 none, 1 to be requested at the dynamic segment, 2 requested, 3 answered, 4 to be made at the next
  boundary; without an Umpire the extended stroke of the switch, in both units; the extended stroke of the request. -/
  swap : Nat := 0
  swapAt : Option Nat := none
  swapSent : Nat := 0
  /-- The Umpire: the current epoch; a unit holds it; the offer made, as epoch, unit, swap and latch instants left; the offer to
  make, as unit, swap and the extended stroke from which its I-frame may carry it; the unit offered last. -/
  cur : Nat := 0
  granted : Bool := false
  offer : Option (Nat × Nat × Bool × Nat) := none
  due : Option (Nat × Bool × Nat) := none
  lastUnit : Nat := 1
  /-- A RELEASE has ended HOLD, and the unit is to resynchronise (R365). -/
  released : Bool := false
  /-- Resynchronisation: the tick at which the copy began; the join stroke, the power state to enter and the switch of it that is
  agreed. -/
  copyStart : Option Nat := none
  join : Option (Nat × Nat × Option (Nat × Nat)) := none
  /-- The active unit's side of a copy (R359): the next 256-byte block of the first pass, none while no copy is under way; the
  memory as sent; the passes of dirty blocks; the tick at which it began. -/
  copyNext : Option Nat := none
  copySent : List Host.Cell := []
  copyPasses : Nat := 0
  copyFrom : Nat := 0
  /-- The other unit's program signature; the output digests sent since it was last known to follow, by stroke (R344). -/
  peerSig : List Byte := []
  sentDigs : List (Nat × OutDig) := []
  /-- The configuration switch has been forwarded. -/
  forwarded : Bool := false
  /-- An agreed STOP (02 R87). -/
  stopAt : Option Nat := none
  /-- Strokes since the parts of R358 were exercised: time master, local outputs, CAN, network and radio. -/
  latentMaster : Nat := 0
  latentLocal : Nat := 0
  latentCan : Nat := 0
  latentNet : Nat := 0
  /-- A host write that waits for the standby's acknowledgement (R338): the retain address it wrote, if any. -/
  hostWait : Option (Option Nat) := none
  deriving DecidableEq, Repr

/-! ### Ethernet, radio and CAN -/

/-- The outcome of a NET, RADIO or CAN item (11 R398): OUTCOME and REASON; the session, or the attempts with LATEACK at 16. -/
structure ItemRes where
  id : Nat
  outcome : Nat
  reason : Nat
  aux : Nat
  deriving DecidableEq, Repr

/-- A network item without an outcome (11 R406): ITEMID, session, data, and whether a byte of it was sent. -/
structure NetItem where
  id : Nat
  sess : Nat
  data : List Byte
  begun : Bool
  deriving DecidableEq, Repr

/-- A received datagram (11 R408): source, source port, data. -/
structure Datagram where
  src : Nat
  port : Nat
  data : List Byte
  deriving DecidableEq, Repr

/-- A session behind its registers (11 R405 to R410). -/
structure NetSess where
  /-- The peer, and the local port in use. -/
  peer : Nat := 0
  port : Nat := 0
  lport : Nat := 0
  /-- It was taken from LISTEN. -/
  passive : Bool := false
  /-- TCP: the sequence number of the oldest byte not acknowledged; bytes sent after it; bytes of the front item that are
  acknowledged; the next sequence number expected. -/
  una : Nat := 0
  flight : Nat := 0
  part : Nat := 0
  rcv : Nat := 0
  /-- The peer's window and the MSS; RFC 5681's cwnd, ssthresh and duplicate acknowledgements; retransmissions of the segment. -/
  wnd : Nat := 0
  mss : Nat := 536
  cwnd : Nat := 0
  ssthresh : Nat := 65536
  dups : Nat := 0
  tries : Nat := 0
  /-- RFC 6298 in us: RTTVAR and RTO; bytes acknowledged in all; the byte count timed and its tick. -/
  rttvar : Nat := 0
  rto : Nat := 1000000
  acked : Nat := 0
  timed : Option (Nat × Nat) := none
  /-- CLOSE was commanded; the FIN was sent. -/
  closing : Bool := false
  finSent : Bool := false
  /-- The TCP receive buffer; the datagrams queued; the opened datagram's bytes not yet read. -/
  rx : List Byte := []
  dgrams : List Datagram := []
  opened : List Byte := []
  deriving DecidableEq, Repr

/-- A learned address of the internal switch (11 R402): MAC, and whether it was seen at ETH2. -/
structure Learned where
  mac : BitVec 48
  eth2 : Bool
  deriving DecidableEq, Repr

/-- The network engine behind the NET and SESS pages (11). -/
structure NetState where
  items : List NetItem := []
  results : List ItemRes := []
  nextId : Nat := 0
  sess : List (Nat × NetSess) := []
  /-- Payload bytes written, by bank. -/
  wdata : List (Nat × List Byte) := []
  learned : List Learned := []
  /-- The next announcement of the service address to send, after entry to ACTIVE (R404). -/
  announce : Option Nat := none
  /-- Time of day (R412): the latest Announce of each time transmitter, the two-step Sync that waits for its Follow_Up
  (identity, sequence number, tick), the Delay_Req sent (sequence number, tick), the measured path delay in ns, the latest
  Sync's difference of arrival and origin in ns, and consecutive Sync messages within 1 us. -/
  masters : List PtpAnnounce := []
  twoStep : Option (Nat × Nat × Nat) := none
  delayReq : Option (Nat × Nat) := none
  pathDelay : Int := 0
  forward : Int := 0
  within : Nat := 0
  deriving DecidableEq, Repr

/-- A radio item without an outcome (11 R415): priority, ACKREQ, data; begun; its last stop bit is sent and it awaits its
acknowledgement; consecutive CTS timeouts. -/
structure RadioItem where
  id : Nat
  prio : Nat
  ackReq : Bool
  data : List Byte
  begun : Bool := false
  waitAck : Bool := false
  fails : Nat := 0
  deriving DecidableEq, Repr

/-- A receive record (11 R417): the stamp of its first start bit, its error flags, its bytes. -/
structure RxRec where
  stamp : DWord
  status : Nat
  data : List Byte
  deriving DecidableEq, Repr

/-- What the radio port does with an item (11 R415): it waits while DCD is asserted; RTS is asserted (the key-up delay has
ended); it sends; it holds RTS for TAIL. -/
inductive RadioStep where
  | idle
  | defer (id : Nat)
  | keyed (id : Nat) (up : Bool)
  | sending (id : Nat)
  | tail
  deriving DecidableEq, Repr

/-- The radio port behind its registers (11 R414 to R418). -/
structure RadioState where
  items : List RadioItem := []
  results : List ItemRes := []
  nextId : Nat := 0
  wdata : List (Nat × List Byte) := []
  step : RadioStep := .idle
  /-- The record in progress, and the queued ones; the opened record's bytes not yet read. -/
  inProgress : Option RxRec := none
  rx : List RxRec := []
  opened : List Byte := []
  /-- Characters received with an error. -/
  errors : Nat := 0
  deriving DecidableEq, Repr

/-- A CAN transmit item without an outcome (11 R420): CANx_TXID, CANx_TXCFG, data, attempts made, begun, on the bus. -/
structure CanItem where
  id : Nat
  txid : Word
  cfg : Word
  data : List Byte
  attempts : Nat := 0
  begun : Bool := false
  onBus : Bool := false
  deriving DecidableEq, Repr

/-- A received frame with the filters it matched (11 R423). -/
structure CanRx where
  frame : CanFrame
  matched : Nat
  deriving DecidableEq, Repr

/-- A CAN controller behind its registers (11 R419 to R424). -/
structure CanState where
  items : List CanItem := []
  results : List ItemRes := []
  nextId : Nat := 0
  wdata : List (Nat × List Byte) := []
  /-- The transmit error count, which passes 255 at bus-off. -/
  tec : Nat := 0
  /-- The frame of an item that has its outcome already is still on the bus. -/
  late : Option Nat := none
  rx : List CanRx := []
  opened : List Byte := []
  deriving DecidableEq, Repr

/-- A packet that the network engine sends (11). -/
inductive EthOut where
  /-- A TCP segment and a UDP datagram; `tag` is the frame's C-tag (11 R401), PCP in bits 15 to 13 and VID in bits 11 to 0. -/
  | tcp (peer : Nat) (tag : Option Nat) (g : TcpSeg)
  | udp (peer : Nat) (tag : Option Nat) (sport dport : Nat) (data : List Byte)
  /-- An answer to an ARP request or a Neighbour Solicitation; an echo reply. -/
  | arpReply (t : ArpTarget)
  | echoReply (peer : Nat) (t : ArpTarget) (data : List Byte)
  /-- The gratuitous ARP and the unsolicited Neighbour Advertisement of the service address. -/
  | announce (n : Nat)
  /-- A frame that the switch forwards. -/
  | forward (dst src : BitVec 48) (len : Nat)
  | delayReq (domain seq : Nat)
  deriving DecidableEq, Repr

/-- What the module has put on its lines. -/
inductive Wire where
  /-- A packet sent at the ports of a mask (bit 0 ETH1, bit 1 ETH2; both: the switch decides). -/
  | eth (ports : Nat) (p : EthOut)
  /-- The radio port's RTS; an item's characters from its first start bit on; sending ends after the present character. -/
  | rts (on : Bool)
  | radioSend (data : List Byte)
  | radioCut
  /-- A frame that a CAN controller sends: CANx_TXID, CANx_TXCFG, data. -/
  | canSend (ctl : Nat) (txid cfg : Word) (data : List Byte)
  /-- A Floryn frame sent on the channels of a mask (bit 0 A, bit 1 B), with its TYPE (08 R293, R301). -/
  | floryn (chans typ : Nat) (f : FlorynFrame)
  /-- A DATA frame to a node (08 R319); the frame itself names no destination. -/
  | florynData (chans dest : Nat) (f : FlorynFrame)
  /-- A Floryn frame sent out of one port: a repeated frame, PROBE, PROBE_REPLY (08 R284, R310). -/
  | florynPort (chanB port2 fcsOk : Bool) (typ : Nat) (f : FlorynFrame)
  /-- A slot's bytes, and an acyclic request in the service window, in the SV2210 format (08 R324). -/
  | compatSlot (slot : Nat) (data : List Byte)
  | compatData (dest : Nat) (payload : List Byte)
  /-- An item mirror on the pair link (09 R361). -/
  | mirror (h : PairHdr) (m : MirrorMsg)
  /-- The other messages of the pair link (09 R329): heartbeat, input digest, admission record, register load value (logical
  core, address, value), output digest, the input image asked for, an acknowledgement, the swap agreement, a block of the
  state copy. -/
  | heartbeat (h : PairHdr) (i : HbInfo)
  | inputDigest (h : PairHdr) (d : List Byte)
  | admissionRecord (h : PairHdr) (a : AdmRecord)
  | loadValue (h : PairHdr) (lcore addr : Nat) (v : Word)
  | outputDigest (h : PairHdr) (d : OutDig)
  | inputImage (h : PairHdr) (img : List Host.Cell)
  | pairAck (h : PairHdr) (m : AckMsg)
  | swapAgreement (h : PairHdr) (epoch unit : Nat)
  | stateCopy (h : PairHdr) (c : CopyBlock)
  /-- HP_ERR_n low on the completion edge of a host access (18 R554), with the reason of R565. -/
  | hpErr (reason : Nat)
  /-- The value that a requester's read of a register returned: the address in register space, the value (18 R554). -/
  | readValue (r : Req) (addr : Nat) (v : Word)
  /-- The word that the host's read of a host byte address outside register space returned (18 R554, R564). -/
  | hostValue (addr : Nat) (v : Word)
  /-- A pair-link message about an edit transaction (04 R171). -/
  | editMsg (h : PairHdr) (m : EditMsg)
  /-- The notice of a calendar alarm to every open management session in PARK (06 R221). -/
  | alarmNotice
  /-- A frame of the panel's waveforms (13 R449, R452): the drive codes of the pixels driven. -/
  | panelFrame (codes : List (Nat × Nat))
  /-- A recovery frame of TYPE ACK (17 R542): region, the sender's SEQ, OFFSET and the 4 bytes of DATA, by ETH1 or radio. -/
  | recoveryAck (radio : Bool) (region seq offset : Nat) (data : Word)
  deriving DecidableEq, Repr

/-- The whole machine. -/
structure State where
  /-- The commands waiting, first in first out; the model's own. -/
  pending : List Instr
  /-- The registers, by address in register space (page * 4096 + offset, plus 0x100000 for each bank); an unlisted one
  holds its reset value. -/
  regs : List (Nat × Word)
  /-- The 64-bit timebase tick counter (01 R15, 08 R309). -/
  tb : DWord
  /-- The model's own counter of free values used (log entry 5). -/
  fresh : Nat
  /-- The bytes of program area, data area and retain memory (05 R178), by address; an unlisted one reads 0. -/
  mem : List Host.Cell
  /-- What the module has put on its lines, oldest first; the model's own record of its outputs. -/
  wire : List Wire
  evt : EvtState
  recorder : RecState
  sys : SysState
  exec : ExecState
  prog : Option Program
  memory : MemState
  cox : CoxState
  force : ForceState
  pwr : PwrState
  edit : EditState
  loop : LoopState
  clk : ClkState
  wdt : WdtState
  rtc : RtcState
  dio : DioState
  panel : PanelState
  mbx : MbxState
  spare : SpareState
  upd : UpdState
  sec : SecState
  fbc : FbcState
  pair : PairState
  net : NetState
  radio : RadioState
  /-- The CAN controllers, by number. -/
  can : List (Nat × CanState)
  deriving DecidableEq, Repr

/-- The update regions as manufactured (log entry 21): slot A of each holds a valid image of version 0. -/
def UpdState.start : UpdState := { regions := [1, 2, 3, 4, 5].map fun r => (r, { a := { state := 1 } }) }

/-- The module right after reset, before the power-on sequence has begun (02 R64). -/
def State.reset : State :=
  { pending := [], regs := [], tb := 0, fresh := 0, mem := [], wire := [], evt := {}, recorder := {},
    sys := {}, exec := {}, prog := none, memory := {}, cox := {},
    force := {}, pwr := {}, edit := {}, loop := {}, clk := {}, wdt := {}, rtc := {},
    dio := {}, panel := {}, mbx := {}, spare := {}, upd := UpdState.start, sec := {},
    fbc := {}, pair := {}, net := {}, radio := {}, can := [] }

end Sys2Proof.Machine
end

