-- ==== Sys2Proof/Machine/Flags.lean ====
section
/-!
DEFINITION. Machine/Flags.lean: the result and the flags of every word and floating-point operation of the Melax core
(05 R190 to R196). Each function takes FL and gives the result with the new FL; a flag it does not name is kept.
-/

namespace Sys2Proof.Machine

/-- N and Z from a result (05 R190). -/
def Flags.nz (f : Flags) (r : Word) : Flags := { f with n := r.msb, z := r == 0 }

/-- V as a saturation mark: V says whether the operation saturated, S is set with it and never cleared (R190). -/
def Flags.sat (f : Flags) (b : Bool) : Flags := { f with v := b, s := f.s || b }

/-- An exact integer limited to the signed 32-bit range, and whether it was outside (R190). -/
def clamp32 (v : Int) : Word × Bool :=
  if v < -2147483648 then (0x80000000, true)
  else if 2147483647 < v then (0x7FFFFFFF, true)
  else (BitVec.ofInt 32 v, false)

def aluAdd (a b : Word) (f : Flags) : Word × Flags :=
  let r := a + b
  (r, { f.nz r with c := decide (2 ^ 32 ≤ a.toNat + b.toNat), v := decide (r.toInt ≠ a.toInt + b.toInt) })

def aluAdds (a b : Word) (f : Flags) : Word × Flags :=
  let (r, o) := clamp32 (a.toInt + b.toInt)
  (r, { (f.nz r).sat o with c := false })

def aluSub (a b : Word) (f : Flags) : Word × Flags :=
  let r := a - b
  (r, { f.nz r with c := decide (a.toNat < b.toNat), v := decide (r.toInt ≠ a.toInt - b.toInt) })

def aluSubs (a b : Word) (f : Flags) : Word × Flags :=
  let (r, o) := clamp32 (a.toInt - b.toInt)
  (r, { (f.nz r).sat o with c := false })

def aluMul (a b : Word) (f : Flags) : Word × Flags := (a * b, f)

def aluMuls (a b : Word) (f : Flags) : Word × Flags :=
  let (r, o) := clamp32 (a.toInt * b.toInt)
  (r, f.sat o)

def aluMulh (a b : Word) (f : Flags) : Word × Flags := (BitVec.ofInt 32 (a.toInt * b.toInt / 4294967296), f)

def aluMulhu (a b : Word) (f : Flags) : Word × Flags := (BitVec.ofNat 32 (a.toNat * b.toNat / 4294967296), f)

/-- DIV (R195): truncated toward zero; by 0 the end of the range on the dividend's side, and 0 / 0 is 0; the one quotient
outside the range saturates. -/
def aluDiv (a b : Word) (f : Flags) : Word × Flags :=
  if b = 0 then
    let r : Word := if a = 0 then 0 else if a.msb then 0x80000000 else 0x7FFFFFFF
    (r, { (f.nz r).sat true with c := false })
  else
    let (r, o) := clamp32 (a.toInt.tdiv b.toInt)
    (r, { (f.nz r).sat o with c := false })

def aluDivu (a b : Word) (f : Flags) : Word × Flags :=
  if b = 0 then
    let r : Word := if a = 0 then 0 else 0xFFFFFFFF
    (r, { (f.nz r).sat true with c := false })
  else
    let r := BitVec.ofNat 32 (a.toNat / b.toNat)
    (r, { (f.nz r).sat false with c := false })

/-- REM (R195): the sign of the dividend; by 0 the dividend with V set and S unchanged. -/
def aluRem (a b : Word) (f : Flags) : Word × Flags :=
  let r : Word := if b = 0 then a else BitVec.ofInt 32 (a.toInt.tmod b.toInt)
  (r, { f.nz r with c := false, v := b == 0 })

def aluRemu (a b : Word) (f : Flags) : Word × Flags :=
  let r : Word := if b = 0 then a else BitVec.ofNat 32 (a.toNat % b.toNat)
  (r, { f.nz r with c := false, v := b == 0 })

def aluAnd (a b : Word) (f : Flags) : Word × Flags := (a &&& b, f.nz (a &&& b))
def aluOr (a b : Word) (f : Flags) : Word × Flags := (a ||| b, f.nz (a ||| b))
def aluXor (a b : Word) (f : Flags) : Word × Flags := (a ^^^ b, f.nz (a ^^^ b))
def aluAndn (a b : Word) (f : Flags) : Word × Flags := (a &&& ~~~b, f.nz (a &&& ~~~b))

/-- Shifts by RB[7:0] (R190): by 32 or more SHL and SHR give 0, SAR 32 copies of the sign. -/
def shlBy (a : Word) (n : Nat) : Word := a <<< n
def shrBy (a : Word) (n : Nat) : Word := a >>> n
def sarBy (a : Word) (n : Nat) : Word := a.sshiftRight n
def rolBy (a : Word) (n : Nat) : Word := a.rotateLeft (n % 32)

def aluShl (a b : Word) (f : Flags) : Word × Flags := (shlBy a (b.toNat % 256), f)
def aluShr (a b : Word) (f : Flags) : Word × Flags := (shrBy a (b.toNat % 256), f)
def aluSar (a b : Word) (f : Flags) : Word × Flags := (sarBy a (b.toNat % 256), f)
def aluRol (a b : Word) (f : Flags) : Word × Flags := (rolBy a (b.toNat % 32), f)
def aluMin (a b : Word) (f : Flags) : Word × Flags := (if b.toInt < a.toInt then b else a, f)
def aluMax (a b : Word) (f : Flags) : Word × Flags := (if a.toInt < b.toInt then b else a, f)
def aluMinu (a b : Word) (f : Flags) : Word × Flags := (if b.toNat < a.toNat then b else a, f)
def aluMaxu (a b : Word) (f : Flags) : Word × Flags := (if a.toNat < b.toNat then b else a, f)

def aluNeg (a : Word) (f : Flags) : Word × Flags :=
  let (r, o) := clamp32 (-a.toInt)
  (r, (f.nz r).sat o)

def aluAbs (a : Word) (f : Flags) : Word × Flags :=
  let (r, o) := clamp32 a.toInt.natAbs
  (r, (f.nz r).sat o)

/-- The conditions on FL (05 R192). -/
def Flags.holds (f : Flags) (c : BitVec 4) : Bool :=
  match c.toNat with
  | 0 => true
  | 1 => f.z
  | 2 => !f.z
  | 3 => f.n != f.v
  | 4 => f.n == f.v
  | 5 => f.z || f.n != f.v
  | 6 => !f.z && f.n == f.v
  | 7 => f.c
  | 8 => !f.c
  | 9 => f.c || f.z
  | 10 => !f.c && !f.z
  | 11 => f.n
  | 12 => !f.n
  | 13 => f.v
  | 14 => !f.v
  | _ => f.s

/-! ### binary32 (05 R194 to R196) -/

def fword (n : Nat) : Word := BitVec.ofNat 32 n

def fpuAdd (a b : Word) (f : Flags) : Word × Flags := (fword (b32.add a.toNat b.toNat), f)
def fpuSub (a b : Word) (f : Flags) : Word × Flags := (fword (b32.sub a.toNat b.toNat), f)
def fpuMul (a b : Word) (f : Flags) : Word × Flags := (fword (b32.mul a.toNat b.toNat), f)
def fpuDiv (a b : Word) (f : Flags) : Word × Flags := (fword (b32.div a.toNat b.toNat), f)
def fpuMin (a b : Word) (f : Flags) : Word × Flags := (fword (b32.min a.toNat b.toNat), f)
def fpuMax (a b : Word) (f : Flags) : Word × Flags := (fword (b32.max a.toNat b.toNat), f)

/-- FCMP: Z equal, N below, V unordered, C 0. -/
def fpuCmp (a b : Word) (f : Flags) : Flags :=
  let o := b32.compare a.toNat b.toNat
  { f with z := o == some .eq, n := o == some .lt, v := o.isNone, c := false }

/-- FABS and FNEG read their operand and deliver their result by R196: a subnormal is a zero, a NaN canonical. -/
def fpuAbs (a : Word) (f : Flags) : Word × Flags := (fword (b32.canon (b32.abs a.toNat)), f)
def fpuNeg (a : Word) (f : Flags) : Word × Flags := (fword (b32.canon (b32.neg a.toNat)), f)
def fpuSqrt (a : Word) (f : Flags) : Word × Flags := (fword (b32.sqrt a.toNat), f)
def fpuItof (a : Word) (f : Flags) : Word × Flags := (fword (b32.ofInt a.toInt), f)

def fpuToInt (r : IntRound) (a : Word) (f : Flags) : Word × Flags :=
  let (v, o) := b32.toInt r (-2147483648) 2147483647 a.toNat
  (BitVec.ofInt 32 v, f.sat o)

end Sys2Proof.Machine
end

