-- ==== Sys2Proof/Machine/Conds.lean ====
section
/-!
DEFINITION. Machine/Conds.lean: the event conditions of the page sections as data (03 R104): the page, the PG_EVPEND bit,
the source and the code of each. Where a chapter numbers the source by unit, the constant holds the first source and the
raising operation adds the unit.
-/

namespace Sys2Proof.Machine

/-- An event condition of a page (03 R104). -/
structure Cond where
  page : Nat
  bit : Nat
  source : Nat
  code : Nat
  deriving DecidableEq, Repr

namespace Ev

def execOverrun : Cond := ⟨0x10, 0, 15, 0x40⟩
def execTaskFault : Cond := ⟨0x10, 1, 15, 0x41⟩
def execTaskDisabled : Cond := ⟨0x10, 2, 15, 0x42⟩
def execProgramStop : Cond := ⟨0x10, 3, 15, 0x43⟩
def editEligible : Cond := ⟨0x11, 0, 77, 0x1⟩
def editActivated : Cond := ⟨0x11, 1, 77, 0x2⟩
def editRefused : Cond := ⟨0x11, 2, 77, 0x3⟩
def editFailed : Cond := ⟨0x11, 3, 77, 0x4⟩
def editAborted : Cond := ⟨0x11, 4, 77, 0x5⟩
def forceActive : Cond := ⟨0x12, 0, 213, 0x1⟩
def forceEnded : Cond := ⟨0x12, 1, 213, 0x2⟩
def forceApplied : Cond := ⟨0x12, 2, 213, 0x3⟩
def coreHalted : Cond := ⟨0x18, 0, 15, 0x48⟩
def coreStep : Cond := ⟨0x18, 1, 15, 0x49⟩
def coreResumed : Cond := ⟨0x18, 2, 15, 0x4a⟩
def coreRuntask : Cond := ⟨0x18, 3, 15, 0x4b⟩
def pwrTransitionComplete : Cond := ⟨0x2, 0, 11, 0x1⟩
def pwrRequestRefused : Cond := ⟨0x2, 1, 11, 0x2⟩
def pwrP2Conflict : Cond := ⟨0x2, 2, 11, 0x3⟩
def pwrVinLow : Cond := ⟨0x2, 3, 12, 0x1⟩
def pwrSupplyFail : Cond := ⟨0x2, 4, 12, 0x2⟩
def pwrVoutaLow : Cond := ⟨0x2, 5, 12, 0x3⟩
def pwrVoutbLow : Cond := ⟨0x2, 6, 12, 0x4⟩
def coxDeferOnset : Cond := ⟨0x3, 0, 14, 0x1⟩
def coxAdmittedLate : Cond := ⟨0x3, 1, 14, 0x2⟩
def coxBHeld : Cond := ⟨0x3, 2, 14, 0x3⟩
def coxBudgetLow : Cond := ⟨0x3, 3, 13, 0x1⟩
def coxHeatHold : Cond := ⟨0x3, 4, 13, 0x2⟩
def coxHeatClear : Cond := ⟨0x3, 5, 13, 0x3⟩
def coxMOvercommit : Cond := ⟨0x3, 6, 15, 0x50⟩
def coxFollowMissing : Cond := ⟨0x3, 7, 15, 0x51⟩
def coxStandbyShort : Cond := ⟨0x3, 8, 72, 0x1⟩
def loopTimeRefused : Cond := ⟨0x20, 0, 34, 0x30⟩
def fbcSyncState : Cond := ⟨0x40, 0, 32, 0x1⟩
def fbcSyncFailed : Cond := ⟨0x40, 1, 32, 0x2⟩
def fbcOffsetStep : Cond := ⟨0x40, 2, 32, 0x3⟩
def fbcMasterChange : Cond := ⟨0x40, 3, 33, 0x1⟩
def fbcMasterConflict : Cond := ⟨0x40, 4, 33, 0x2⟩
def fbcHandover : Cond := ⟨0x40, 5, 33, 0x3⟩
def fbcCfgRefused : Cond := ⟨0x40, 6, 34, 0x1⟩
def fbcCfgSwitched : Cond := ⟨0x40, 7, 34, 0x2⟩
def fbcLineViolation : Cond := ⟨0x40, 8, 34, 0x3⟩
def fbcLineRefused : Cond := ⟨0x40, 9, 34, 0x4⟩
def fbcCompat : Cond := ⟨0x40, 10, 35, 0x1⟩
def fbcAcqDone : Cond := ⟨0x40, 11, 60, 0x1⟩
def fbcDynOverrun : Cond := ⟨0x40, 12, 61, 0x1⟩
def fbcGrantMissing : Cond := ⟨0x40, 13, 61, 0x2⟩
def fbcReplDone : Cond := ⟨0x40, 14, 62, 0x1⟩
def fbcAddrConflict : Cond := ⟨0x40, 15, 63, 0x1⟩
def fbcStationMissing : Cond := ⟨0x40, 16, 44, 0x1⟩
def fbcStationPresent : Cond := ⟨0x40, 16, 44, 0x2⟩
def fbcStationNullOnset : Cond := ⟨0x40, 16, 44, 0x3⟩
def fbcStationSilent : Cond := ⟨0x40, 16, 44, 0x4⟩
def fbcStationStale : Cond := ⟨0x40, 16, 44, 0x5⟩
def fbcStationConflict : Cond := ⟨0x40, 16, 44, 0x6⟩
def fbcUnitSlotAbsent : Cond := ⟨0x40, 17, 59, 0x1⟩
def fbcUnitSlotPresent : Cond := ⟨0x40, 17, 59, 0x2⟩
def fbxLinkChange : Cond := ⟨0x41, 0, 36, 0x1⟩
def fbxWorkingChange : Cond := ⟨0x41, 1, 36, 0x2⟩
def fbxFcsErrors : Cond := ⟨0x41, 2, 37, 0x1⟩
def fbxFormatErrors : Cond := ⟨0x41, 3, 37, 0x2⟩
def fbxTopologyChange : Cond := ⟨0x41, 4, 38, 0x1⟩
def fbxLineDelayChange : Cond := ⟨0x41, 5, 39, 0x1⟩
def pairLaneFail : Cond := ⟨0x44, 0, 64, 0x1⟩
def pairLaneRestored : Cond := ⟨0x44, 1, 64, 0x2⟩
def pairLinkDown : Cond := ⟨0x44, 2, 64, 0x3⟩
def pairLaneSpared : Cond := ⟨0x44, 3, 65, 0x1⟩
def pairOrphaned : Cond := ⟨0x44, 4, 66, 0x1⟩
def pairRoleChange : Cond := ⟨0x44, 5, 66, 0x2⟩
def pairDemoted : Cond := ⟨0x44, 6, 66, 0x3⟩
def pairDigestOnset : Cond := ⟨0x44, 7, 69, 0x1⟩
def pairDigestEnd : Cond := ⟨0x44, 8, 69, 0x2⟩
def pairDiverged : Cond := ⟨0x44, 9, 70, 0x1⟩
def pairResyncStart : Cond := ⟨0x44, 10, 71, 0x1⟩
def pairResyncDone : Cond := ⟨0x44, 11, 71, 0x2⟩
def pairResyncFailed : Cond := ⟨0x44, 12, 71, 0x3⟩
def pairSwapDone : Cond := ⟨0x44, 13, 73, 0x1⟩
def pairSwapRefused : Cond := ⟨0x44, 14, 73, 0x2⟩
def pairNoStandby : Cond := ⟨0x44, 15, 74, 0x1⟩
def pairStandbyBack : Cond := ⟨0x44, 16, 74, 0x2⟩
def pairMirrorLag : Cond := ⟨0x44, 17, 75, 0x1⟩
def pairRetainMirror : Cond := ⟨0x44, 18, 76, 0x1⟩
def pairSelfPromoted : Cond := ⟨0x44, 19, 78, 0x1⟩
def pairNoUmpireMode : Cond := ⟨0x44, 20, 78, 0x2⟩
def claimOfferSeen : Cond := ⟨0x45, 0, 67, 0x1⟩
def claimGranted : Cond := ⟨0x45, 1, 67, 0x2⟩
def claimOfferLapsed : Cond := ⟨0x45, 2, 67, 0x3⟩
def claimEpochExhausted : Cond := ⟨0x45, 3, 67, 0x4⟩
def claimDeclared : Cond := ⟨0x45, 4, 68, 0x1⟩
def claimUmpireLost : Cond := ⟨0x45, 5, 68, 0x2⟩
def claimUmpireBack : Cond := ⟨0x45, 6, 68, 0x3⟩
def memMainCe : Cond := ⟨0x8, 0, 24, 0x1⟩
def memMainUe : Cond := ⟨0x8, 1, 24, 0x2⟩
def memFabricUe : Cond := ⟨0x8, 2, 24, 0x3⟩
def memRowReplaced : Cond := ⟨0x8, 3, 25, 0x1⟩
def memBankSpared : Cond := ⟨0x8, 4, 25, 0x2⟩
def memMainScrubLate : Cond := ⟨0x8, 5, 25, 0x3⟩
def memLoopCe : Cond := ⟨0x8, 6, 26, 0x1⟩
def memLoopUe : Cond := ⟨0x8, 7, 26, 0x2⟩
def memLoopScrubLate : Cond := ⟨0x8, 8, 26, 0x3⟩
def memDramCe : Cond := ⟨0x8, 9, 27, 0x1⟩
def memDramUe : Cond := ⟨0x8, 10, 27, 0x2⟩
def memDramScrubLate : Cond := ⟨0x8, 11, 27, 0x3⟩
def retainStoreDone : Cond := ⟨0x9, 0, 28, 0x1⟩
def retainStoreIncomplete : Cond := ⟨0x9, 1, 28, 0x2⟩
def retainRecallDone : Cond := ⟨0x9, 2, 28, 0x3⟩
def retainRecallFallback : Cond := ⟨0x9, 3, 28, 0x4⟩
def retainLedgerLost : Cond := ⟨0x9, 4, 28, 0x5⟩
def retainStoreRefused : Cond := ⟨0x9, 5, 28, 0x6⟩
def retainHoldupLow : Cond := ⟨0x9, 6, 28, 0x7⟩
def retainHoldupCrit : Cond := ⟨0x9, 7, 28, 0x8⟩
def retainWeakRestored : Cond := ⟨0x9, 8, 29, 0x1⟩
def retainPageReplaced : Cond := ⟨0x9, 9, 29, 0x2⟩
def retainMarginLate : Cond := ⟨0x9, 10, 29, 0x3⟩
def retainGenDamaged : Cond := ⟨0x9, 11, 29, 0x4⟩
def retainCe : Cond := ⟨0x9, 12, 29, 0x5⟩
def retainUe : Cond := ⟨0x9, 13, 29, 0x6⟩
def flashBlockRetired : Cond := ⟨0xa, 0, 30, 0x1⟩
def flashWriteFailed : Cond := ⟨0xa, 1, 30, 0x2⟩
def flashReadError : Cond := ⟨0xa, 2, 30, 0x3⟩
def flashLifeWarn : Cond := ⟨0xa, 3, 30, 0x4⟩
def flashReadonly : Cond := ⟨0xa, 4, 30, 0x5⟩
def flashWearLate : Cond := ⟨0xa, 5, 31, 0x1⟩
def netLinkChange : Cond := ⟨0x50, 0, 112, 0x20⟩
def netTodState : Cond := ⟨0x50, 1, 112, 0x21⟩
def netTodStep : Cond := ⟨0x50, 2, 112, 0x22⟩
def netAnnounced : Cond := ⟨0x50, 3, 112, 0x23⟩
def radioDcdChange : Cond := ⟨0x60, 0, 144, 0x1⟩
def radioCtsTimeout : Cond := ⟨0x60, 1, 145, 0x1⟩
def radioItemCompleted : Cond := ⟨0x60, 2, 146, 0x1⟩
def radioItemFailed : Cond := ⟨0x60, 3, 147, 0x1⟩
def radioQueueHigh : Cond := ⟨0x60, 4, 148, 0x1⟩
def radioQueueLow : Cond := ⟨0x60, 4, 148, 0x2⟩
def radioRxRecord : Cond := ⟨0x60, 5, 149, 0x1⟩
def radioRxError : Cond := ⟨0x60, 6, 150, 0x1⟩
def radioTakeover : Cond := ⟨0x60, 7, 151, 0x1⟩
def canErrorState : Cond := ⟨0x61, 0, 152, 0x1⟩
def canItemDone : Cond := ⟨0x61, 1, 153, 0x1⟩
def canRxFrame : Cond := ⟨0x61, 2, 154, 0x1⟩
def canRxDrop : Cond := ⟨0x61, 3, 154, 0x2⟩
def canRecovered : Cond := ⟨0x61, 4, 155, 0x1⟩
def canTakeover : Cond := ⟨0x61, 5, 155, 0x2⟩
def dioWireBreak : Cond := ⟨0x70, 0, 160, 0x1⟩
def dioWireOk : Cond := ⟨0x70, 1, 160, 0x2⟩
def dioOverload : Cond := ⟨0x70, 2, 192, 0x1⟩
def dioOverloadLatched : Cond := ⟨0x70, 3, 192, 0x2⟩
def dioOvertemp : Cond := ⟨0x70, 4, 192, 0x3⟩
def dioOpenWire : Cond := ⟨0x70, 5, 192, 0x4⟩
def dioOpenWireCleared : Cond := ⟨0x70, 6, 192, 0x5⟩
def dioLegFault : Cond := ⟨0x70, 7, 192, 0x6⟩
def dioLegSpared : Cond := ⟨0x70, 8, 192, 0x7⟩
def dioSafeEntered : Cond := ⟨0x70, 9, 192, 0x8⟩
def dioSafeLeft : Cond := ⟨0x70, 10, 192, 0x9⟩
def dioGroupSupply : Cond := ⟨0x70, 11, 192, 0xa⟩
def dioSurge : Cond := ⟨0x70, 12, 226, 0x1⟩
def panelRailFault : Cond := ⟨0x71, 0, 208, 0x1⟩
def panelRailLock : Cond := ⟨0x71, 1, 208, 0x2⟩
def panelUpdateDone : Cond := ⟨0x71, 2, 209, 0x1⟩
def panelUpdateRefused : Cond := ⟨0x71, 3, 210, 0x1⟩
def panelUpdateFailed : Cond := ⟨0x71, 4, 210, 0x2⟩
def panelBandChange : Cond := ⟨0x71, 5, 211, 0x1⟩
def panelOutOfRange : Cond := ⟨0x71, 6, 211, 0x2⟩
def panelInRange : Cond := ⟨0x71, 6, 211, 0x3⟩
def panelMordantDone : Cond := ⟨0x71, 7, 212, 0x1⟩
def panelMarkerShown : Cond := ⟨0x71, 8, 213, 0x10⟩
def panelMarkerRemoved : Cond := ⟨0x71, 8, 213, 0x11⟩
def panelRefreshLate : Cond := ⟨0x71, 9, 214, 0x1⟩
def panelLightOn : Cond := ⟨0x71, 10, 215, 0x1⟩
def panelLightOff : Cond := ⟨0x71, 10, 215, 0x2⟩
def clkReadyChange : Cond := ⟨0x1, 0, 8, 0x1⟩
def clkSwitchRefused : Cond := ⟨0x1, 1, 8, 0x2⟩
def clkSwitchDone : Cond := ⟨0x1, 2, 8, 0x3⟩
def clkPllLock : Cond := ⟨0x1, 3, 9, 0x1⟩
def clkRefLost : Cond := ⟨0x1, 4, 9, 0x2⟩
def clkCoastStart : Cond := ⟨0x1, 5, 9, 0x3⟩
def clkCoastEnd : Cond := ⟨0x1, 6, 9, 0x4⟩
def clkRefFallback : Cond := ⟨0x1, 7, 9, 0x5⟩
def clkFmcDone : Cond := ⟨0x1, 8, 10, 0x1⟩
def clkClkoutSet : Cond := ⟨0x1, 9, 10, 0x2⟩
def wdtWarn : Cond := ⟨0x6, 0, 16, 0x1⟩
def wdtStage2Reset : Cond := ⟨0x6, 1, 16, 0x2⟩
def wdtIncomplete : Cond := ⟨0x6, 2, 17, 0x1⟩
def wdtStrayCheckin : Cond := ⟨0x6, 3, 17, 0x2⟩
def wdtMonitorReset : Cond := ⟨0x6, 4, 18, 0x1⟩
def wdtCfgChanged : Cond := ⟨0x6, 5, 19, 0x1⟩
def wdtFreeze : Cond := ⟨0x6, 6, 19, 0x2⟩
def rtcAlarm : Cond := ⟨0x7, 0, 20, 0x1⟩
def rtcCommitRefused : Cond := ⟨0x7, 1, 21, 0x1⟩
def rtcAlarmRefused : Cond := ⟨0x7, 2, 21, 0x2⟩
def rtcRange : Cond := ⟨0x7, 3, 21, 0x3⟩
def rtcCommitted : Cond := ⟨0x7, 4, 21, 0x4⟩
def rtcShadowRelease : Cond := ⟨0x7, 5, 22, 0x1⟩
def rtcTrimSet : Cond := ⟨0x7, 6, 22, 0x2⟩
def rtcVbatLow : Cond := ⟨0x7, 7, 23, 0x1⟩
def rtcOscStop : Cond := ⟨0x7, 8, 23, 0x2⟩
def rtcCalendarLost : Cond := ⟨0x7, 9, 23, 0x3⟩
def mbxCmdDone : Cond := ⟨0xf, 0, 218, 0x1⟩
def mbxDeadline : Cond := ⟨0xf, 1, 219, 0x1⟩
def mbxSessionOpen : Cond := ⟨0xf, 2, 220, 0x1⟩
def mbxSessionClosed : Cond := ⟨0xf, 2, 220, 0x2⟩
def mbxAuthRefused : Cond := ⟨0xf, 3, 220, 0x3⟩
def mbxSignedOk : Cond := ⟨0xf, 4, 233, 0x1⟩
def mbxSignedFailed : Cond := ⟨0xf, 4, 233, 0x2⟩
def mbxSweepLate : Cond := ⟨0xf, 5, 224, 0x1⟩
def mbxJunctionTrip : Cond := ⟨0xf, 6, 225, 0x1⟩
def mbxJunctionCooled : Cond := ⟨0xf, 6, 225, 0x2⟩
def mbxBoardHigh : Cond := ⟨0xf, 7, 225, 0x3⟩
def mbxBoardNormal : Cond := ⟨0xf, 7, 225, 0x4⟩
def mbxMarshalRestart : Cond := ⟨0xf, 8, 235, 0x1⟩
def spareSubstituted : Cond := ⟨0xd, 0, 227, 0x1⟩
def spareCoreFailed : Cond := ⟨0xd, 1, 227, 0x2⟩
def spareInventoryLow : Cond := ⟨0xd, 2, 228, 0x1⟩
def logCleared : Cond := ⟨0xc, 0, 229, 0x1⟩
def logDropped : Cond := ⟨0xc, 1, 229, 0x2⟩
def logStart : Cond := ⟨0xc, 2, 229, 0x3⟩
def updOpened : Cond := ⟨0xb, 0, 230, 0x1⟩
def updStaged : Cond := ⟨0xb, 1, 230, 0x2⟩
def updActivated : Cond := ⟨0xb, 2, 230, 0x3⟩
def updRollback : Cond := ⟨0xb, 3, 230, 0x4⟩
def updSuperseded : Cond := ⟨0xb, 4, 230, 0x5⟩
def updRefused : Cond := ⟨0xb, 5, 231, 0x1⟩
def updFailed : Cond := ⟨0xb, 6, 231, 0x2⟩
def updFloorRaised : Cond := ⟨0xb, 7, 234, 0x1⟩
def updFloorExhausted : Cond := ⟨0xb, 8, 234, 0x2⟩
def secReportDone : Cond := ⟨0xe, 0, 232, 0x1⟩
def secKeyEnrolled : Cond := ⟨0xe, 1, 232, 0x2⟩
def secKeyRevoked : Cond := ⟨0xe, 2, 232, 0x3⟩
def secKeyRefused : Cond := ⟨0xe, 3, 232, 0x4⟩
def secProfileSet : Cond := ⟨0xe, 4, 232, 0x5⟩
def hostAccessError : Cond := ⟨0x72, 0, 216, 0x1⟩
def hostTorn : Cond := ⟨0x72, 1, 217, 0x1⟩
def sysModeChange : Cond := ⟨0x0, 0, 0, 0x1⟩
def sysCmdDone : Cond := ⟨0x0, 1, 1, 0x1⟩
def sysResetCause : Cond := ⟨0x0, 2, 2, 0x1⟩
def sysInitEnd : Cond := ⟨0x0, 3, 2, 0x2⟩
def sysFloorChange : Cond := ⟨0x0, 4, 3, 0x1⟩
def sysRestart : Cond := ⟨0x0, 5, 4, 0x1⟩
def sysWarmRefused : Cond := ⟨0x0, 6, 4, 0x2⟩
def sysPersistDone : Cond := ⟨0x0, 7, 5, 0x1⟩
def sysFactoryFallback : Cond := ⟨0x0, 8, 5, 0x2⟩
def sysPersistFailed : Cond := ⟨0x0, 9, 5, 0x3⟩
def sysRoleConflict : Cond := ⟨0x0, 10, 6, 0x1⟩

def all0 : List Cond := [
  execOverrun, execTaskFault, execTaskDisabled, execProgramStop, editEligible, editActivated, editRefused,
  editFailed, editAborted, forceActive, forceEnded, forceApplied, coreHalted, coreStep, coreResumed, coreRuntask,
  pwrTransitionComplete, pwrRequestRefused, pwrP2Conflict, pwrVinLow, pwrSupplyFail, pwrVoutaLow, pwrVoutbLow,
  coxDeferOnset]

def all1 : List Cond := [
  coxAdmittedLate, coxBHeld, coxBudgetLow, coxHeatHold, coxHeatClear, coxMOvercommit, coxFollowMissing,
  coxStandbyShort, loopTimeRefused, fbcSyncState, fbcSyncFailed, fbcOffsetStep, fbcMasterChange, fbcMasterConflict,
  fbcHandover, fbcCfgRefused, fbcCfgSwitched, fbcLineViolation, fbcLineRefused, fbcCompat, fbcAcqDone, fbcDynOverrun,
  fbcGrantMissing, fbcReplDone]

def all2 : List Cond := [
  fbcAddrConflict, fbcStationMissing, fbcStationPresent, fbcStationNullOnset, fbcStationSilent, fbcStationStale,
  fbcStationConflict, fbcUnitSlotAbsent, fbcUnitSlotPresent, fbxLinkChange, fbxWorkingChange, fbxFcsErrors,
  fbxFormatErrors, fbxTopologyChange, fbxLineDelayChange, pairLaneFail, pairLaneRestored, pairLinkDown,
  pairLaneSpared, pairOrphaned, pairRoleChange, pairDemoted, pairDigestOnset, pairDigestEnd]

def all3 : List Cond := [
  pairDiverged, pairResyncStart, pairResyncDone, pairResyncFailed, pairSwapDone, pairSwapRefused, pairNoStandby,
  pairStandbyBack, pairMirrorLag, pairRetainMirror, pairSelfPromoted, pairNoUmpireMode, claimOfferSeen, claimGranted,
  claimOfferLapsed, claimEpochExhausted, claimDeclared, claimUmpireLost, claimUmpireBack, memMainCe, memMainUe,
  memFabricUe, memRowReplaced, memBankSpared]

def all4 : List Cond := [
  memMainScrubLate, memLoopCe, memLoopUe, memLoopScrubLate, memDramCe, memDramUe, memDramScrubLate, retainStoreDone,
  retainStoreIncomplete, retainRecallDone, retainRecallFallback, retainLedgerLost, retainStoreRefused,
  retainHoldupLow, retainHoldupCrit, retainWeakRestored, retainPageReplaced, retainMarginLate, retainGenDamaged,
  retainCe, retainUe, flashBlockRetired, flashWriteFailed, flashReadError]

def all5 : List Cond := [
  flashLifeWarn, flashReadonly, flashWearLate, netLinkChange, netTodState, netTodStep, netAnnounced, radioDcdChange,
  radioCtsTimeout, radioItemCompleted, radioItemFailed, radioQueueHigh, radioQueueLow, radioRxRecord, radioRxError,
  radioTakeover, canErrorState, canItemDone, canRxFrame, canRxDrop, canRecovered, canTakeover, dioWireBreak,
  dioWireOk]

def all6 : List Cond := [
  dioOverload, dioOverloadLatched, dioOvertemp, dioOpenWire, dioOpenWireCleared, dioLegFault, dioLegSpared,
  dioSafeEntered, dioSafeLeft, dioGroupSupply, dioSurge, panelRailFault, panelRailLock, panelUpdateDone,
  panelUpdateRefused, panelUpdateFailed, panelBandChange, panelOutOfRange, panelInRange, panelMordantDone,
  panelMarkerShown, panelMarkerRemoved, panelRefreshLate, panelLightOn]

def all7 : List Cond := [
  panelLightOff, clkReadyChange, clkSwitchRefused, clkSwitchDone, clkPllLock, clkRefLost, clkCoastStart, clkCoastEnd,
  clkRefFallback, clkFmcDone, clkClkoutSet, wdtWarn, wdtStage2Reset, wdtIncomplete, wdtStrayCheckin, wdtMonitorReset,
  wdtCfgChanged, wdtFreeze, rtcAlarm, rtcCommitRefused, rtcAlarmRefused, rtcRange, rtcCommitted, rtcShadowRelease]

def all8 : List Cond := [
  rtcTrimSet, rtcVbatLow, rtcOscStop, rtcCalendarLost, mbxCmdDone, mbxDeadline, mbxSessionOpen, mbxSessionClosed,
  mbxAuthRefused, mbxSignedOk, mbxSignedFailed, mbxSweepLate, mbxJunctionTrip, mbxJunctionCooled, mbxBoardHigh,
  mbxBoardNormal, mbxMarshalRestart, spareSubstituted, spareCoreFailed, spareInventoryLow, logCleared, logDropped,
  logStart, updOpened]

def all9 : List Cond := [
  updStaged, updActivated, updRollback, updSuperseded, updRefused, updFailed, updFloorRaised, updFloorExhausted,
  secReportDone, secKeyEnrolled, secKeyRevoked, secKeyRefused, secProfileSet, hostAccessError, hostTorn,
  sysModeChange, sysCmdDone, sysResetCause, sysInitEnd, sysFloorChange, sysRestart, sysWarmRefused, sysPersistDone,
  sysFactoryFallback]

def all10 : List Cond := [
  sysPersistFailed, sysRoleConflict]

/-- Every condition above. -/
def all : List Cond := all0 ++ all1 ++ all2 ++ all3 ++ all4 ++ all5 ++ all6 ++ all7 ++ all8 ++ all9 ++ all10

end Ev

end Sys2Proof.Machine
end

