-- ==== Sys2Proof/Config.lean ====
section
/-!
DEFINITION. Config.lean: what the spec leaves to the individual module or states no value for, as constants without a body:
nothing can be proved of a value they give. Each one has a row in notes/assumptions.
-/

namespace Sys2Proof.Config

/-- The n-th value the spec leaves open while the machine goes on (log entry 5). The model applies it to a counter of
State that the step advances, so that each use takes a value of its own. -/
opaque freeValue : Nat → BitVec 64

/-- The syndrome of the data code for a set of stored-bit errors (log entry 10): 10 R366 states the code's properties
and no check matrix. -/
opaque syndrome : List Nat → BitVec 20

/-- What a profile later than the frozen one presents (03 R100, 17 R551; log entry 170): PG_ID.VERSION of a profile, and PG_CAP of
a profile and a page. -/
opaque profileVersion : Nat → BitVec 8
opaque profileCap : Nat → Nat → BitVec 32

/-- What node management sends to a node and no register of the FBC and SLOT pages holds (08 R304, R321, R322; log entry 182): the
place of the node's O-slot among a unit's O-slots (node, unit), its segment's length and offset in the payload, its silence
timeout less 1. -/
opaque nodeSlot : Nat → Nat → BitVec 8
opaque nodeSegment : Nat → BitVec 32
opaque nodeSilence : Nat → BitVec 8

/-- The bytes with which the Umpire answers IDENT: its node type, profile and serial (08 R321; log entry 182). -/
opaque identByte : Nat → Byte

/-- The first n bytes of the SHAKE256 output over bytes (log entry 14): the spec names the function and does not state it. -/
opaque shake256 : List Byte → Nat → List Byte

/-- CRC-32C over bytes (log entry 14). -/
opaque crc32c : List Byte → BitVec 32

/-- An ML-DSA-65 signature over a message verifies with a public key (log entry 14): public key, message, signature. -/
opaque mldsaVerify : List Byte → List Byte → List Byte → Bool

/-- The device key's ML-DSA-65 signature over a message (17 R548; log entry 14). -/
opaque mldsaSign : List Byte → List Byte

/-- What the factory gives each module (17 R545, R548, R549, 11 R403; log entry 19): the vendor keys in the ROM, the serial
number, the stepping, the highest compatibility profile less 1, the digest of the ROM, the unit MAC address, and of the identity
certificate the date of manufacture, the device public key, the identifier of the vendor key and the vendor signature. -/
opaque vendorKeys : List (List Byte)
opaque serial : BitVec 64
opaque stepping : BitVec 32
opaque moreProfiles : BitVec 8
opaque romDigest : List Byte
opaque unitMac : BitVec 48
opaque madeOn : BitVec 32
opaque devicePub : List Byte
opaque certKeyId : List Byte
opaque certSignature : List Byte

end Sys2Proof.Config
end

