-- ==== Sys2Proof/Machine/RegTable.lean ====
section
/-!
DEFINITION. Machine/RegTable.lean: the register tables of the spec's page sections as data: for each block its
registers with their writable bits, write-1-to-clear bits and Reset column (03 R96 to R99 and the page section of each
chapter), and one name per register (an address) and per field (an address with a bit range).
-/

namespace Sys2Proof.Machine

/-- The blocks of the page map (03 R96). -/
inductive Blk where
  | sys | clk | pwr | cox | evt | wdt | rtc | mem | retain | flash | upd | log | spare | sec | mbx | exec | edit | force | core | loop | loopctx | fbc | fbx | slot | pair | claim | net | sess | radio | can | dio | panel | host
  deriving DecidableEq, Repr

/-- One row of a page's register table: the page offset of its first register, how many registers the row names and
their spacing, the RW bits, the W1C bits, the Reset column, whether each requester has its own copy (banked), and whether
the Reset column says the register is kept or persisted. -/
structure RegSpec where
  off : Nat
  cnt : Nat
  stride : Nat
  rw : Nat
  w1c : Nat
  rst : Nat
  banked : Bool
  kept : Bool
  deriving DecidableEq, Repr

/-- A field of a register: the register's address in register space (page number times 4096 plus the page offset) and
its highest and lowest bit. -/
structure Fld where
  addr : Nat
  hi : Nat
  lo : Nat
  deriving DecidableEq, Repr

/-- The SYS page's registers. -/
def regs_sys : List RegSpec := [
  ⟨0x100, 1, 4, 0, 0, 1, false, false⟩,  -- SYS_MODE
  ⟨0x104, 1, 4, 0, 0, 0, false, false⟩,  -- SYS_STRAP
  ⟨0x108, 1, 4, 0, 0x3f, 0, false, false⟩,  -- SYS_RSTCAUSE
  ⟨0x10c, 1, 4, 0, 0, 0, false, false⟩,  -- SYS_STAT
  ⟨0x110, 1, 4, 0, 0, 0, false, false⟩,  -- SYS_FLOOR
  ⟨0x114, 1, 4, 0, 0, 0, false, false⟩,  -- SYS_STOPRSN
  ⟨0x118, 1, 4, 0, 0, 0, false, false⟩,  -- SYS_CMD
  ⟨0x11c, 1, 4, 0, 0, 0, false, false⟩,  -- SYS_CMDSTAT
  ⟨0x120, 1, 4, 0x173, 0, 0x121, false, true⟩,  -- SYS_PONTGT
  ⟨0x124, 1, 4, 3, 0, 0, false, true⟩,  -- SYS_RSTCFG
  ⟨0x128, 1, 4, 0, 0, 0, false, false⟩]  -- SYS_OUTAGE

/-- The CLK page's registers. -/
def regs_clk : List RegSpec := [
  ⟨0x100, 1, 4, 0, 0, 0x801, false, false⟩,  -- CLK_READY
  ⟨0x104, 1, 4, 0, 0, 0x80000, false, false⟩,  -- CLK_STAT
  ⟨0x108, 1, 4, 3, 0, 0, false, false⟩,  -- CLK_SEL
  ⟨0x10c, 1, 4, 0, 0, 0, false, false⟩,  -- CLK_LOSSCNT
  ⟨0x110, 1, 4, 0, 0, 0x10, false, false⟩,  -- CLK_GATE
  ⟨0x120, 1, 4, 0x800f0fff, 0, 0, false, false⟩,  -- CLK_OUTCTL
  ⟨0x130, 1, 4, 0xffffffff, 0, 1, false, false⟩,  -- FMC_CTL
  ⟨0x134, 1, 4, 0, 0, 0, false, false⟩,  -- FMC_CMD
  ⟨0x138, 1, 4, 0, 0, 0, false, false⟩,  -- FMC_STAT
  ⟨0x13c, 1, 4, 0, 0, 0, false, false⟩]  -- FMC_COUNT

/-- The PWR page's registers. -/
def regs_pwr : List RegSpec := [
  ⟨0x100, 1, 4, 0, 0, 0, false, false⟩,  -- PWR_CMD
  ⟨0x104, 1, 4, 0, 0, 0x101, false, false⟩,  -- PWR_STAT
  ⟨0x108, 1, 4, 0, 0, 0, false, false⟩,  -- PWR_TRANS
  ⟨0x10c, 1, 4, 0, 0, 0, false, false⟩,  -- PWR_TEMP
  ⟨0x110, 1, 4, 0, 0, 0, false, false⟩,  -- PWR_SUPPLY
  ⟨0x114, 1, 4, 0, 0, 0, false, false⟩,  -- PWR_VOUT
  ⟨0x118, 1, 4, 0, 0, 0, false, false⟩,  -- PWR_EMODLO
  ⟨0x11c, 1, 4, 0, 0, 0, false, false⟩,  -- PWR_EMODHI
  ⟨0x120, 1, 4, 0, 0, 0, false, false⟩]  -- PWR_PAVG

/-- The COX page's registers. -/
def regs_cox : List RegSpec := [
  ⟨0x100, 1, 4, 1, 0, 0, false, false⟩,  -- COX_CTL
  ⟨0x104, 1, 4, 0xffff, 0, 0x5dc0, false, false⟩,  -- COX_PCAP
  ⟨0x108, 1, 4, 0x1fffff, 0, 0x186a0, false, false⟩,  -- COX_EDEPTH
  ⟨0x10c, 1, 4, 0xffffffff, 0, 0, false, false⟩,  -- COX_EFLOOR
  ⟨0x110, 1, 4, 0, 0, 0x5f5e100, false, false⟩,  -- COX_ELEVEL
  ⟨0x114, 1, 4, 0xffffffff, 0, 0, false, false⟩,  -- COX_ELOW
  ⟨0x118, 1, 4, 0, 0, 0x2648, false, false⟩,  -- COX_PBASE
  ⟨0x11c, 1, 4, 0xfff, 0, 0x56e, false, false⟩,  -- COX_HEAT
  ⟨0x120, 1, 4, 0, 0, 0, false, false⟩,  -- COX_STAT
  ⟨0x124, 1, 4, 0, 0, 0, false, false⟩,  -- COX_SHORTCNT
  ⟨0x128, 1, 4, 0, 0, 0, false, false⟩,  -- COX_MOVERCNT
  ⟨0x12c, 1, 4, 0, 0, 0, false, false⟩,  -- COX_WINDOW
  ⟨0x130, 1, 4, 0, 0, 0x258, false, false⟩,  -- COX_EPC
  ⟨0x200, 64, 8, 0xffffff, 0, 0, false, false⟩,  -- COX_TCOST
  ⟨0x204, 64, 8, 0, 0, 0, false, false⟩]  -- COX_TDEF

/-- The EVT page's registers. -/
def regs_evt : List RegSpec := [
  ⟨0x100, 1, 4, 0, 0, 0, false, false⟩,  -- EVT_STAT
  ⟨0x104, 1, 4, 0, 0, 0, false, false⟩,  -- EVT_OVFTOTAL
  ⟨0x110, 4, 16, 0, 0, 0, false, false⟩,  -- EVT_PHEAD
  ⟨0x114, 4, 16, 0, 0, 0, true, false⟩,  -- EVT_PSTAMPLO
  ⟨0x118, 4, 16, 0, 0, 0, true, false⟩,  -- EVT_PSTAMPHI
  ⟨0x11c, 4, 16, 0, 0, 0, true, false⟩,  -- EVT_PDATA
  ⟨0x150, 4, 4, 0, 0, 0, false, false⟩,  -- EVT_PCOUNT
  ⟨0x180, 1, 4, 0xffffffff, 0, 0, true, false⟩,  -- EVT_RDATA
  ⟨0x184, 1, 4, 0, 0, 0, false, false⟩,  -- EVT_RAISE
  ⟨0x1100, 256, 4, 0x30f, 0, 0x307, false, false⟩,  -- EVT_SRCCFG
  ⟨0x1500, 256, 4, 0, 0x8000, 0, false, false⟩]  -- EVT_SRCSTAT

/-- The WDT page's registers. -/
def regs_wdt : List RegSpec := [
  ⟨0x100, 1, 4, 3, 0, 0, false, false⟩,  -- WDT_CTL
  ⟨0x104, 1, 4, 0xffffffff, 0, 0xbebc20, false, false⟩,  -- WDT_PERIOD
  ⟨0x108, 1, 4, 0xffffffff, 0, 0x5f5e10, false, false⟩,  -- WDT_OPEN
  ⟨0x10c, 1, 4, 0, 0, 0, false, false⟩,  -- WDT_SERVICE
  ⟨0x110, 1, 4, 0, 0, 0, false, false⟩,  -- WDT_CHECKIN
  ⟨0x114, 1, 4, 0xffffffff, 0, 0, false, false⟩,  -- WDT_EXPECT0
  ⟨0x118, 1, 4, 0xffffffff, 0, 0, false, false⟩,  -- WDT_EXPECT1
  ⟨0x11c, 1, 4, 0, 0, 0, false, false⟩,  -- WDT_COUNT
  ⟨0x120, 1, 4, 0, 0, 0, false, false⟩,  -- WDT_STAT
  ⟨0x124, 1, 4, 0, 0, 0, false, false⟩,  -- WDT_CIN0
  ⟨0x128, 1, 4, 0, 0, 0, false, false⟩,  -- WDT_CIN1
  ⟨0x140, 1, 4, 0, 0, 0, false, false⟩,  -- WDT_EVCAUSE
  ⟨0x144, 4, 4, 0, 0, 0, false, false⟩,  -- WDT_EVPC0
  ⟨0x154, 1, 4, 0, 0, 0, false, false⟩,  -- WDT_EVTASK
  ⟨0x158, 1, 4, 0, 0, 0, false, false⟩,  -- WDT_EVSVCLO
  ⟨0x15c, 1, 4, 0, 0, 0, false, false⟩,  -- WDT_EVSVCHI
  ⟨0x160, 1, 4, 0, 0, 0, false, false⟩]  -- WDT_EVSTROKE

/-- The RTC page's registers. -/
def regs_rtc : List RegSpec := [
  ⟨0x100, 1, 4, 0, 0, 0, false, true⟩,  -- RTC_SEC
  ⟨0x104, 1, 4, 0, 0, 0, false, true⟩,  -- RTC_MIN
  ⟨0x108, 1, 4, 0, 0, 0, false, true⟩,  -- RTC_HOUR
  ⟨0x10c, 1, 4, 0, 0, 0x601, false, true⟩,  -- RTC_DAY
  ⟨0x110, 1, 4, 0, 0, 1, false, true⟩,  -- RTC_MON
  ⟨0x114, 1, 4, 0, 0, 0, false, true⟩,  -- RTC_YEAR_LO
  ⟨0x118, 1, 4, 0, 0, 0, false, true⟩,  -- RTC_SECCNT
  ⟨0x11c, 1, 4, 0, 0, 0x20, false, true⟩,  -- RTC_YEAR_HI
  ⟨0x120, 1, 4, 0x7f7f7f, 0, 0, false, false⟩,  -- RTC_STGTIME
  ⟨0x124, 1, 4, 0xffff1f3f, 0, 0x20000101, false, false⟩,  -- RTC_STGDATE
  ⟨0x128, 1, 4, 0, 0, 0, false, false⟩,  -- RTC_CTL
  ⟨0x12c, 1, 4, 0xffffffff, 0, 0, false, true⟩,  -- RTC_ALMTIME
  ⟨0x130, 1, 4, 0xffffffff, 0, 0x20000101, false, true⟩,  -- RTC_ALMDATE
  ⟨0x134, 1, 4, 0xffff, 0, 0, false, true⟩,  -- RTC_TRIM
  ⟨0x138, 1, 4, 0, 0xf800000, 0x800000, false, true⟩,  -- RTC_STAT
  ⟨0x13c, 1, 4, 0, 0, 0, false, false⟩,  -- RTC_VBAT
  ⟨0x200, 64, 4, 0xffffffff, 0, 0, false, true⟩]  -- RTC_BKUP

/-- The MEM page's registers. -/
def regs_mem : List RegSpec := [
  ⟨0x100, 4, 32, 0, 0x80000000, 0, false, false⟩,  -- MEM_ECAP
  ⟨0x104, 4, 32, 0, 0, 0, false, false⟩,  -- MEM_EADDR
  ⟨0x108, 4, 32, 0, 0, 0x1ff01ff, false, false⟩,  -- MEM_EPOS
  ⟨0x10c, 4, 32, 0, 0, 0, false, false⟩,  -- MEM_CECNT
  ⟨0x110, 4, 32, 0, 0, 0, false, false⟩,  -- MEM_UECNT
  ⟨0x114, 4, 32, 0, 0, 0, false, false⟩,  -- MEM_SCRUBMS
  ⟨0x180, 17, 4, 0, 0, 0x103f, false, true⟩]  -- MEM_BANK

/-- The RETAIN page's registers. -/
def regs_retain : List RegSpec := [
  ⟨0x100, 1, 4, 0, 0, 0, false, false⟩,  -- RETAIN_STAT
  ⟨0x104, 1, 4, 0, 0, 0, false, false⟩,  -- RETAIN_GEN
  ⟨0x108, 1, 4, 0, 0, 0, false, false⟩,  -- RETAIN_CMD
  ⟨0x10c, 1, 4, 0, 0, 0, false, false⟩,  -- RETAIN_SNAPSTROKE
  ⟨0x110, 1, 4, 0, 0, 0, false, false⟩,  -- RETAIN_LASTSTORE
  ⟨0x114, 1, 4, 0, 0, 0, false, false⟩,  -- RETAIN_STORECNT0
  ⟨0x118, 1, 4, 0, 0, 0, false, false⟩,  -- RETAIN_STORECNT1
  ⟨0x11c, 1, 4, 0, 0, 0, false, false⟩,  -- RETAIN_HUCAP
  ⟨0x120, 1, 4, 0, 0, 0, false, false⟩,  -- RETAIN_HUENERGY
  ⟨0x124, 1, 4, 0, 0, 0, false, false⟩,  -- RETAIN_WEAKCNT
  ⟨0x128, 1, 4, 0, 0x80000000, 0, false, false⟩,  -- RETAIN_ECAP
  ⟨0x12c, 1, 4, 0, 0, 0, false, false⟩,  -- RETAIN_EADDR
  ⟨0x130, 1, 4, 0, 0, 0, false, false⟩,  -- RETAIN_CECNT
  ⟨0x134, 1, 4, 0, 0, 0, false, false⟩,  -- RETAIN_UECNT
  ⟨0x140, 8, 4, 0, 0, 0x52, false, false⟩]  -- RETAIN_BANK

/-- The FLASH page's registers. -/
def regs_flash : List RegSpec := [
  ⟨0x100, 1, 4, 0, 0, 0, false, false⟩,  -- FLASH_STAT
  ⟨0x104, 1, 4, 0, 0, 0x600000, false, false⟩,  -- FLASH_SPARE
  ⟨0x108, 1, 4, 0, 0, 0, false, false⟩,  -- FLASH_WRITTEN
  ⟨0x10c, 1, 4, 0xf, 0, 0, true, false⟩,  -- FLASH_PSEL
  ⟨0x110, 1, 4, 0, 0, 0x40000, false, false⟩]  -- FLASH_PINFO

/-- The UPD page's registers. -/
def regs_upd : List RegSpec := [
  ⟨0x100, 1, 4, 0xf, 0, 1, true, false⟩,  -- UPD_SEL
  ⟨0x104, 1, 4, 0, 0, 0, false, false⟩,  -- UPD_CMD
  ⟨0x108, 1, 4, 0, 0, 0, false, false⟩,  -- UPD_WDATA
  ⟨0x10c, 1, 4, 0, 0, 0, false, false⟩,  -- UPD_STAT
  ⟨0x110, 1, 4, 0, 0, 0, false, false⟩,  -- UPD_COUNT
  ⟨0x114, 1, 4, 0, 0, 0, false, false⟩,  -- UPD_SLOTS
  ⟨0x118, 1, 4, 0, 0, 0, false, false⟩,  -- UPD_VERA
  ⟨0x11c, 1, 4, 0, 0, 0, false, false⟩,  -- UPD_VERB
  ⟨0x120, 1, 4, 0, 0, 0, false, true⟩,  -- UPD_FLOOR
  ⟨0x124, 1, 4, 0, 0, 0xff, false, false⟩]  -- UPD_RAISES

/-- The LOG page's registers. -/
def regs_log : List RegSpec := [
  ⟨0x100, 1, 4, 0, 0, 0, false, true⟩,  -- LOG_COUNT
  ⟨0x104, 1, 4, 0, 0, 0, false, true⟩,  -- LOG_FIRST
  ⟨0x108, 1, 4, 0, 0, 0, false, true⟩,  -- LOG_LAST
  ⟨0x10c, 1, 4, 0xffffffff, 0, 0, true, false⟩,  -- LOG_RSEL
  ⟨0x110, 1, 4, 0, 0, 0, false, false⟩,  -- LOG_RCMD
  ⟨0x114, 1, 4, 0, 0, 0, false, false⟩,  -- LOG_RSTAT
  ⟨0x120, 1, 4, 0, 0, 0, false, false⟩,  -- LOG_RDATA0
  ⟨0x124, 15, 4, 0, 0, 0, true, false⟩,  -- LOG_RDATA1
  ⟨0x160, 8, 4, 0, 0, 0, false, true⟩,  -- LOG_DROP0
  ⟨0x180, 1, 4, 0, 0, 0, false, true⟩,  -- LOG_CLEARCNT
  ⟨0x184, 1, 4, 0, 0, 0, false, false⟩,  -- LOG_STAGED
  ⟨0x200, 32, 4, 0xffffffff, 0, 0, false, false⟩]  -- LOG_SEVMAP

/-- The SPARE page's registers. -/
def regs_spare : List RegSpec := [
  ⟨0x100, 1, 4, 1, 0, 0, false, false⟩,  -- SPARE_CTL
  ⟨0x104, 1, 4, 0, 0, 0, false, false⟩,  -- SPARE_CMD
  ⟨0x108, 1, 4, 0, 0, 0x40000, false, false⟩,  -- SPARE_STAT
  ⟨0x10c, 1, 4, 0, 0, 0, false, false⟩,  -- SPARE_TEST
  ⟨0x120, 7, 8, 0, 0, 0, false, false⟩,  -- SPARE_AVAIL
  ⟨0x124, 7, 8, 0, 0, 0, false, false⟩]  -- SPARE_SUBST

/-- The SEC page's registers. -/
def regs_sec : List RegSpec := [
  ⟨0x100, 1, 4, 0, 0, 0, false, false⟩,  -- SEC_SERIALLO
  ⟨0x104, 1, 4, 0, 0, 0, false, false⟩,  -- SEC_SERIALHI
  ⟨0x108, 1, 4, 0, 0, 0x48700001, false, false⟩,  -- SEC_PROFILE
  ⟨0x10c, 1, 4, 0xff, 0, 1, false, true⟩,  -- SEC_PROFSEL
  ⟨0x110, 1, 4, 0, 0, 0, false, false⟩,  -- SEC_STEPPING
  ⟨0x120, 8, 4, 0xffffffff, 0, 0, false, false⟩,  -- SEC_ATTNONCE0
  ⟨0x140, 1, 4, 0, 0, 0, false, false⟩,  -- SEC_ATTCMD
  ⟨0x144, 1, 4, 0, 0, 0, false, false⟩,  -- SEC_ATTSTAT
  ⟨0x148, 1, 4, 0, 0, 0, false, false⟩,  -- SEC_ATTDATA
  ⟨0x150, 1, 4, 7, 0, 0, true, false⟩,  -- SEC_KSEL
  ⟨0x154, 1, 4, 0, 0, 0, false, true⟩,  -- SEC_KINFO
  ⟨0x158, 1, 4, 0, 0, 0, false, true⟩,  -- SEC_KIDLO
  ⟨0x15c, 1, 4, 0, 0, 0, false, true⟩,  -- SEC_KIDHI
  ⟨0x160, 1, 4, 0, 0, 0, false, false⟩,  -- SEC_KCMD
  ⟨0x164, 1, 4, 0, 0, 0, false, false⟩,  -- SEC_KWDATA
  ⟨0x168, 1, 4, 0, 0, 0, false, false⟩]  -- SEC_KSTAT

/-- The MBX page's registers. -/
def regs_mbx : List RegSpec := [
  ⟨0x100, 1, 4, 0xff001fff, 0, 0, true, false⟩,  -- MBX_CMDHDR
  ⟨0x104, 1, 4, 0xffff, 0, 0x1388, true, false⟩,  -- MBX_DEADLINE
  ⟨0x108, 1, 4, 0, 0, 0, true, false⟩,  -- MBX_WDATA
  ⟨0x10c, 1, 4, 0, 0, 0, false, false⟩,  -- MBX_SUBMIT
  ⟨0x110, 1, 4, 0, 0, 0, false, false⟩,  -- MBX_SUBSTAT
  ⟨0x114, 1, 4, 0xffff, 0, 0, true, false⟩,  -- MBX_SEL
  ⟨0x118, 1, 4, 0, 0, 0, false, false⟩,  -- MBX_RSTAT
  ⟨0x11c, 1, 4, 0, 0, 0, false, false⟩,  -- MBX_RDATA
  ⟨0x120, 1, 4, 0, 0, 0, true, false⟩,  -- MBX_NONCE0
  ⟨0x124, 3, 4, 0, 0, 0, true, false⟩,  -- MBX_NONCE1
  ⟨0x130, 1, 4, 0, 0, 0, false, false⟩,  -- MBX_MSTAT
  ⟨0x134, 1, 4, 0, 0, 0, false, true⟩,  -- MBX_BOOTCNT
  ⟨0x138, 1, 4, 0, 0, 0, false, false⟩,  -- MBX_SWEEP
  ⟨0x200, 20, 4, 0, 0, 0, false, false⟩]  -- MBX_SENSOR

/-- The EXEC page's registers. -/
def regs_exec : List RegSpec := [
  ⟨0x100, 1, 4, 0, 0, 0, false, false⟩,  -- EXEC_STROKELO
  ⟨0x104, 1, 4, 0, 0, 0, false, false⟩,  -- EXEC_STROKEHI
  ⟨0x108, 1, 4, 0, 0, 0, true, false⟩,  -- EXEC_SCANLO
  ⟨0x10c, 1, 4, 0, 0, 0, true, false⟩,  -- EXEC_SCANHI
  ⟨0x110, 1, 4, 0, 0, 0xfa, false, false⟩,  -- EXEC_STROKELEN
  ⟨0x114, 1, 4, 0, 0, 0x688, false, false⟩,  -- EXEC_COREMAP
  ⟨0x118, 1, 4, 0xffffffff, 0, 0, false, false⟩,  -- EXEC_TEN0
  ⟨0x11c, 1, 4, 0xffffffff, 0, 0, false, false⟩,  -- EXEC_TEN1
  ⟨0x120, 1, 4, 0, 0x80000000, 0, false, false⟩,  -- EXEC_FLTINFO
  ⟨0x124, 1, 4, 0, 0, 0, false, false⟩,  -- EXEC_FLTPC
  ⟨0x128, 1, 4, 0, 0, 0, false, false⟩,  -- EXEC_FLTADDR
  ⟨0x12c, 1, 4, 0, 0, 0, false, false⟩,  -- EXEC_FLTSTROKE
  ⟨0x130, 1, 4, 0, 0, 0, false, false⟩,  -- EXEC_STOPREQ
  ⟨0x140, 64, 16, 0xffffffff, 0, 0x10000, false, false⟩,  -- EXEC_TCFG0
  ⟨0x144, 64, 16, 0xff033330, 0, 0, false, false⟩,  -- EXEC_TCFG1
  ⟨0x148, 64, 16, 0xffffffff, 0, 0, false, false⟩,  -- EXEC_TENTRY
  ⟨0x14c, 64, 16, 0, 0, 0, false, false⟩]  -- EXEC_TSTAT

/-- The EDIT page's registers. -/
def regs_edit : List RegSpec := [
  ⟨0x100, 1, 4, 0, 0, 0, false, false⟩,  -- EDIT_STAT
  ⟨0x104, 1, 4, 0, 0, 0, false, false⟩,  -- EDIT_CMD
  ⟨0x108, 1, 4, 0xffffffff, 0, 0, false, false⟩,  -- EDIT_TXID
  ⟨0x10c, 1, 4, 0xffff, 0, 0xffff, false, false⟩,  -- EDIT_TMO
  ⟨0x110, 1, 4, 0xffff0000, 0, 0, false, false⟩,  -- EDIT_BDESC
  ⟨0x114, 1, 4, 0xffffff, 0, 0, false, false⟩,  -- EDIT_BLEN
  ⟨0x118, 1, 4, 0, 0, 0, false, false⟩,  -- EDIT_WDATA
  ⟨0x11c, 1, 4, 0, 0, 0, false, false⟩,  -- EDIT_WCOUNT
  ⟨0x120, 8, 4, 0xffffffff, 0, 0, false, false⟩,  -- EDIT_BASESIG0
  ⟨0x140, 8, 4, 0xffffffff, 0, 0, false, false⟩,  -- EDIT_NEWSIG0
  ⟨0x160, 1, 4, 0, 0, 0, false, false⟩,  -- EDIT_ACTSTROKE
  ⟨0x164, 1, 4, 0, 0, 0, false, false⟩,  -- EDIT_AFFECT0
  ⟨0x168, 1, 4, 0, 0, 0, false, false⟩,  -- EDIT_AFFECT1
  ⟨0x16c, 1, 4, 0, 0, 0, false, false⟩,  -- EDIT_CARRYBYTES
  ⟨0x170, 8, 4, 0, 0, 0, false, false⟩]  -- EDIT_PROGSIG0

/-- The FORCE page's registers. -/
def regs_force : List RegSpec := [
  ⟨0x100, 1, 4, 0, 0, 0, false, false⟩,  -- FORCE_STAT
  ⟨0x104, 1, 4, 0x3ff, 0, 0, false, false⟩,  -- FORCE_INDEX
  ⟨0x108, 1, 4, 0xc0001fff, 0, 0, false, false⟩,  -- FORCE_ENTRY
  ⟨0x10c, 1, 4, 0xffffffff, 0, 0, false, false⟩,  -- FORCE_MASK
  ⟨0x110, 1, 4, 0xffffffff, 0, 0, false, false⟩,  -- FORCE_VALUE
  ⟨0x114, 1, 4, 0, 0, 0, false, false⟩]  -- FORCE_CMD

/-- The CORE page's registers. -/
def regs_core : List RegSpec := [
  ⟨0x100, 1, 4, 0, 0, 0, false, false⟩,  -- CORE_STAT
  ⟨0x104, 1, 4, 0, 0, 0, false, false⟩,  -- CORE_PC
  ⟨0x108, 1, 4, 0, 0, 0, false, false⟩,  -- CORE_DBGCMD
  ⟨0x10c, 1, 4, 0, 0, 0, false, false⟩,  -- CORE_DBGSTAT
  ⟨0x110, 1, 4, 0x3f, 0, 0, false, false⟩,  -- CORE_REGSEL
  ⟨0x114, 1, 4, 0xffffffff, 0, 0, false, false⟩,  -- CORE_REGDATA
  ⟨0x118, 1, 4, 0x11fffff, 0, 0, false, false⟩,  -- CORE_LAS
  ⟨0x11c, 1, 4, 0x1f, 0, 0, false, false⟩,  -- CORE_FL
  ⟨0x120, 4, 4, 0xfffffffd, 0, 0, false, false⟩,  -- CORE_BP0
  ⟨0x130, 1, 4, 0, 0, 0, false, false⟩,  -- CORE_WFUSE
  ⟨0x134, 1, 4, 0, 0, 0, false, false⟩,  -- CORE_SPILLP
  ⟨0x138, 1, 4, 0, 0, 0, false, false⟩,  -- CORE_CYCLES
  ⟨0x13c, 1, 4, 0, 0, 0, false, false⟩,  -- CORE_RETIRED
  ⟨0x140, 1, 4, 0, 0, 0, false, false⟩]  -- CORE_ILLSUB

/-- The LOOP page's registers. -/
def regs_loop : List RegSpec := [
  ⟨0x100, 1, 4, 0, 0, 0, false, false⟩,  -- LOOP_STAT
  ⟨0x104, 1, 4, 0, 0, 0, false, false⟩,  -- LOOP_ETIME
  ⟨0x108, 1, 4, 0, 0, 0, false, false⟩,  -- LOOP_ELIMIT
  ⟨0x10c, 1, 4, 0, 0, 0, false, false⟩,  -- LOOP_DUE
  ⟨0x110, 1, 4, 0x7ffff, 0, 0, true, false⟩,  -- LOOP_TADDR
  ⟨0x114, 1, 4, 0xffffffff, 0, 0, false, false⟩,  -- LOOP_TDATA
  ⟨0x120, 8, 4, 0, 0xffffffff, 0, false, false⟩,  -- LOOP_FLT0
  ⟨0x140, 8, 4, 0, 0, 0, false, false⟩,  -- LOOP_BAD0
  ⟨0x160, 8, 4, 0, 0, 0, false, false⟩]  -- LOOP_PROF0

/-- The LOOPCTX page's registers. -/
def regs_loopctx : List RegSpec := [
  ⟨0x100, 1, 4, 0xfff00000, 0, 0, false, false⟩,  -- LOOPCTX_CTL
  ⟨0x104, 1, 4, 0xffffffff, 0, 0x10000, false, false⟩,  -- LOOPCTX_TIMING
  ⟨0x108, 1, 4, 0xffffffff, 0, 0, false, false⟩,  -- LOOPCTX_PVSRC
  ⟨0x10c, 1, 4, 0xffffffff, 0, 0, false, false⟩,  -- LOOPCTX_PVGAIN
  ⟨0x110, 1, 4, 0xffffffff, 0, 0, false, false⟩,  -- LOOPCTX_PVOFS
  ⟨0x114, 1, 4, 0xffffffff, 0, 0, false, false⟩,  -- LOOPCTX_PVLO
  ⟨0x118, 1, 4, 0xffffffff, 0, 0, false, false⟩,  -- LOOPCTX_PVHI
  ⟨0x11c, 1, 4, 0xc07fffff, 0, 0, false, false⟩,  -- LOOPCTX_QUALSRC
  ⟨0x120, 1, 4, 0xffffffff, 0, 0, false, false⟩,  -- LOOPCTX_SPSRC
  ⟨0x124, 1, 4, 0xffffffff, 0, 0, false, false⟩,  -- LOOPCTX_SPGAIN
  ⟨0x128, 1, 4, 0xffffffff, 0, 0, false, false⟩,  -- LOOPCTX_SPOFS
  ⟨0x12c, 1, 4, 0xffffffff, 0, 0, false, false⟩,  -- LOOPCTX_SP
  ⟨0x130, 1, 4, 0xf00fffff, 0, 0, false, false⟩,  -- LOOPCTX_OUTDST
  ⟨0x134, 1, 4, 0xffffffff, 0, 0, false, false⟩,  -- LOOPCTX_OUTGAIN
  ⟨0x138, 1, 4, 0xffffffff, 0, 0, false, false⟩,  -- LOOPCTX_OUTOFS
  ⟨0x13c, 1, 4, 0xffffffff, 0, 0, false, false⟩,  -- LOOPCTX_UMIN
  ⟨0x140, 1, 4, 0xffffffff, 0, 0, false, false⟩,  -- LOOPCTX_UMAX
  ⟨0x144, 1, 4, 0xffffffff, 0, 0, false, false⟩,  -- LOOPCTX_RMAX
  ⟨0x148, 1, 4, 0xffffffff, 0, 0, false, false⟩,  -- LOOPCTX_UMAN
  ⟨0x14c, 1, 4, 0xffffffff, 0, 0, false, false⟩,  -- LOOPCTX_USAFE
  ⟨0x150, 1, 4, 0xffffffff, 0, 0, false, false⟩,  -- LOOPCTX_KP
  ⟨0x154, 1, 4, 0xffffffff, 0, 0, false, false⟩,  -- LOOPCTX_KI
  ⟨0x158, 1, 4, 0xffffffff, 0, 0, false, false⟩,  -- LOOPCTX_KD
  ⟨0x15c, 1, 4, 0xffffffff, 0, 0, false, false⟩,  -- LOOPCTX_TF
  ⟨0x160, 1, 4, 0xffffffff, 0, 0, false, false⟩,  -- LOOPCTX_BETA
  ⟨0x164, 1, 4, 0xffffffff, 0, 0, false, false⟩,  -- LOOPCTX_KT
  ⟨0x168, 1, 4, 0xffffffff, 0, 0, false, false⟩,  -- LOOPCTX_KFF
  ⟨0x16c, 1, 4, 0xffffffff, 0, 0, false, false⟩,  -- LOOPCTX_KV
  ⟨0x170, 1, 4, 0xffffffff, 0, 0, false, false⟩,  -- LOOPCTX_FFSRC
  ⟨0x174, 1, 4, 0xc007ffff, 0, 0, false, false⟩,  -- LOOPCTX_SCHED
  ⟨0x178, 1, 4, 0xffffffff, 0, 0, false, false⟩,  -- LOOPCTX_SCHHYS
  ⟨0x17c, 1, 4, 0xffffffff, 0, 0, false, false⟩,  -- LOOPCTX_POSSRC
  ⟨0x180, 1, 4, 0xffffffff, 0, 0, false, false⟩,  -- LOOPCTX_POSGAIN
  ⟨0x184, 1, 4, 0xffffffff, 0, 0, false, false⟩,  -- LOOPCTX_POSOFS
  ⟨0x188, 1, 4, 0x7ffff, 0, 0, false, false⟩,  -- LOOPCTX_FRPTR
  ⟨0x18c, 1, 4, 0xffffffff, 0, 0, false, false⟩,  -- LOOPCTX_FDB
  ⟨0x190, 1, 4, 0xffffffff, 0, 0, false, false⟩,  -- LOOPCTX_KSTIC
  ⟨0x194, 1, 4, 0xffffffff, 0, 0, false, false⟩,  -- LOOPCTX_VSTIC
  ⟨0x198, 1, 4, 0x7ffff, 0, 0, false, false⟩,  -- LOOPCTX_CGPTR
  ⟨0x19c, 1, 4, 0xffffffff, 0, 0, false, false⟩,  -- LOOPCTX_CGGAIN
  ⟨0x1a0, 1, 4, 0xffffffff, 0, 0, false, false⟩,  -- LOOPCTX_VMAX
  ⟨0x1a4, 1, 4, 0xffffffff, 0, 0, false, false⟩,  -- LOOPCTX_AMAX
  ⟨0x1a8, 1, 4, 0xffffffff, 0, 0, false, false⟩,  -- LOOPCTX_JMAX
  ⟨0x1ac, 1, 4, 0x1f, 0, 0, false, false⟩,  -- LOOPCTX_EVMASK
  ⟨0x1b0, 1, 4, 0, 0, 0, false, false⟩,  -- LOOPCTX_STAT
  ⟨0x1b4, 1, 4, 0, 0, 0, false, false⟩,  -- LOOPCTX_PV
  ⟨0x1b8, 1, 4, 0, 0, 0, false, false⟩,  -- LOOPCTX_W
  ⟨0x1bc, 1, 4, 0, 0, 0, false, false⟩,  -- LOOPCTX_U
  ⟨0x1c0, 1, 4, 0, 0, 0, false, false⟩,  -- LOOPCTX_UUNSAT
  ⟨0x1c4, 1, 4, 0, 0, 0, false, false⟩,  -- LOOPCTX_I
  ⟨0x1c8, 1, 4, 0, 0, 0, false, false⟩,  -- LOOPCTX_DF
  ⟨0x1cc, 1, 4, 0, 0, 0, false, false⟩,  -- LOOPCTX_C
  ⟨0x1d0, 1, 4, 0, 0, 0, false, false⟩,  -- LOOPCTX_XPOS
  ⟨0x1d4, 1, 4, 0, 0, 0, false, false⟩,  -- LOOPCTX_XVEL
  ⟨0x1d8, 1, 4, 0, 0, 0, false, false⟩,  -- LOOPCTX_PVEL
  ⟨0x1dc, 1, 4, 0, 0, 0, false, false⟩,  -- LOOPCTX_PACC
  ⟨0x1e0, 1, 4, 0, 0, 0, false, false⟩,  -- LOOPCTX_LAST
  ⟨0x1e4, 1, 4, 0, 0, 0, false, false⟩,  -- LOOPCTX_COUNT
  ⟨0x1e8, 1, 4, 0, 0, 0, false, false⟩]  -- LOOPCTX_SATCNT

/-- The FBC page's registers. -/
def regs_fbc : List RegSpec := [
  ⟨0x100, 1, 4, 0x33, 0, 0x30, false, false⟩,  -- FBC_CFG
  ⟨0x104, 1, 4, 0x3fff, 0, 0xfa, false, false⟩,  -- FBC_STROKECFG
  ⟨0x108, 1, 4, 0xffffff, 0, 0, false, false⟩,  -- FBC_SEGCFG
  ⟨0x10c, 1, 4, 0x7ff, 0, 0x40, false, false⟩,  -- FBC_PAYLOAD
  ⟨0x110, 1, 4, 0x7ff, 0, 0, false, false⟩,  -- FBC_DYNCFG
  ⟨0x114, 1, 4, 0xffff, 0, 0, false, false⟩,  -- FBC_SETTLE
  ⟨0x118, 1, 4, 0x3ff, 0, 0x14, false, false⟩,  -- FBC_CUTOFF
  ⟨0x11c, 1, 4, 0, 0, 0, false, false⟩,  -- FBC_APPLY
  ⟨0x120, 1, 4, 0, 0, 0, false, false⟩,  -- FBC_CFGSTAT
  ⟨0x124, 1, 4, 0, 0, 0, false, false⟩,  -- FBC_SWITCH
  ⟨0x128, 1, 4, 0, 0, 0x1c0000, false, false⟩,  -- FBC_SYNC
  ⟨0x12c, 1, 4, 0xffffffff, 0, 0, false, false⟩,  -- FBC_MASTERS
  ⟨0x130, 1, 4, 0xffff, 0, 0x5432, false, false⟩,  -- FBC_MOFS
  ⟨0x134, 1, 4, 0, 0, 0, false, false⟩,  -- FBC_ADDR
  ⟨0x138, 1, 4, 0, 0, 0, false, false⟩,  -- FBC_EPOCH
  ⟨0x13c, 1, 4, 0, 0, 0, false, false⟩,  -- FBC_STROKE
  ⟨0x140, 1, 4, 0, 0, 0, false, false⟩,  -- FBC_LINEDLY
  ⟨0x144, 1, 4, 0, 0, 0, false, false⟩,  -- FBC_CNT_MISMATCH
  ⟨0x148, 1, 4, 0, 0, 0, false, false⟩,  -- FBC_CNT_LATE
  ⟨0x14c, 1, 4, 0, 0, 0, false, false⟩,  -- FBC_CNT_STALE
  ⟨0x180, 1, 4, 0xffffffff, 0, 0x64, true, false⟩,  -- FBC_ACQ_DEST
  ⟨0x184, 1, 4, 0xffffffff, 0, 0, true, false⟩,  -- FBC_ACQ_INDEX
  ⟨0x188, 1, 4, 0xff, 0, 0, true, false⟩,  -- FBC_ACQ_LEN
  ⟨0x18c, 1, 4, 0, 0, 0, true, false⟩,  -- FBC_ACQ_WDATA
  ⟨0x190, 1, 4, 0, 0, 0, false, false⟩,  -- FBC_ACQ_CMD
  ⟨0x194, 1, 4, 0, 0, 0, false, false⟩,  -- FBC_ACQ_STAT
  ⟨0x198, 1, 4, 0xffff, 0, 0, true, false⟩,  -- FBC_ACQ_SEL
  ⟨0x19c, 1, 4, 0, 0, 0, true, false⟩,  -- FBC_ACQ_RSTAT
  ⟨0x1a0, 1, 4, 0, 0, 0, true, false⟩]  -- FBC_ACQ_RDATA

/-- The FBX page's registers. -/
def regs_fbx : List RegSpec := [
  ⟨0x100, 1, 4, 0, 0, 8, false, false⟩,  -- FB_STAT
  ⟨0x104, 1, 4, 3, 0, 3, false, false⟩,  -- FB_PORTCFG
  ⟨0x108, 1, 4, 0, 0, 0, false, false⟩,  -- FB_DELAY
  ⟨0x10c, 1, 4, 0, 0, 0, false, false⟩,  -- FB_CNT_FCS
  ⟨0x110, 1, 4, 0, 0, 0, false, false⟩,  -- FB_CNT_FORMAT
  ⟨0x114, 1, 4, 0, 0, 0, false, false⟩,  -- FB_CNT_FIRST
  ⟨0x118, 1, 4, 0, 0, 0, false, false⟩,  -- FB_CNT_LINKDOWN
  ⟨0x120, 1, 4, 0xff, 0, 0, false, false⟩,  -- FB_TOPOSEL
  ⟨0x124, 1, 4, 0, 0, 0, false, false⟩]  -- FB_TOPO

/-- The SLOT page's registers. -/
def regs_slot : List RegSpec := [
  ⟨0x100, 1, 4, 1, 0, 0, false, false⟩,  -- SLOT_CTL
  ⟨0x104, 1, 4, 0, 0, 0, false, false⟩,  -- SLOT_SPACE
  ⟨0x200, 254, 8, 0xc0ff7fff, 0, 0, false, false⟩,  -- SLOT_ENT0
  ⟨0x204, 254, 8, 0xffff07ff, 0, 0x7fff0000, false, false⟩,  -- SLOT_ENT1
  ⟨0xc00, 256, 4, 0, 0, 0, false, false⟩]  -- SLOT_NODE

/-- The PAIR page's registers. -/
def regs_pair : List RegSpec := [
  ⟨0x100, 1, 4, 3, 0, 0, false, false⟩,  -- PAIR_CFG
  ⟨0x104, 1, 4, 0, 0, 0, false, false⟩,  -- PAIR_STAT
  ⟨0x108, 1, 4, 0, 0, 3, false, false⟩,  -- PAIR_LANES
  ⟨0x10c, 1, 4, 0, 0, 0, false, false⟩,  -- PAIR_RESYNC
  ⟨0x110, 1, 4, 0, 0, 0, false, false⟩,  -- PAIR_JOIN
  ⟨0x114, 1, 4, 0, 0, 0, false, false⟩,  -- PAIR_DIVSTROKE
  ⟨0x118, 1, 4, 0, 0, 0, false, false⟩,  -- PAIR_CNT_FETCH
  ⟨0x11c, 1, 4, 0, 0, 0, false, false⟩,  -- PAIR_CNT_ORPHAN
  ⟨0x120, 1, 4, 0, 0, 0, false, false⟩,  -- PAIR_CNT_RETRY
  ⟨0x124, 1, 4, 0, 0, 0, false, false⟩,  -- PAIR_CMD
  ⟨0x128, 4, 4, 0, 0, 0, false, false⟩,  -- PAIR_IDIG0
  ⟨0x138, 4, 4, 0, 0, 0, false, false⟩,  -- PAIR_ODIG0
  ⟨0x148, 1, 4, 0, 0, 0, false, false⟩,  -- PAIR_LATENT0
  ⟨0x14c, 1, 4, 0, 0, 0, false, false⟩]  -- PAIR_LATENT1

/-- The CLAIM page's registers. -/
def regs_claim : List RegSpec := [
  ⟨0x100, 1, 4, 0xf, 0, 2, false, false⟩,  -- CLAIM_CFG
  ⟨0x104, 1, 4, 0, 0, 0, false, false⟩,  -- CLAIM_OWN
  ⟨0x108, 1, 4, 0, 0, 0, false, false⟩,  -- CLAIM_EPOCH
  ⟨0x10c, 1, 4, 0, 0, 0, false, false⟩,  -- CLAIM_PEER
  ⟨0x110, 1, 4, 0, 0, 0, false, false⟩,  -- CLAIM_OFFER
  ⟨0x114, 1, 4, 0, 0, 0, false, false⟩,  -- CLAIM_UMP
  ⟨0x118, 1, 4, 0, 0, 0, false, false⟩,  -- CLAIM_GSTROKE
  ⟨0x11c, 1, 4, 0, 0, 0, false, false⟩]  -- CLAIM_COUNT

/-- The NET page's registers. -/
def regs_net : List RegSpec := [
  ⟨0x100, 1, 4, 7, 0, 3, false, false⟩,  -- NET_CFG
  ⟨0x104, 1, 4, 0, 0, 0, false, false⟩,  -- NET_STAT
  ⟨0x108, 1, 4, 0xffffffff, 0, 0, false, false⟩,  -- NET_MACLO
  ⟨0x10c, 1, 4, 0xffff, 0, 0, false, false⟩,  -- NET_MACHI
  ⟨0x110, 1, 4, 0xffffffff, 0, 0, false, false⟩,  -- NET_IP4
  ⟨0x114, 1, 4, 0xffffffff, 0, 0, false, false⟩,  -- NET_IP4GW
  ⟨0x118, 1, 4, 0xffff, 0, 0x4018, false, false⟩,  -- NET_PREFIX
  ⟨0x11c, 4, 4, 0xffffffff, 0, 0, false, false⟩,  -- NET_IP6_0
  ⟨0x12c, 1, 4, 0xffffffff, 0, 0, false, false⟩,  -- NET_UIP4
  ⟨0x130, 1, 4, 0x1ff, 0, 0, false, false⟩,  -- NET_TODCTL
  ⟨0x134, 1, 4, 0, 0, 0, false, false⟩,  -- NET_TODSTAT
  ⟨0x138, 1, 4, 0, 0, 0, false, false⟩,  -- NET_TODOFSLO
  ⟨0x13c, 1, 4, 0, 0, 0, false, false⟩,  -- NET_TODOFSHI
  ⟨0x140, 1, 4, 0, 0, 0, false, false⟩,  -- NET_TODRATE
  ⟨0x150, 1, 4, 0xfe003fff, 0, 0, true, false⟩,  -- NET_TXCFG
  ⟨0x154, 1, 4, 0xffff, 0, 0x2710, false, false⟩,  -- NET_TXTMO
  ⟨0x158, 1, 4, 0, 0, 0, true, false⟩,  -- NET_TXDATA
  ⟨0x15c, 1, 4, 0, 0, 0, false, false⟩,  -- NET_TXCMD
  ⟨0x160, 1, 4, 0, 0, 0, false, false⟩,  -- NET_TXSTAT
  ⟨0x164, 1, 4, 0xffff, 0, 0, true, false⟩,  -- NET_ITSEL
  ⟨0x168, 1, 4, 0, 0, 0, false, false⟩,  -- NET_ITSTAT
  ⟨0x170, 1, 4, 0x7f, 0, 0, true, false⟩,  -- NET_RXSEL
  ⟨0x174, 1, 4, 0, 0, 0, false, false⟩,  -- NET_RXINFO
  ⟨0x178, 1, 4, 0, 0, 0, false, false⟩,  -- NET_RXDATA
  ⟨0x17c, 1, 4, 0, 0, 0, false, false⟩]  -- NET_CNT_DROP

/-- The SESS page's registers. -/
def regs_sess : List RegSpec := [
  ⟨0x100, 1, 4, 0xf800ffff, 0, 0, false, false⟩,  -- SESS_CTL
  ⟨0x104, 1, 4, 0xffff, 0, 0, false, false⟩,  -- SESS_RPORT
  ⟨0x108, 4, 4, 0xffffffff, 0, 0, false, false⟩,  -- SESS_RADDR0
  ⟨0x118, 1, 4, 0xffff, 0, 0, false, false⟩,  -- SESS_VLAN
  ⟨0x11c, 1, 4, 0xffff, 0, 0x3c, false, false⟩,  -- SESS_KATIME
  ⟨0x120, 1, 4, 0, 0, 0, false, false⟩,  -- SESS_CMD
  ⟨0x124, 1, 4, 0, 0, 0, false, false⟩,  -- SESS_STAT
  ⟨0x128, 1, 4, 0, 0, 0, false, false⟩,  -- SESS_RXAVAIL
  ⟨0x12c, 1, 4, 0, 0, 0, false, false⟩,  -- SESS_TXBYTES
  ⟨0x130, 1, 4, 0, 0, 0, false, false⟩,  -- SESS_RXBYTES
  ⟨0x134, 1, 4, 0, 0, 0, false, false⟩,  -- SESS_DROP
  ⟨0x138, 1, 4, 0, 0, 0, false, false⟩,  -- SESS_RTT
  ⟨0x13c, 4, 4, 0, 0, 0, false, false⟩,  -- SESS_PEER0
  ⟨0x14c, 1, 4, 0, 0, 0, false, false⟩]  -- SESS_PEERPORT

/-- The RADIO page's registers. -/
def regs_radio : List RegSpec := [
  ⟨0x100, 1, 4, 0xfc, 0, 0xc, false, false⟩,  -- RADIO_CFG
  ⟨0x104, 1, 4, 0xfffff, 0, 0x2580, false, false⟩,  -- RADIO_BAUD
  ⟨0x108, 1, 4, 0xffffffff, 0, 0xa0014, false, false⟩,  -- RADIO_KEY
  ⟨0x10c, 1, 4, 0xfffff, 0, 0x30064, false, false⟩,  -- RADIO_CTSWAIT
  ⟨0x110, 1, 4, 0xff, 0, 4, false, false⟩,  -- RADIO_GAP
  ⟨0x114, 1, 4, 0xfff0fff, 0, 0xc000400, false, false⟩,  -- RADIO_QLEVEL
  ⟨0x118, 1, 4, 0, 0, 0, false, false⟩,  -- RADIO_STAT
  ⟨0x120, 1, 4, 0xe0000fff, 0, 0, true, false⟩,  -- RADIO_TXCFG
  ⟨0x124, 1, 4, 0xffffffff, 0, 0x13880e10, true, false⟩,  -- RADIO_TXTMO
  ⟨0x128, 1, 4, 0, 0, 0, true, false⟩,  -- RADIO_TXDATA
  ⟨0x12c, 1, 4, 0, 0, 0, false, false⟩,  -- RADIO_CMD
  ⟨0x130, 1, 4, 0, 0, 0, false, false⟩,  -- RADIO_TXSTAT
  ⟨0x134, 1, 4, 0xffff, 0, 0, true, false⟩,  -- RADIO_ITSEL
  ⟨0x138, 1, 4, 0, 0, 0, false, false⟩,  -- RADIO_ITSTAT
  ⟨0x140, 1, 4, 0, 0, 0, false, false⟩,  -- RADIO_RXINFO
  ⟨0x144, 1, 4, 0, 0, 0, false, false⟩,  -- RADIO_RXSTAMPLO
  ⟨0x148, 1, 4, 0, 0, 0, false, false⟩,  -- RADIO_RXSTAMPHI
  ⟨0x14c, 1, 4, 0, 0, 0, false, false⟩,  -- RADIO_RXDATA
  ⟨0x150, 1, 4, 0, 0, 0, false, false⟩]  -- RADIO_CNT_DROP

/-- The CAN page's registers. -/
def regs_can : List RegSpec := [
  ⟨0x100, 1, 4, 0xff3, 0, 0x380, false, false⟩,  -- CAN_CFG
  ⟨0x104, 1, 4, 0xffffffff, 0, 0x13b1414, false, false⟩,  -- CAN_NBT
  ⟨0x108, 1, 4, 0xffffffff, 0, 0x10b0404, false, false⟩,  -- CAN_DBT
  ⟨0x10c, 1, 4, 0, 0, 0, false, false⟩,  -- CAN_STAT
  ⟨0x110, 1, 4, 0x9fffffff, 0, 0, true, false⟩,  -- CAN_TXID
  ⟨0x114, 1, 4, 0xffffe07f, 0, 0x3e80000, true, false⟩,  -- CAN_TXCFG
  ⟨0x118, 1, 4, 0, 0, 0, true, false⟩,  -- CAN_TXDATA
  ⟨0x11c, 1, 4, 0, 0, 0, false, false⟩,  -- CAN_CMD
  ⟨0x120, 1, 4, 0, 0, 0, false, false⟩,  -- CAN_TXSTAT
  ⟨0x124, 1, 4, 0xffff, 0, 0, true, false⟩,  -- CAN_ITSEL
  ⟨0x128, 1, 4, 0, 0, 0, false, false⟩,  -- CAN_ITSTAT
  ⟨0x130, 1, 4, 0, 0, 0, false, false⟩,  -- CAN_RXHEAD
  ⟨0x134, 1, 4, 0, 0, 0, false, false⟩,  -- CAN_RXINFO
  ⟨0x138, 1, 4, 0, 0, 0, false, false⟩,  -- CAN_RXSTAMPLO
  ⟨0x13c, 1, 4, 0, 0, 0, false, false⟩,  -- CAN_RXSTAMPHI
  ⟨0x140, 1, 4, 0, 0, 0, false, false⟩,  -- CAN_RXDATA
  ⟨0x144, 1, 4, 0, 0, 0, false, false⟩,  -- CAN_CNT_DROP
  ⟨0x148, 1, 4, 0, 0, 0, false, false⟩,  -- CAN_RXFILT
  ⟨0x200, 32, 8, 0xdfffffff, 0, 0, false, false⟩,  -- CAN_FILTID
  ⟨0x204, 32, 8, 0x1fffffff, 0, 0, false, false⟩]  -- CAN_FILTMASK

/-- The DIO page's registers. -/
def regs_dio : List RegSpec := [
  ⟨0x100, 1, 4, 3, 0, 0, false, false⟩,  -- DIO_CTL
  ⟨0x104, 1, 4, 0xffffffff, 0, 0, false, false⟩,  -- DIO_MAP
  ⟨0x108, 1, 4, 0x3ff, 0, 0x64, false, false⟩,  -- DIO_SILENCE
  ⟨0x10c, 1, 4, 0xffffffff, 0, 0, false, false⟩,  -- DIO_SAFE
  ⟨0x110, 1, 4, 0xffffffff, 0, 0x33333333, false, false⟩,  -- DIO_IFILT0
  ⟨0x114, 3, 4, 0xffffffff, 0, 0x33333333, false, false⟩,  -- DIO_IFILT1
  ⟨0x120, 1, 4, 0xffffffff, 0, 0, false, false⟩,  -- DIO_WBEN
  ⟨0x124, 1, 4, 0xffff, 0, 0, false, false⟩,  -- DIO_OWEN
  ⟨0x128, 1, 4, 0xf, 0, 3, false, false⟩,  -- DIO_RETRY
  ⟨0x12c, 1, 4, 0, 0, 0, false, false⟩,  -- DIO_IN
  ⟨0x130, 1, 4, 0, 0, 0, false, false⟩,  -- DIO_WB
  ⟨0x134, 1, 4, 0, 0xffffffff, 0, false, false⟩,  -- DIO_WBLATCH
  ⟨0x138, 1, 4, 0, 0, 0, false, false⟩,  -- DIO_OUT
  ⟨0x13c, 1, 4, 0, 0xffffffff, 0, false, false⟩,  -- DIO_OUTFLT
  ⟨0x140, 1, 4, 0, 0, 0, false, false⟩,  -- DIO_OWFLT
  ⟨0x144, 1, 4, 0, 0, 0, false, false⟩,  -- DIO_LEGS
  ⟨0x148, 1, 4, 0, 0, 0, false, false⟩,  -- DIO_CMD
  ⟨0x14c, 1, 4, 0, 0, 0, false, false⟩,  -- DIO_STAT
  ⟨0x150, 1, 4, 0, 0, 0, false, false⟩,  -- DIO_SILCNT
  ⟨0x160, 8, 4, 0, 0, 0, false, false⟩]  -- DIO_SURGE0

/-- The PANEL page's registers. -/
def regs_panel : List RegSpec := [
  ⟨0x100, 1, 4, 0, 0, 0, false, false⟩,  -- PANEL_GEOM
  ⟨0x104, 1, 4, 0, 0, 0xf4000000, false, false⟩,  -- PANEL_STAT
  ⟨0x108, 1, 4, 0, 0, 0, false, false⟩,  -- PANEL_TEMP
  ⟨0x10c, 1, 4, 0x1ffff, 0, 0x18, false, false⟩,  -- PANEL_CFG
  ⟨0x110, 1, 4, 0xfff, 0, 0x5dc, false, false⟩,  -- PANEL_VCOM
  ⟨0x114, 1, 4, 0xff, 0, 0, false, false⟩,  -- PANEL_LIGHT
  ⟨0x118, 1, 4, 0xffffffff, 0, 0, false, false⟩,  -- PANEL_RECT0
  ⟨0x11c, 1, 4, 0xffffffff, 0, 0, false, false⟩,  -- PANEL_RECT1
  ⟨0x120, 1, 4, 0, 0, 0, false, false⟩,  -- PANEL_CMD
  ⟨0x124, 1, 4, 0, 0, 0, false, false⟩,  -- PANEL_LAST
  ⟨0x128, 1, 4, 0x7fff, 0, 0, true, false⟩,  -- PANEL_WADDR
  ⟨0x12c, 1, 4, 0xffffffff, 0, 0, false, false⟩,  -- PANEL_WDATA
  ⟨0x130, 1, 4, 0xffffffff, 0, 0, false, false⟩,  -- PANEL_MPOS
  ⟨0x134, 1, 4, 0xffffffff, 0, 0x200040, false, false⟩,  -- PANEL_MSIZE
  ⟨0x138, 1, 4, 0x8000000f, 0, 1, false, false⟩,  -- PANEL_MCTL
  ⟨0x13c, 1, 4, 0x3ff, 0, 0, true, false⟩,  -- PANEL_MWADDR
  ⟨0x140, 1, 4, 0xffffffff, 0, 0, false, false⟩,  -- PANEL_MWDATA
  ⟨0x144, 1, 4, 0, 0, 0, false, false⟩]  -- PANEL_UPDCNT

/-- The HOST page's registers. -/
def regs_host : List RegSpec := [
  ⟨0x100, 1, 4, 0x3ff0f03, 0, 0x640000, false, false⟩,  -- HOST_CFG
  ⟨0x104, 1, 4, 0, 0xc0000000, 0, false, false⟩,  -- HOST_STAT
  ⟨0x108, 1, 4, 0, 0x80000000, 0, false, false⟩,  -- HOST_ECAP
  ⟨0x10c, 1, 4, 0, 0, 0, false, false⟩,  -- HOST_EADDR
  ⟨0x110, 1, 4, 0, 0, 0, false, false⟩,  -- HOST_ERRCNT
  ⟨0x114, 1, 4, 0, 0, 0, false, false⟩]  -- HOST_WAITMAX

/-- The register table of a block. -/
def Blk.regs : Blk → List RegSpec
  | .sys => regs_sys
  | .clk => regs_clk
  | .pwr => regs_pwr
  | .cox => regs_cox
  | .evt => regs_evt
  | .wdt => regs_wdt
  | .rtc => regs_rtc
  | .mem => regs_mem
  | .retain => regs_retain
  | .flash => regs_flash
  | .upd => regs_upd
  | .log => regs_log
  | .spare => regs_spare
  | .sec => regs_sec
  | .mbx => regs_mbx
  | .exec => regs_exec
  | .edit => regs_edit
  | .force => regs_force
  | .core => regs_core
  | .loop => regs_loop
  | .loopctx => regs_loopctx
  | .fbc => regs_fbc
  | .fbx => regs_fbx
  | .slot => regs_slot
  | .pair => regs_pair
  | .claim => regs_claim
  | .net => regs_net
  | .sess => regs_sess
  | .radio => regs_radio
  | .can => regs_can
  | .dio => regs_dio
  | .panel => regs_panel
  | .host => regs_host

/-- PG_ID.TYPE of a block (03 R96). -/
def Blk.type : Blk → Nat
  | .sys => 0x1
  | .clk => 0x2
  | .pwr => 0x3
  | .cox => 0x4
  | .evt => 0x5
  | .wdt => 0x6
  | .rtc => 0x7
  | .mem => 0x8
  | .retain => 0x9
  | .flash => 0xa
  | .upd => 0xb
  | .log => 0xc
  | .spare => 0xd
  | .sec => 0xe
  | .mbx => 0xf
  | .exec => 0x10
  | .edit => 0x11
  | .force => 0x12
  | .core => 0x13
  | .loop => 0x20
  | .loopctx => 0x21
  | .fbc => 0x30
  | .fbx => 0x31
  | .slot => 0x32
  | .pair => 0x33
  | .claim => 0x34
  | .net => 0x40
  | .sess => 0x41
  | .radio => 0x42
  | .can => 0x43
  | .dio => 0x50
  | .panel => 0x51
  | .host => 0x52

namespace R

def SYS_MODE : Nat := 0x100
def SYS_MODE_PREV : Fld := ⟨0x100, 10, 8⟩
def SYS_MODE_MODE : Fld := ⟨0x100, 2, 0⟩
def SYS_STRAP : Nat := 0x104
def SYS_STRAP_XTAL_DELAY : Fld := ⟨0x104, 5, 3⟩
def SYS_STRAP_RECOV_N : Fld := ⟨0x104, 2, 2⟩
def SYS_STRAP_ROLE : Fld := ⟨0x104, 1, 0⟩
def SYS_RSTCAUSE : Nat := 0x108
def SYS_RSTCAUSE_HOSTCMD : Fld := ⟨0x108, 5, 5⟩
def SYS_RSTCAUSE_CLKMON : Fld := ⟨0x108, 4, 4⟩
def SYS_RSTCAUSE_WDT : Fld := ⟨0x108, 3, 3⟩
def SYS_RSTCAUSE_RSTN : Fld := ⟨0x108, 2, 2⟩
def SYS_RSTCAUSE_SUPPLYRET : Fld := ⟨0x108, 1, 1⟩
def SYS_RSTCAUSE_POWERON : Fld := ⟨0x108, 0, 0⟩
def SYS_STAT : Nat := 0x10c
def SYS_STAT_CONSENT : Fld := ⟨0x10c, 3, 3⟩
def SYS_STAT_RESYNC : Fld := ⟨0x10c, 2, 2⟩
def SYS_STAT_RETAIN_KEPT : Fld := ⟨0x10c, 1, 1⟩
def SYS_STAT_INITDONE : Fld := ⟨0x10c, 0, 0⟩
def SYS_FLOOR : Nat := 0x110
def SYS_FLOOR_CONTROL : Fld := ⟨0x110, 24, 24⟩
def SYS_FLOOR_ELEMENTS : Fld := ⟨0x110, 22, 16⟩
def SYS_FLOOR_DIAG : Fld := ⟨0x110, 8, 8⟩
def SYS_FLOOR_PATHS : Fld := ⟨0x110, 4, 0⟩
def SYS_STOPRSN : Nat := 0x114
def SYS_STOPRSN_ARG : Fld := ⟨0x114, 15, 8⟩
def SYS_STOPRSN_CODE : Fld := ⟨0x114, 7, 0⟩
def SYS_CMD : Nat := 0x118
def SYS_CMD_KEY : Fld := ⟨0x118, 31, 16⟩
def SYS_CMD_ARG : Fld := ⟨0x118, 15, 8⟩
def SYS_CMD_CODE : Fld := ⟨0x118, 7, 0⟩
def SYS_CMDSTAT : Nat := 0x11c
def SYS_CMDSTAT_PENDING : Fld := ⟨0x11c, 31, 31⟩
def SYS_CMDSTAT_REASON : Fld := ⟨0x11c, 23, 16⟩
def SYS_CMDSTAT_CODE : Fld := ⟨0x11c, 7, 0⟩
def SYS_PONTGT : Nat := 0x120
def SYS_PONTGT_KIND : Fld := ⟨0x120, 8, 8⟩
def SYS_PONTGT_MODE : Fld := ⟨0x120, 6, 4⟩
def SYS_PONTGT_PSTATE : Fld := ⟨0x120, 1, 0⟩
def SYS_RSTCFG : Nat := 0x124
def SYS_RSTCFG_BUSREF : Fld := ⟨0x124, 1, 1⟩
def SYS_RSTCFG_COLD_FALLBACK : Fld := ⟨0x124, 0, 0⟩
def SYS_OUTAGE : Nat := 0x128
def SYS_OUTAGE_S : Fld := ⟨0x128, 31, 0⟩
def CLK_READY : Nat := 0x1100
def CLK_READY_READY : Fld := ⟨0x1100, 11, 0⟩
def CLK_STAT : Nat := 0x1104
def CLK_STAT_LASTRSN : Fld := ⟨0x1104, 31, 24⟩
def CLK_STAT_MARREF : Fld := ⟨0x1104, 19, 19⟩
def CLK_STAT_COAST : Fld := ⟨0x1104, 18, 18⟩
def CLK_STAT_LOCK : Fld := ⟨0x1104, 17, 17⟩
def CLK_STAT_RUN : Fld := ⟨0x1104, 16, 16⟩
def CLK_STAT_PLLREF : Fld := ⟨0x1104, 1, 0⟩
def CLK_SEL : Nat := 0x1108
def CLK_SEL_PLLREF : Fld := ⟨0x1108, 1, 0⟩
def CLK_LOSSCNT : Nat := 0x110c
def CLK_LOSSCNT_COASTS : Fld := ⟨0x110c, 31, 16⟩
def CLK_LOSSCNT_FALLBACKS : Fld := ⟨0x110c, 15, 0⟩
def CLK_GATE : Nat := 0x1110
def CLK_GATE_PANEL : Fld := ⟨0x1110, 9, 9⟩
def CLK_GATE_RADIO : Fld := ⟨0x1110, 8, 8⟩
def CLK_GATE_CAN : Fld := ⟨0x1110, 7, 6⟩
def CLK_GATE_LOOP : Fld := ⟨0x1110, 5, 5⟩
def CLK_GATE_CORES : Fld := ⟨0x1110, 4, 0⟩
def CLK_OUTCTL : Nat := 0x1120
def CLK_OUTCTL_EN : Fld := ⟨0x1120, 31, 31⟩
def CLK_OUTCTL_SRC : Fld := ⟨0x1120, 19, 16⟩
def CLK_OUTCTL_DIV : Fld := ⟨0x1120, 11, 0⟩
def FMC_CTL : Nat := 0x1130
def FMC_CTL_MEAS : Fld := ⟨0x1130, 31, 28⟩
def FMC_CTL_REF : Fld := ⟨0x1130, 27, 24⟩
def FMC_CTL_GATE : Fld := ⟨0x1130, 23, 0⟩
def FMC_CMD : Nat := 0x1134
def FMC_CMD_KEY : Fld := ⟨0x1134, 31, 16⟩
def FMC_CMD_CODE : Fld := ⟨0x1134, 7, 0⟩
def FMC_STAT : Nat := 0x1138
def FMC_STAT_OUTCOME : Fld := ⟨0x1138, 31, 28⟩
def FMC_STAT_MEASLOST : Fld := ⟨0x1138, 27, 27⟩
def FMC_STAT_REASON : Fld := ⟨0x1138, 23, 16⟩
def FMC_COUNT : Nat := 0x113c
def FMC_COUNT_COUNT : Fld := ⟨0x113c, 31, 0⟩
def PWR_CMD : Nat := 0x2100
def PWR_CMD_KEY : Fld := ⟨0x2100, 31, 16⟩
def PWR_CMD_CODE : Fld := ⟨0x2100, 1, 0⟩
def PWR_STAT : Nat := 0x2104
def PWR_STAT_LASTRSN : Fld := ⟨0x2104, 31, 24⟩
def PWR_STAT_PENDING : Fld := ⟨0x2104, 16, 16⟩
def PWR_STAT_TARGET : Fld := ⟨0x2104, 9, 8⟩
def PWR_STAT_STATE : Fld := ⟨0x2104, 1, 0⟩
def PWR_TRANS : Nat := 0x2108
def PWR_TRANS_STROKE : Fld := ⟨0x2108, 31, 0⟩
def PWR_TEMP : Nat := 0x210c
def PWR_TEMP_TJMAX : Fld := ⟨0x210c, 15, 8⟩
def PWR_TEMP_TBOARD : Fld := ⟨0x210c, 7, 0⟩
def PWR_SUPPLY : Nat := 0x2110
def PWR_SUPPLY_VIN24 : Fld := ⟨0x2110, 31, 16⟩
def PWR_SUPPLY_HOLDUP : Fld := ⟨0x2110, 15, 0⟩
def PWR_VOUT : Nat := 0x2114
def PWR_VOUT_VOUTB : Fld := ⟨0x2114, 31, 16⟩
def PWR_VOUT_VOUTA : Fld := ⟨0x2114, 15, 0⟩
def PWR_EMODLO : Nat := 0x2118
def PWR_EMODLO_E_LO : Fld := ⟨0x2118, 31, 0⟩
def PWR_EMODHI : Nat := 0x211c
def PWR_EMODHI_E_HI : Fld := ⟨0x211c, 31, 0⟩
def PWR_PAVG : Nat := 0x2120
def PWR_PAVG_MW : Fld := ⟨0x2120, 15, 0⟩
def COX_CTL : Nat := 0x3100
def COX_CTL_BEN : Fld := ⟨0x3100, 0, 0⟩
def COX_PCAP : Nat := 0x3104
def COX_PCAP_MW : Fld := ⟨0x3104, 15, 0⟩
def COX_EDEPTH : Nat := 0x3108
def COX_EDEPTH_UJ : Fld := ⟨0x3108, 20, 0⟩
def COX_EFLOOR : Nat := 0x310c
def COX_EFLOOR_NJ : Fld := ⟨0x310c, 31, 0⟩
def COX_ELEVEL : Nat := 0x3110
def COX_ELEVEL_NJ : Fld := ⟨0x3110, 31, 0⟩
def COX_ELOW : Nat := 0x3114
def COX_ELOW_NJ : Fld := ⟨0x3114, 31, 0⟩
def COX_PBASE : Nat := 0x3118
def COX_PBASE_MW : Fld := ⟨0x3118, 15, 0⟩
def COX_HEAT : Nat := 0x311c
def COX_HEAT_HOLD : Fld := ⟨0x311c, 16, 16⟩
def COX_HEAT_THYST : Fld := ⟨0x311c, 11, 8⟩
def COX_HEAT_THOT : Fld := ⟨0x311c, 7, 0⟩
def COX_STAT : Nat := 0x3120
def COX_STAT_DEFNOW : Fld := ⟨0x3120, 31, 24⟩
def COX_STAT_ADMITNOW : Fld := ⟨0x3120, 23, 16⟩
def COX_STAT_FOLLOW : Fld := ⟨0x3120, 8, 8⟩
def COX_STAT_REASONS : Fld := ⟨0x3120, 3, 0⟩
def COX_SHORTCNT : Nat := 0x3124
def COX_SHORTCNT_COUNT : Fld := ⟨0x3124, 31, 0⟩
def COX_MOVERCNT : Nat := 0x3128
def COX_MOVERCNT_COUNT : Fld := ⟨0x3128, 31, 0⟩
def COX_WINDOW : Nat := 0x312c
def COX_WINDOW_W : Fld := ⟨0x312c, 23, 0⟩
def COX_EPC : Nat := 0x3130
def COX_EPC_PJ : Fld := ⟨0x3130, 15, 0⟩
def COX_TCOST : Nat := 0x3200
def COX_TCOST_CLOCKS : Fld := ⟨0x3200, 23, 0⟩
def COX_TDEF : Nat := 0x3204
def COX_TDEF_DEFSTROKES : Fld := ⟨0x3204, 31, 16⟩
def COX_TDEF_LASTREASON : Fld := ⟨0x3204, 3, 0⟩
def EVT_STAT : Nat := 0x4100
def EVT_STAT_PENDSRC : Fld := ⟨0x4100, 8, 0⟩
def EVT_OVFTOTAL : Nat := 0x4104
def EVT_OVFTOTAL_COUNT : Fld := ⟨0x4104, 31, 0⟩
def EVT_PHEAD : Nat := 0x4110
def EVT_PHEAD_INFO : Fld := ⟨0x4110, 31, 0⟩
def EVT_PSTAMPLO : Nat := 0x4114
def EVT_PSTAMPLO_STAMP_LO : Fld := ⟨0x4114, 31, 0⟩
def EVT_PSTAMPHI : Nat := 0x4118
def EVT_PSTAMPHI_STAMP_HI : Fld := ⟨0x4118, 31, 0⟩
def EVT_PDATA : Nat := 0x411c
def EVT_PDATA_DATA : Fld := ⟨0x411c, 31, 0⟩
def EVT_PCOUNT : Nat := 0x4150
def EVT_PCOUNT_COUNT : Fld := ⟨0x4150, 14, 0⟩
def EVT_RDATA : Nat := 0x4180
def EVT_RDATA_DATA : Fld := ⟨0x4180, 31, 0⟩
def EVT_RAISE : Nat := 0x4184
def EVT_RAISE_SOURCE : Fld := ⟨0x4184, 15, 8⟩
def EVT_RAISE_CODE : Fld := ⟨0x4184, 6, 0⟩
def EVT_SRCCFG : Nat := 0x5100
def EVT_SRCCFG_RECORD : Fld := ⟨0x5100, 9, 9⟩
def EVT_SRCCFG_EN : Fld := ⟨0x5100, 8, 8⟩
def EVT_SRCCFG_PRIO : Fld := ⟨0x5100, 3, 2⟩
def EVT_SRCCFG_TARGET : Fld := ⟨0x5100, 1, 0⟩
def EVT_SRCSTAT : Nat := 0x5500
def EVT_SRCSTAT_NEXTSEQ : Fld := ⟨0x5500, 31, 16⟩
def EVT_SRCSTAT_OVF : Fld := ⟨0x5500, 15, 15⟩
def EVT_SRCSTAT_COUNT : Fld := ⟨0x5500, 6, 0⟩
def WDT_CTL : Nat := 0x6100
def WDT_CTL_CLKSEL : Fld := ⟨0x6100, 1, 1⟩
def WDT_CTL_EN : Fld := ⟨0x6100, 0, 0⟩
def WDT_PERIOD : Nat := 0x6104
def WDT_PERIOD_TICKS : Fld := ⟨0x6104, 31, 0⟩
def WDT_OPEN : Nat := 0x6108
def WDT_OPEN_TICKS : Fld := ⟨0x6108, 31, 0⟩
def WDT_SERVICE : Nat := 0x610c
def WDT_SERVICE_KEY : Fld := ⟨0x610c, 31, 0⟩
def WDT_CHECKIN : Nat := 0x6110
def WDT_CHECKIN_TASK : Fld := ⟨0x6110, 5, 0⟩
def WDT_EXPECT0 : Nat := 0x6114
def WDT_EXPECT0_TASKS : Fld := ⟨0x6114, 31, 0⟩
def WDT_EXPECT1 : Nat := 0x6118
def WDT_EXPECT1_TASKS : Fld := ⟨0x6118, 31, 0⟩
def WDT_COUNT : Nat := 0x611c
def WDT_COUNT_COUNT : Fld := ⟨0x611c, 31, 0⟩
def WDT_STAT : Nat := 0x6120
def WDT_STAT_STAGE : Fld := ⟨0x6120, 31, 30⟩
def WDT_STAT_FROZEN : Fld := ⟨0x6120, 29, 29⟩
def WDT_STAT_COUNTING : Fld := ⟨0x6120, 28, 28⟩
def WDT_STAT_LASTSVC : Fld := ⟨0x6120, 27, 24⟩
def WDT_STAT_STRAY : Fld := ⟨0x6120, 23, 16⟩
def WDT_STAT_BADKEY : Fld := ⟨0x6120, 15, 8⟩
def WDT_STAT_WARNS : Fld := ⟨0x6120, 7, 0⟩
def WDT_CIN0 : Nat := 0x6124
def WDT_CIN0_TASKS : Fld := ⟨0x6124, 31, 0⟩
def WDT_CIN1 : Nat := 0x6128
def WDT_CIN1_TASKS : Fld := ⟨0x6128, 31, 0⟩
def WDT_EVCAUSE : Nat := 0x6140
def WDT_EVCAUSE_STAGE2 : Fld := ⟨0x6140, 15, 8⟩
def WDT_EVCAUSE_STAGE1 : Fld := ⟨0x6140, 7, 0⟩
def WDT_EVPC0 : Nat := 0x6144
def WDT_EVPC0_PC : Fld := ⟨0x6144, 31, 0⟩
def WDT_EVTASK : Nat := 0x6154
def WDT_EVTASK_TASKS : Fld := ⟨0x6154, 31, 0⟩
def WDT_EVSVCLO : Nat := 0x6158
def WDT_EVSVCLO_STAMP : Fld := ⟨0x6158, 31, 0⟩
def WDT_EVSVCHI : Nat := 0x615c
def WDT_EVSVCHI_STAMP : Fld := ⟨0x615c, 31, 0⟩
def WDT_EVSTROKE : Nat := 0x6160
def WDT_EVSTROKE_STROKE : Fld := ⟨0x6160, 31, 0⟩
def RTC_SEC : Nat := 0x7100
def RTC_SEC_SEC : Fld := ⟨0x7100, 6, 0⟩
def RTC_MIN : Nat := 0x7104
def RTC_MIN_MIN : Fld := ⟨0x7104, 6, 0⟩
def RTC_HOUR : Nat := 0x7108
def RTC_HOUR_HOUR : Fld := ⟨0x7108, 5, 0⟩
def RTC_DAY : Nat := 0x710c
def RTC_DAY_WDAY : Fld := ⟨0x710c, 10, 8⟩
def RTC_DAY_DAY : Fld := ⟨0x710c, 5, 0⟩
def RTC_MON : Nat := 0x7110
def RTC_MON_MON : Fld := ⟨0x7110, 4, 0⟩
def RTC_YEAR_LO : Nat := 0x7114
def RTC_YEAR_LO_YEAR : Fld := ⟨0x7114, 7, 0⟩
def RTC_SECCNT : Nat := 0x7118
def RTC_SECCNT_COUNT : Fld := ⟨0x7118, 31, 0⟩
def RTC_YEAR_HI : Nat := 0x711c
def RTC_YEAR_HI_CENT : Fld := ⟨0x711c, 7, 0⟩
def RTC_STGTIME : Nat := 0x7120
def RTC_STGTIME_HOUR : Fld := ⟨0x7120, 22, 16⟩
def RTC_STGTIME_MIN : Fld := ⟨0x7120, 14, 8⟩
def RTC_STGTIME_SEC : Fld := ⟨0x7120, 6, 0⟩
def RTC_STGDATE : Nat := 0x7124
def RTC_STGDATE_YEAR : Fld := ⟨0x7124, 31, 16⟩
def RTC_STGDATE_MON : Fld := ⟨0x7124, 12, 8⟩
def RTC_STGDATE_DAY : Fld := ⟨0x7124, 5, 0⟩
def RTC_CTL : Nat := 0x7128
def RTC_CTL_DISARM : Fld := ⟨0x7128, 2, 2⟩
def RTC_CTL_ARM : Fld := ⟨0x7128, 1, 1⟩
def RTC_CTL_COMMIT : Fld := ⟨0x7128, 0, 0⟩
def RTC_ALMTIME : Nat := 0x712c
def RTC_ALMTIME_TIME : Fld := ⟨0x712c, 31, 0⟩
def RTC_ALMDATE : Nat := 0x7130
def RTC_ALMDATE_DATE : Fld := ⟨0x7130, 31, 0⟩
def RTC_TRIM : Nat := 0x7134
def RTC_TRIM_PPM10 : Fld := ⟨0x7134, 15, 0⟩
def RTC_STAT : Nat := 0x7138
def RTC_STAT_VALID : Fld := ⟨0x7138, 31, 31⟩
def RTC_STAT_RANGE : Fld := ⟨0x7138, 30, 30⟩
def RTC_STAT_ARMED : Fld := ⟨0x7138, 29, 29⟩
def RTC_STAT_FROZEN : Fld := ⟨0x7138, 28, 28⟩
def RTC_STAT_SHREL : Fld := ⟨0x7138, 27, 27⟩
def RTC_STAT_ALMF : Fld := ⟨0x7138, 26, 26⟩
def RTC_STAT_SKIPPED : Fld := ⟨0x7138, 25, 25⟩
def RTC_STAT_OSCSTOP : Fld := ⟨0x7138, 24, 24⟩
def RTC_STAT_CALPOR : Fld := ⟨0x7138, 23, 23⟩
def RTC_STAT_VBATLOW : Fld := ⟨0x7138, 22, 22⟩
def RTC_STAT_LASTRSN : Fld := ⟨0x7138, 15, 8⟩
def RTC_VBAT : Nat := 0x713c
def RTC_VBAT_MIN : Fld := ⟨0x713c, 31, 16⟩
def RTC_VBAT_MV : Fld := ⟨0x713c, 15, 0⟩
def RTC_BKUP : Nat := 0x7200
def RTC_BKUP_DATA : Fld := ⟨0x7200, 31, 0⟩
def MEM_ECAP : Nat := 0x8100
def MEM_ECAP_VALID : Fld := ⟨0x8100, 31, 31⟩
def MEM_ECAP_MORE : Fld := ⟨0x8100, 30, 30⟩
def MEM_ECAP_KIND : Fld := ⟨0x8100, 29, 28⟩
def MEM_ECAP_SRC : Fld := ⟨0x8100, 27, 26⟩
def MEM_ECAP_SYNDROME : Fld := ⟨0x8100, 19, 0⟩
def MEM_EADDR : Nat := 0x8104
def MEM_EADDR_ADDR : Fld := ⟨0x8104, 31, 0⟩
def MEM_EPOS : Nat := 0x8108
def MEM_EPOS_POS2 : Fld := ⟨0x8108, 24, 16⟩
def MEM_EPOS_POS1 : Fld := ⟨0x8108, 8, 0⟩
def MEM_CECNT : Nat := 0x810c
def MEM_CECNT_COUNT : Fld := ⟨0x810c, 31, 0⟩
def MEM_UECNT : Nat := 0x8110
def MEM_UECNT_COUNT : Fld := ⟨0x8110, 31, 0⟩
def MEM_SCRUBMS : Nat := 0x8114
def MEM_SCRUBMS_MS : Fld := ⟨0x8114, 31, 0⟩
def MEM_BANK : Nat := 0x8180
def MEM_BANK_ROWSUSED : Fld := ⟨0x8180, 23, 16⟩
def MEM_BANK_ROWSFREE : Fld := ⟨0x8180, 15, 8⟩
def MEM_BANK_SERVES : Fld := ⟨0x8180, 5, 1⟩
def MEM_BANK_OK : Fld := ⟨0x8180, 0, 0⟩
def RETAIN_STAT : Nat := 0x9100
def RETAIN_STAT_RECALLED : Fld := ⟨0x9100, 31, 31⟩
def RETAIN_STAT_VALID : Fld := ⟨0x9100, 30, 30⟩
def RETAIN_STAT_STORE_INCOMPLETE : Fld := ⟨0x9100, 29, 29⟩
def RETAIN_STAT_STORING : Fld := ⟨0x9100, 28, 28⟩
def RETAIN_STAT_FALLBACK : Fld := ⟨0x9100, 27, 27⟩
def RETAIN_STAT_GENDAMAGED : Fld := ⟨0x9100, 26, 26⟩
def RETAIN_STAT_HUREADY : Fld := ⟨0x9100, 25, 25⟩
def RETAIN_STAT_HULOW : Fld := ⟨0x9100, 24, 24⟩
def RETAIN_STAT_HUCRIT : Fld := ⟨0x9100, 23, 23⟩
def RETAIN_STAT_SLOT : Fld := ⟨0x9100, 22, 22⟩
def RETAIN_STAT_LASTRSN : Fld := ⟨0x9100, 15, 8⟩
def RETAIN_GEN : Nat := 0x9104
def RETAIN_GEN_GEN : Fld := ⟨0x9104, 31, 0⟩
def RETAIN_CMD : Nat := 0x9108
def RETAIN_CMD_KEY : Fld := ⟨0x9108, 31, 16⟩
def RETAIN_CMD_CODE : Fld := ⟨0x9108, 7, 0⟩
def RETAIN_SNAPSTROKE : Nat := 0x910c
def RETAIN_SNAPSTROKE_STROKE : Fld := ⟨0x910c, 31, 0⟩
def RETAIN_LASTSTORE : Nat := 0x9110
def RETAIN_LASTSTORE_US : Fld := ⟨0x9110, 31, 16⟩
def RETAIN_LASTSTORE_MV : Fld := ⟨0x9110, 15, 0⟩
def RETAIN_STORECNT0 : Nat := 0x9114
def RETAIN_STORECNT0_COUNT : Fld := ⟨0x9114, 31, 0⟩
def RETAIN_STORECNT1 : Nat := 0x9118
def RETAIN_STORECNT1_COUNT : Fld := ⟨0x9118, 31, 0⟩
def RETAIN_HUCAP : Nat := 0x911c
def RETAIN_HUCAP_UF : Fld := ⟨0x911c, 15, 0⟩
def RETAIN_HUENERGY : Nat := 0x9120
def RETAIN_HUENERGY_UJ : Fld := ⟨0x9120, 23, 0⟩
def RETAIN_WEAKCNT : Nat := 0x9124
def RETAIN_WEAKCNT_COUNT : Fld := ⟨0x9124, 31, 0⟩
def RETAIN_ECAP : Nat := 0x9128
def RETAIN_EADDR : Nat := 0x912c
def RETAIN_EADDR_ADDR : Fld := ⟨0x912c, 31, 0⟩
def RETAIN_CECNT : Nat := 0x9130
def RETAIN_CECNT_COUNT : Fld := ⟨0x9130, 31, 0⟩
def RETAIN_UECNT : Nat := 0x9134
def RETAIN_UECNT_COUNT : Fld := ⟨0x9134, 31, 0⟩
def RETAIN_BANK : Nat := 0x9140
def RETAIN_BANK_PAGESUSED : Fld := ⟨0x9140, 15, 8⟩
def RETAIN_BANK_PAGESFREE : Fld := ⟨0x9140, 7, 0⟩
def FLASH_STAT : Nat := 0xa100
def FLASH_STAT_LIFE : Fld := ⟨0xa100, 31, 24⟩
def FLASH_STAT_WEARBUSY : Fld := ⟨0xa100, 1, 1⟩
def FLASH_STAT_READONLY : Fld := ⟨0xa100, 0, 0⟩
def FLASH_SPARE : Nat := 0xa104
def FLASH_SPARE_FREE : Fld := ⟨0xa104, 31, 16⟩
def FLASH_SPARE_RETIRED : Fld := ⟨0xa104, 15, 0⟩
def FLASH_WRITTEN : Nat := 0xa108
def FLASH_WRITTEN_MIB : Fld := ⟨0xa108, 31, 0⟩
def FLASH_PSEL : Nat := 0xa10c
def FLASH_PSEL_PART : Fld := ⟨0xa10c, 3, 0⟩
def FLASH_PINFO : Nat := 0xa110
def FLASH_PINFO_SIZE : Fld := ⟨0xa110, 31, 16⟩
def FLASH_PINFO_USED : Fld := ⟨0xa110, 7, 0⟩
def UPD_SEL : Nat := 0xb100
def UPD_SEL_REGION : Fld := ⟨0xb100, 3, 0⟩
def UPD_CMD : Nat := 0xb104
def UPD_CMD_KEY : Fld := ⟨0xb104, 31, 16⟩
def UPD_CMD_CODE : Fld := ⟨0xb104, 7, 0⟩
def UPD_WDATA : Nat := 0xb108
def UPD_WDATA_DATA : Fld := ⟨0xb108, 31, 0⟩
def UPD_STAT : Nat := 0xb10c
def UPD_STAT_STATE : Fld := ⟨0xb10c, 31, 28⟩
def UPD_STAT_REASON : Fld := ⟨0xb10c, 23, 16⟩
def UPD_STAT_PCT : Fld := ⟨0xb10c, 15, 8⟩
def UPD_COUNT : Nat := 0xb110
def UPD_COUNT_BYTES : Fld := ⟨0xb110, 31, 0⟩
def UPD_SLOTS : Nat := 0xb114
def UPD_SLOTS_ATTEMPTS : Fld := ⟨0xb114, 7, 6⟩
def UPD_SLOTS_STATEB : Fld := ⟨0xb114, 5, 4⟩
def UPD_SLOTS_STATEA : Fld := ⟨0xb114, 3, 2⟩
def UPD_SLOTS_ACTIVE : Fld := ⟨0xb114, 0, 0⟩
def UPD_VERA : Nat := 0xb118
def UPD_VERA_VERSION : Fld := ⟨0xb118, 31, 0⟩
def UPD_VERB : Nat := 0xb11c
def UPD_VERB_VERSION : Fld := ⟨0xb11c, 31, 0⟩
def UPD_FLOOR : Nat := 0xb120
def UPD_FLOOR_FLOOR : Fld := ⟨0xb120, 31, 0⟩
def UPD_RAISES : Nat := 0xb124
def UPD_RAISES_LEFT : Fld := ⟨0xb124, 7, 0⟩
def LOG_COUNT : Nat := 0xc100
def LOG_COUNT_COUNT : Fld := ⟨0xc100, 16, 0⟩
def LOG_FIRST : Nat := 0xc104
def LOG_FIRST_RECNO : Fld := ⟨0xc104, 31, 0⟩
def LOG_LAST : Nat := 0xc108
def LOG_LAST_RECNO : Fld := ⟨0xc108, 31, 0⟩
def LOG_RSEL : Nat := 0xc10c
def LOG_RSEL_RECNO : Fld := ⟨0xc10c, 31, 0⟩
def LOG_RCMD : Nat := 0xc110
def LOG_RCMD_KEY : Fld := ⟨0xc110, 31, 16⟩
def LOG_RCMD_CODE : Fld := ⟨0xc110, 7, 0⟩
def LOG_RSTAT : Nat := 0xc114
def LOG_RSTAT_STATE : Fld := ⟨0xc114, 31, 28⟩
def LOG_RSTAT_STAGED : Fld := ⟨0xc114, 0, 0⟩
def LOG_RDATA0 : Nat := 0xc120
def LOG_RDATA0_DATA : Fld := ⟨0xc120, 31, 0⟩
def LOG_RDATA1 : Nat := 0xc124
def LOG_RDATA1_DATA : Fld := ⟨0xc124, 31, 0⟩
def LOG_DROP0 : Nat := 0xc160
def LOG_DROP0_COUNT : Fld := ⟨0xc160, 31, 0⟩
def LOG_CLEARCNT : Nat := 0xc180
def LOG_CLEARCNT_COUNT : Fld := ⟨0xc180, 31, 0⟩
def LOG_STAGED : Nat := 0xc184
def LOG_STAGED_COUNT : Fld := ⟨0xc184, 10, 0⟩
def LOG_SEVMAP : Nat := 0xc200
def LOG_SEVMAP_SEV : Fld := ⟨0xc200, 31, 0⟩
def SPARE_CTL : Nat := 0xd100
def SPARE_CTL_AUTOCORE : Fld := ⟨0xd100, 0, 0⟩
def SPARE_CMD : Nat := 0xd104
def SPARE_CMD_KEY : Fld := ⟨0xd104, 31, 16⟩
def SPARE_CMD_LCORE : Fld := ⟨0xd104, 9, 8⟩
def SPARE_CMD_CODE : Fld := ⟨0xd104, 7, 0⟩
def SPARE_STAT : Nat := 0xd108
def SPARE_STAT_LASTRSN : Fld := ⟨0xd108, 31, 24⟩
def SPARE_STAT_SPARECORE : Fld := ⟨0xd108, 18, 16⟩
def SPARE_STAT_FAILED : Fld := ⟨0xd108, 4, 0⟩
def SPARE_TEST : Nat := 0xd10c
def SPARE_TEST_PASSED : Fld := ⟨0xd10c, 31, 16⟩
def SPARE_TEST_AGE : Fld := ⟨0xd10c, 15, 0⟩
def SPARE_AVAIL : Nat := 0xd120
def SPARE_AVAIL_FREE : Fld := ⟨0xd120, 31, 16⟩
def SPARE_AVAIL_INSERVICE : Fld := ⟨0xd120, 15, 0⟩
def SPARE_SUBST : Nat := 0xd124
def SPARE_SUBST_COUNT : Fld := ⟨0xd124, 15, 0⟩
def SEC_SERIALLO : Nat := 0xe100
def SEC_SERIALLO_SERIAL : Fld := ⟨0xe100, 31, 0⟩
def SEC_SERIALHI : Nat := 0xe104
def SEC_SERIALHI_SERIAL : Fld := ⟨0xe104, 31, 0⟩
def SEC_PROFILE : Nat := 0xe108
def SEC_PROFILE_TYPE : Fld := ⟨0xe108, 31, 16⟩
def SEC_PROFILE_MAXPROF : Fld := ⟨0xe108, 15, 8⟩
def SEC_PROFILE_PROF : Fld := ⟨0xe108, 7, 0⟩
def SEC_PROFSEL : Nat := 0xe10c
def SEC_PROFSEL_PROF : Fld := ⟨0xe10c, 7, 0⟩
def SEC_STEPPING : Nat := 0xe110
def SEC_STEPPING_STEP : Fld := ⟨0xe110, 31, 0⟩
def SEC_ATTNONCE0 : Nat := 0xe120
def SEC_ATTNONCE0_NONCE : Fld := ⟨0xe120, 31, 0⟩
def SEC_ATTCMD : Nat := 0xe140
def SEC_ATTCMD_KEY : Fld := ⟨0xe140, 31, 16⟩
def SEC_ATTCMD_CODE : Fld := ⟨0xe140, 7, 0⟩
def SEC_ATTSTAT : Nat := 0xe144
def SEC_ATTSTAT_STATE : Fld := ⟨0xe144, 31, 28⟩
def SEC_ATTSTAT_LEN : Fld := ⟨0xe144, 15, 0⟩
def SEC_ATTDATA : Nat := 0xe148
def SEC_ATTDATA_DATA : Fld := ⟨0xe148, 31, 0⟩
def SEC_KSEL : Nat := 0xe150
def SEC_KSEL_SLOT : Fld := ⟨0xe150, 2, 0⟩
def SEC_KINFO : Nat := 0xe154
def SEC_KINFO_USED : Fld := ⟨0xe154, 31, 31⟩
def SEC_KINFO_RIGHTS : Fld := ⟨0xe154, 5, 0⟩
def SEC_KIDLO : Nat := 0xe158
def SEC_KIDLO_KEYID : Fld := ⟨0xe158, 31, 0⟩
def SEC_KIDHI : Nat := 0xe15c
def SEC_KIDHI_KEYID : Fld := ⟨0xe15c, 31, 0⟩
def SEC_KCMD : Nat := 0xe160
def SEC_KCMD_KEY : Fld := ⟨0xe160, 31, 16⟩
def SEC_KCMD_CODE : Fld := ⟨0xe160, 7, 0⟩
def SEC_KWDATA : Nat := 0xe164
def SEC_KWDATA_DATA : Fld := ⟨0xe164, 31, 0⟩
def SEC_KSTAT : Nat := 0xe168
def SEC_KSTAT_LASTRSN : Fld := ⟨0xe168, 31, 24⟩
def SEC_KSTAT_COUNT : Fld := ⟨0xe168, 12, 0⟩
def MBX_CMDHDR : Nat := 0xf100
def MBX_CMDHDR_CODE : Fld := ⟨0xf100, 31, 24⟩
def MBX_CMDHDR_LEN : Fld := ⟨0xf100, 12, 0⟩
def MBX_DEADLINE : Nat := 0xf104
def MBX_DEADLINE_MS : Fld := ⟨0xf104, 15, 0⟩
def MBX_WDATA : Nat := 0xf108
def MBX_WDATA_DATA : Fld := ⟨0xf108, 31, 0⟩
def MBX_SUBMIT : Nat := 0xf10c
def MBX_SUBMIT_KEY : Fld := ⟨0xf10c, 31, 16⟩
def MBX_SUBMIT_CODE : Fld := ⟨0xf10c, 7, 0⟩
def MBX_SUBSTAT : Nat := 0xf110
def MBX_SUBSTAT_CMDID : Fld := ⟨0xf110, 31, 16⟩
def MBX_SUBSTAT_LASTRSN : Fld := ⟨0xf110, 15, 8⟩
def MBX_SUBSTAT_PENDING : Fld := ⟨0xf110, 6, 0⟩
def MBX_SEL : Nat := 0xf114
def MBX_SEL_CMDID : Fld := ⟨0xf114, 15, 0⟩
def MBX_RSTAT : Nat := 0xf118
def MBX_RSTAT_OUTCOME : Fld := ⟨0xf118, 31, 28⟩
def MBX_RSTAT_LATE : Fld := ⟨0xf118, 27, 27⟩
def MBX_RSTAT_REASON : Fld := ⟨0xf118, 23, 16⟩
def MBX_RSTAT_RLEN : Fld := ⟨0xf118, 12, 0⟩
def MBX_RDATA : Nat := 0xf11c
def MBX_RDATA_DATA : Fld := ⟨0xf11c, 31, 0⟩
def MBX_NONCE0 : Nat := 0xf120
def MBX_NONCE0_NONCE : Fld := ⟨0xf120, 31, 0⟩
def MBX_NONCE1 : Nat := 0xf124
def MBX_NONCE1_NONCE : Fld := ⟨0xf124, 31, 0⟩
def MBX_MSTAT : Nat := 0xf130
def MBX_MSTAT_RESTARTS : Fld := ⟨0xf130, 31, 16⟩
def MBX_MSTAT_SESSIONS : Fld := ⟨0xf130, 10, 8⟩
def MBX_MSTAT_HEALTHY : Fld := ⟨0xf130, 0, 0⟩
def MBX_BOOTCNT : Nat := 0xf134
def MBX_BOOTCNT_COUNT : Fld := ⟨0xf134, 31, 0⟩
def MBX_SWEEP : Nat := 0xf138
def MBX_SWEEP_COUNT : Fld := ⟨0xf138, 31, 0⟩
def MBX_SENSOR : Nat := 0xf200
def MBX_SENSOR_VALUE : Fld := ⟨0xf200, 31, 16⟩
def MBX_SENSOR_SWEEP : Fld := ⟨0xf200, 15, 8⟩
def MBX_SENSOR_VALID : Fld := ⟨0xf200, 0, 0⟩
def EXEC_STROKELO : Nat := 0x10100
def EXEC_STROKELO_N_LO : Fld := ⟨0x10100, 31, 0⟩
def EXEC_STROKEHI : Nat := 0x10104
def EXEC_STROKEHI_N_HI : Fld := ⟨0x10104, 31, 0⟩
def EXEC_SCANLO : Nat := 0x10108
def EXEC_SCANLO_SCAN_LO : Fld := ⟨0x10108, 31, 0⟩
def EXEC_SCANHI : Nat := 0x1010c
def EXEC_SCANHI_SCAN_HI : Fld := ⟨0x1010c, 31, 0⟩
def EXEC_STROKELEN : Nat := 0x10110
def EXEC_STROKELEN_LEN : Fld := ⟨0x10110, 13, 0⟩
def EXEC_COREMAP : Nat := 0x10114
def EXEC_COREMAP_LC3 : Fld := ⟨0x10114, 11, 9⟩
def EXEC_COREMAP_LC2 : Fld := ⟨0x10114, 8, 6⟩
def EXEC_COREMAP_LC1 : Fld := ⟨0x10114, 5, 3⟩
def EXEC_COREMAP_LC0 : Fld := ⟨0x10114, 2, 0⟩
def EXEC_TEN0 : Nat := 0x10118
def EXEC_TEN0_EN : Fld := ⟨0x10118, 31, 0⟩
def EXEC_TEN1 : Nat := 0x1011c
def EXEC_TEN1_EN : Fld := ⟨0x1011c, 31, 0⟩
def EXEC_FLTINFO : Nat := 0x10120
def EXEC_FLTINFO_VALID : Fld := ⟨0x10120, 31, 31⟩
def EXEC_FLTINFO_MORE : Fld := ⟨0x10120, 30, 30⟩
def EXEC_FLTINFO_CODE : Fld := ⟨0x10120, 23, 16⟩
def EXEC_FLTINFO_LCORE : Fld := ⟨0x10120, 9, 8⟩
def EXEC_FLTINFO_TASK : Fld := ⟨0x10120, 5, 0⟩
def EXEC_FLTPC : Nat := 0x10124
def EXEC_FLTPC_PC : Fld := ⟨0x10124, 31, 0⟩
def EXEC_FLTADDR : Nat := 0x10128
def EXEC_FLTADDR_ADDR : Fld := ⟨0x10128, 31, 0⟩
def EXEC_FLTSTROKE : Nat := 0x1012c
def EXEC_FLTSTROKE_SCAN : Fld := ⟨0x1012c, 31, 0⟩
def EXEC_STOPREQ : Nat := 0x10130
def EXEC_STOPREQ_KEY : Fld := ⟨0x10130, 31, 16⟩
def EXEC_TCFG0 : Nat := 0x10140
def EXEC_TCFG0_PERIOD : Fld := ⟨0x10140, 31, 16⟩
def EXEC_TCFG0_PHASE : Fld := ⟨0x10140, 15, 0⟩
def EXEC_TCFG1 : Nat := 0x10144
def EXEC_TCFG1_EVSRC : Fld := ⟨0x10144, 31, 24⟩
def EXEC_TCFG1_FAULTACT : Fld := ⟨0x10144, 17, 16⟩
def EXEC_TCFG1_TRIGGER : Fld := ⟨0x10144, 13, 12⟩
def EXEC_TCFG1_LCORE : Fld := ⟨0x10144, 9, 8⟩
def EXEC_TCFG1_CLASS : Fld := ⟨0x10144, 5, 4⟩
def EXEC_TENTRY : Nat := 0x10148
def EXEC_TENTRY_ENTRY : Fld := ⟨0x10148, 31, 0⟩
def EXEC_TSTAT : Nat := 0x1014c
def EXEC_TSTAT_DEFERRED : Fld := ⟨0x1014c, 31, 16⟩
def EXEC_TSTAT_SKIPPED : Fld := ⟨0x1014c, 15, 8⟩
def EXEC_TSTAT_FAULTS : Fld := ⟨0x1014c, 7, 0⟩
def EDIT_STAT : Nat := 0x11100
def EDIT_STAT_STATE : Fld := ⟨0x11100, 31, 28⟩
def EDIT_STAT_REASON : Fld := ⟨0x11100, 23, 16⟩
def EDIT_STAT_BLOCKS : Fld := ⟨0x11100, 6, 0⟩
def EDIT_CMD : Nat := 0x11104
def EDIT_CMD_KEY : Fld := ⟨0x11104, 31, 16⟩
def EDIT_CMD_CODE : Fld := ⟨0x11104, 7, 0⟩
def EDIT_TXID : Nat := 0x11108
def EDIT_TXID_TXID : Fld := ⟨0x11108, 31, 0⟩
def EDIT_TMO : Nat := 0x1110c
def EDIT_TMO_STROKES : Fld := ⟨0x1110c, 15, 0⟩
def EDIT_BDESC : Nat := 0x11110
def EDIT_BDESC_KIND : Fld := ⟨0x11110, 31, 28⟩
def EDIT_BDESC_BLOCKNO : Fld := ⟨0x11110, 27, 16⟩
def EDIT_BLEN : Nat := 0x11114
def EDIT_BLEN_LEN : Fld := ⟨0x11114, 23, 0⟩
def EDIT_WDATA : Nat := 0x11118
def EDIT_WDATA_DATA : Fld := ⟨0x11118, 31, 0⟩
def EDIT_WCOUNT : Nat := 0x1111c
def EDIT_WCOUNT_COUNT : Fld := ⟨0x1111c, 23, 0⟩
def EDIT_BASESIG0 : Nat := 0x11120
def EDIT_BASESIG0_SIG : Fld := ⟨0x11120, 31, 0⟩
def EDIT_NEWSIG0 : Nat := 0x11140
def EDIT_NEWSIG0_SIG : Fld := ⟨0x11140, 31, 0⟩
def EDIT_ACTSTROKE : Nat := 0x11160
def EDIT_ACTSTROKE_STROKE : Fld := ⟨0x11160, 31, 0⟩
def EDIT_AFFECT0 : Nat := 0x11164
def EDIT_AFFECT0_TASKS : Fld := ⟨0x11164, 31, 0⟩
def EDIT_AFFECT1 : Nat := 0x11168
def EDIT_AFFECT1_TASKS : Fld := ⟨0x11168, 31, 0⟩
def EDIT_CARRYBYTES : Nat := 0x1116c
def EDIT_CARRYBYTES_BYTES : Fld := ⟨0x1116c, 31, 0⟩
def EDIT_PROGSIG0 : Nat := 0x11170
def EDIT_PROGSIG0_SIG : Fld := ⟨0x11170, 31, 0⟩
def FORCE_STAT : Nat := 0x12100
def FORCE_STAT_LASTRSN : Fld := ⟨0x12100, 31, 28⟩
def FORCE_STAT_ACTIVE : Fld := ⟨0x12100, 16, 16⟩
def FORCE_STAT_COUNT : Fld := ⟨0x12100, 10, 0⟩
def FORCE_INDEX : Nat := 0x12104
def FORCE_INDEX_INDEX : Fld := ⟨0x12104, 9, 0⟩
def FORCE_ENTRY : Nat := 0x12108
def FORCE_ENTRY_EN : Fld := ⟨0x12108, 31, 31⟩
def FORCE_ENTRY_AREA : Fld := ⟨0x12108, 30, 30⟩
def FORCE_ENTRY_WORD : Fld := ⟨0x12108, 12, 0⟩
def FORCE_MASK : Nat := 0x1210c
def FORCE_MASK_MASK : Fld := ⟨0x1210c, 31, 0⟩
def FORCE_VALUE : Nat := 0x12110
def FORCE_VALUE_VALUE : Fld := ⟨0x12110, 31, 0⟩
def FORCE_CMD : Nat := 0x12114
def FORCE_CMD_KEY : Fld := ⟨0x12114, 31, 16⟩
def FORCE_CMD_CODE : Fld := ⟨0x12114, 7, 0⟩
def CORE_STAT : Nat := 0x18100
def CORE_STAT_STATE : Fld := ⟨0x18100, 31, 28⟩
def CORE_STAT_MAPPED : Fld := ⟨0x18100, 27, 27⟩
def CORE_STAT_LCORE : Fld := ⟨0x18100, 26, 25⟩
def CORE_STAT_BGSUSP : Fld := ⟨0x18100, 24, 24⟩
def CORE_STAT_TASK : Fld := ⟨0x18100, 21, 16⟩
def CORE_STAT_LADEPTH : Fld := ⟨0x18100, 13, 9⟩
def CORE_STAT_LA : Fld := ⟨0x18100, 8, 8⟩
def CORE_STAT_FL : Fld := ⟨0x18100, 4, 0⟩
def CORE_PC : Nat := 0x18104
def CORE_PC_PC : Fld := ⟨0x18104, 31, 0⟩
def CORE_DBGCMD : Nat := 0x18108
def CORE_DBGCMD_KEY : Fld := ⟨0x18108, 31, 16⟩
def CORE_DBGCMD_TASK : Fld := ⟨0x18108, 13, 8⟩
def CORE_DBGCMD_CODE : Fld := ⟨0x18108, 7, 0⟩
def CORE_DBGSTAT : Nat := 0x1810c
def CORE_DBGSTAT_LASTRSN : Fld := ⟨0x1810c, 31, 24⟩
def CORE_DBGSTAT_HALTSRC : Fld := ⟨0x1810c, 7, 4⟩
def CORE_DBGSTAT_BPHIT : Fld := ⟨0x1810c, 3, 0⟩
def CORE_REGSEL : Nat := 0x18110
def CORE_REGSEL_CTX : Fld := ⟨0x18110, 5, 5⟩
def CORE_REGSEL_REG : Fld := ⟨0x18110, 4, 0⟩
def CORE_REGDATA : Nat := 0x18114
def CORE_REGDATA_DATA : Fld := ⟨0x18114, 31, 0⟩
def CORE_LAS : Nat := 0x18118
def CORE_LAS_LA : Fld := ⟨0x18118, 24, 24⟩
def CORE_LAS_DEPTH : Fld := ⟨0x18118, 20, 16⟩
def CORE_LAS_STACK : Fld := ⟨0x18118, 15, 0⟩
def CORE_FL : Nat := 0x1811c
def CORE_FL_FL : Fld := ⟨0x1811c, 4, 0⟩
def CORE_BP0 : Nat := 0x18120
def CORE_BP0_ADDR : Fld := ⟨0x18120, 31, 2⟩
def CORE_BP0_EN : Fld := ⟨0x18120, 0, 0⟩
def CORE_WFUSE : Nat := 0x18130
def CORE_WFUSE_BGUSED : Fld := ⟨0x18130, 23, 16⟩
def CORE_WFUSE_FGUSED : Fld := ⟨0x18130, 15, 8⟩
def CORE_SPILLP : Nat := 0x18134
def CORE_SPILLP_ADDR : Fld := ⟨0x18134, 31, 0⟩
def CORE_CYCLES : Nat := 0x18138
def CORE_CYCLES_COUNT : Fld := ⟨0x18138, 31, 0⟩
def CORE_RETIRED : Nat := 0x1813c
def CORE_RETIRED_COUNT : Fld := ⟨0x1813c, 31, 0⟩
def CORE_ILLSUB : Nat := 0x18140
def CORE_ILLSUB_CODE : Fld := ⟨0x18140, 7, 0⟩
def LOOP_STAT : Nat := 0x20100
def LOOP_STAT_LANEMAX : Fld := ⟨0x20100, 23, 16⟩
def LOOP_STAT_ACTIVE : Fld := ⟨0x20100, 8, 0⟩
def LOOP_ETIME : Nat := 0x20104
def LOOP_ETIME_MAX : Fld := ⟨0x20104, 31, 16⟩
def LOOP_ETIME_LAST : Fld := ⟨0x20104, 15, 0⟩
def LOOP_ELIMIT : Nat := 0x20108
def LOOP_ELIMIT_PS : Fld := ⟨0x20108, 23, 0⟩
def LOOP_DUE : Nat := 0x2010c
def LOOP_DUE_COUNT : Fld := ⟨0x2010c, 8, 0⟩
def LOOP_TADDR : Nat := 0x20110
def LOOP_TADDR_INDEX : Fld := ⟨0x20110, 18, 0⟩
def LOOP_TDATA : Nat := 0x20114
def LOOP_TDATA_DATA : Fld := ⟨0x20114, 31, 0⟩
def LOOP_FLT0 : Nat := 0x20120
def LOOP_FLT0_FLT : Fld := ⟨0x20120, 31, 0⟩
def LOOP_BAD0 : Nat := 0x20140
def LOOP_BAD0_BAD : Fld := ⟨0x20140, 31, 0⟩
def LOOP_PROF0 : Nat := 0x20160
def LOOP_PROF0_BUSY : Fld := ⟨0x20160, 31, 0⟩
def LOOPCTX_CTL : Nat := 0x30100
def LOOPCTX_CTL_MODE : Fld := ⟨0x30100, 31, 30⟩
def LOOPCTX_CTL_ACT : Fld := ⟨0x30100, 29, 29⟩
def LOOPCTX_CTL_AWMODE : Fld := ⟨0x30100, 28, 28⟩
def LOOPCTX_CTL_SPTRACK : Fld := ⟨0x30100, 27, 27⟩
def LOOPCTX_CTL_FAILACT : Fld := ⟨0x30100, 26, 25⟩
def LOOPCTX_CTL_RETENTIVE : Fld := ⟨0x30100, 24, 24⟩
def LOOPCTX_CTL_PROFEN : Fld := ⟨0x30100, 23, 23⟩
def LOOPCTX_CTL_SCHEN : Fld := ⟨0x30100, 22, 22⟩
def LOOPCTX_CTL_FREN : Fld := ⟨0x30100, 21, 21⟩
def LOOPCTX_CTL_CGEN : Fld := ⟨0x30100, 20, 20⟩
def LOOPCTX_TIMING : Nat := 0x30104
def LOOPCTX_TIMING_PERIOD : Fld := ⟨0x30104, 31, 16⟩
def LOOPCTX_TIMING_PHASE : Fld := ⟨0x30104, 15, 0⟩
def LOOPCTX_PVSRC : Nat := 0x30108
def LOOPCTX_PVSRC_SRC : Fld := ⟨0x30108, 31, 0⟩
def LOOPCTX_PVGAIN : Nat := 0x3010c
def LOOPCTX_PVGAIN_VALUE : Fld := ⟨0x3010c, 31, 0⟩
def LOOPCTX_PVOFS : Nat := 0x30110
def LOOPCTX_PVOFS_VALUE : Fld := ⟨0x30110, 31, 0⟩
def LOOPCTX_PVLO : Nat := 0x30114
def LOOPCTX_PVLO_VALUE : Fld := ⟨0x30114, 31, 0⟩
def LOOPCTX_PVHI : Nat := 0x30118
def LOOPCTX_PVHI_VALUE : Fld := ⟨0x30118, 31, 0⟩
def LOOPCTX_QUALSRC : Nat := 0x3011c
def LOOPCTX_QUALSRC_EN : Fld := ⟨0x3011c, 31, 31⟩
def LOOPCTX_QUALSRC_AREA : Fld := ⟨0x3011c, 30, 30⟩
def LOOPCTX_QUALSRC_BIT : Fld := ⟨0x3011c, 22, 0⟩
def LOOPCTX_SPSRC : Nat := 0x30120
def LOOPCTX_SPSRC_SRC : Fld := ⟨0x30120, 31, 0⟩
def LOOPCTX_SPGAIN : Nat := 0x30124
def LOOPCTX_SPGAIN_VALUE : Fld := ⟨0x30124, 31, 0⟩
def LOOPCTX_SPOFS : Nat := 0x30128
def LOOPCTX_SPOFS_VALUE : Fld := ⟨0x30128, 31, 0⟩
def LOOPCTX_SP : Nat := 0x3012c
def LOOPCTX_SP_VALUE : Fld := ⟨0x3012c, 31, 0⟩
def LOOPCTX_OUTDST : Nat := 0x30130
def LOOPCTX_OUTDST_KIND : Fld := ⟨0x30130, 31, 30⟩
def LOOPCTX_OUTDST_TYPE : Fld := ⟨0x30130, 29, 28⟩
def LOOPCTX_OUTDST_OFFSET : Fld := ⟨0x30130, 19, 0⟩
def LOOPCTX_OUTGAIN : Nat := 0x30134
def LOOPCTX_OUTGAIN_VALUE : Fld := ⟨0x30134, 31, 0⟩
def LOOPCTX_OUTOFS : Nat := 0x30138
def LOOPCTX_OUTOFS_VALUE : Fld := ⟨0x30138, 31, 0⟩
def LOOPCTX_UMIN : Nat := 0x3013c
def LOOPCTX_UMIN_VALUE : Fld := ⟨0x3013c, 31, 0⟩
def LOOPCTX_UMAX : Nat := 0x30140
def LOOPCTX_UMAX_VALUE : Fld := ⟨0x30140, 31, 0⟩
def LOOPCTX_RMAX : Nat := 0x30144
def LOOPCTX_RMAX_VALUE : Fld := ⟨0x30144, 31, 0⟩
def LOOPCTX_UMAN : Nat := 0x30148
def LOOPCTX_UMAN_VALUE : Fld := ⟨0x30148, 31, 0⟩
def LOOPCTX_USAFE : Nat := 0x3014c
def LOOPCTX_USAFE_VALUE : Fld := ⟨0x3014c, 31, 0⟩
def LOOPCTX_KP : Nat := 0x30150
def LOOPCTX_KP_VALUE : Fld := ⟨0x30150, 31, 0⟩
def LOOPCTX_KI : Nat := 0x30154
def LOOPCTX_KI_VALUE : Fld := ⟨0x30154, 31, 0⟩
def LOOPCTX_KD : Nat := 0x30158
def LOOPCTX_KD_VALUE : Fld := ⟨0x30158, 31, 0⟩
def LOOPCTX_TF : Nat := 0x3015c
def LOOPCTX_TF_VALUE : Fld := ⟨0x3015c, 31, 0⟩
def LOOPCTX_BETA : Nat := 0x30160
def LOOPCTX_BETA_VALUE : Fld := ⟨0x30160, 31, 0⟩
def LOOPCTX_KT : Nat := 0x30164
def LOOPCTX_KT_VALUE : Fld := ⟨0x30164, 31, 0⟩
def LOOPCTX_KFF : Nat := 0x30168
def LOOPCTX_KFF_VALUE : Fld := ⟨0x30168, 31, 0⟩
def LOOPCTX_KV : Nat := 0x3016c
def LOOPCTX_KV_VALUE : Fld := ⟨0x3016c, 31, 0⟩
def LOOPCTX_FFSRC : Nat := 0x30170
def LOOPCTX_FFSRC_SRC : Fld := ⟨0x30170, 31, 0⟩
def LOOPCTX_SCHED : Nat := 0x30174
def LOOPCTX_SCHED_SRC : Fld := ⟨0x30174, 31, 30⟩
def LOOPCTX_SCHED_PTR : Fld := ⟨0x30174, 18, 0⟩
def LOOPCTX_SCHHYS : Nat := 0x30178
def LOOPCTX_SCHHYS_VALUE : Fld := ⟨0x30178, 31, 0⟩
def LOOPCTX_POSSRC : Nat := 0x3017c
def LOOPCTX_POSSRC_SRC : Fld := ⟨0x3017c, 31, 0⟩
def LOOPCTX_POSGAIN : Nat := 0x30180
def LOOPCTX_POSGAIN_VALUE : Fld := ⟨0x30180, 31, 0⟩
def LOOPCTX_POSOFS : Nat := 0x30184
def LOOPCTX_POSOFS_VALUE : Fld := ⟨0x30184, 31, 0⟩
def LOOPCTX_FRPTR : Nat := 0x30188
def LOOPCTX_FRPTR_PTR : Fld := ⟨0x30188, 18, 0⟩
def LOOPCTX_FDB : Nat := 0x3018c
def LOOPCTX_FDB_VALUE : Fld := ⟨0x3018c, 31, 0⟩
def LOOPCTX_KSTIC : Nat := 0x30190
def LOOPCTX_KSTIC_VALUE : Fld := ⟨0x30190, 31, 0⟩
def LOOPCTX_VSTIC : Nat := 0x30194
def LOOPCTX_VSTIC_VALUE : Fld := ⟨0x30194, 31, 0⟩
def LOOPCTX_CGPTR : Nat := 0x30198
def LOOPCTX_CGPTR_PTR : Fld := ⟨0x30198, 18, 0⟩
def LOOPCTX_CGGAIN : Nat := 0x3019c
def LOOPCTX_CGGAIN_VALUE : Fld := ⟨0x3019c, 31, 0⟩
def LOOPCTX_VMAX : Nat := 0x301a0
def LOOPCTX_VMAX_VALUE : Fld := ⟨0x301a0, 31, 0⟩
def LOOPCTX_AMAX : Nat := 0x301a4
def LOOPCTX_AMAX_VALUE : Fld := ⟨0x301a4, 31, 0⟩
def LOOPCTX_JMAX : Nat := 0x301a8
def LOOPCTX_JMAX_VALUE : Fld := ⟨0x301a8, 31, 0⟩
def LOOPCTX_EVMASK : Nat := 0x301ac
def LOOPCTX_EVMASK_MASK : Fld := ⟨0x301ac, 4, 0⟩
def LOOPCTX_STAT : Nat := 0x301b0
def LOOPCTX_STAT_MODE : Fld := ⟨0x301b0, 31, 30⟩
def LOOPCTX_STAT_REGION : Fld := ⟨0x301b0, 29, 27⟩
def LOOPCTX_STAT_PROF : Fld := ⟨0x301b0, 26, 25⟩
def LOOPCTX_STAT_PVBAD : Fld := ⟨0x301b0, 24, 24⟩
def LOOPCTX_STAT_FAULT : Fld := ⟨0x301b0, 23, 23⟩
def LOOPCTX_STAT_SATHI : Fld := ⟨0x301b0, 22, 22⟩
def LOOPCTX_STAT_SATLO : Fld := ⟨0x301b0, 21, 21⟩
def LOOPCTX_STAT_RATELIM : Fld := ⟨0x301b0, 20, 20⟩
def LOOPCTX_STAT_STIC : Fld := ⟨0x301b0, 19, 19⟩
def LOOPCTX_STAT_PEND : Fld := ⟨0x301b0, 18, 18⟩
def LOOPCTX_STAT_FCODE : Fld := ⟨0x301b0, 15, 8⟩
def LOOPCTX_STAT_BADCAUSE : Fld := ⟨0x301b0, 7, 4⟩
def LOOPCTX_PV : Nat := 0x301b4
def LOOPCTX_PV_VALUE : Fld := ⟨0x301b4, 31, 0⟩
def LOOPCTX_W : Nat := 0x301b8
def LOOPCTX_W_VALUE : Fld := ⟨0x301b8, 31, 0⟩
def LOOPCTX_U : Nat := 0x301bc
def LOOPCTX_U_VALUE : Fld := ⟨0x301bc, 31, 0⟩
def LOOPCTX_UUNSAT : Nat := 0x301c0
def LOOPCTX_UUNSAT_VALUE : Fld := ⟨0x301c0, 31, 0⟩
def LOOPCTX_I : Nat := 0x301c4
def LOOPCTX_I_VALUE : Fld := ⟨0x301c4, 31, 0⟩
def LOOPCTX_DF : Nat := 0x301c8
def LOOPCTX_DF_VALUE : Fld := ⟨0x301c8, 31, 0⟩
def LOOPCTX_C : Nat := 0x301cc
def LOOPCTX_C_VALUE : Fld := ⟨0x301cc, 31, 0⟩
def LOOPCTX_XPOS : Nat := 0x301d0
def LOOPCTX_XPOS_VALUE : Fld := ⟨0x301d0, 31, 0⟩
def LOOPCTX_XVEL : Nat := 0x301d4
def LOOPCTX_XVEL_VALUE : Fld := ⟨0x301d4, 31, 0⟩
def LOOPCTX_PVEL : Nat := 0x301d8
def LOOPCTX_PVEL_VALUE : Fld := ⟨0x301d8, 31, 0⟩
def LOOPCTX_PACC : Nat := 0x301dc
def LOOPCTX_PACC_VALUE : Fld := ⟨0x301dc, 31, 0⟩
def LOOPCTX_LAST : Nat := 0x301e0
def LOOPCTX_LAST_STROKE : Fld := ⟨0x301e0, 31, 0⟩
def LOOPCTX_COUNT : Nat := 0x301e4
def LOOPCTX_COUNT_BAD : Fld := ⟨0x301e4, 31, 16⟩
def LOOPCTX_COUNT_REGCHG : Fld := ⟨0x301e4, 15, 0⟩
def LOOPCTX_SATCNT : Nat := 0x301e8
def LOOPCTX_SATCNT_COUNT : Fld := ⟨0x301e8, 31, 0⟩
def FBC_CFG : Nat := 0x40100
def FBC_CFG_CHBEN : Fld := ⟨0x40100, 5, 5⟩
def FBC_CFG_CHAEN : Fld := ⟨0x40100, 4, 4⟩
def FBC_CFG_MODE : Fld := ⟨0x40100, 1, 0⟩
def FBC_STROKECFG : Nat := 0x40104
def FBC_STROKECFG_LEN : Fld := ⟨0x40104, 13, 0⟩
def FBC_SEGCFG : Nat := 0x40108
def FBC_SEGCFG_NI : Fld := ⟨0x40108, 23, 16⟩
def FBC_SEGCFG_NT : Fld := ⟨0x40108, 15, 8⟩
def FBC_SEGCFG_NO : Fld := ⟨0x40108, 7, 0⟩
def FBC_PAYLOAD : Nat := 0x4010c
def FBC_PAYLOAD_BYTES : Fld := ⟨0x4010c, 10, 0⟩
def FBC_DYNCFG : Nat := 0x40110
def FBC_DYNCFG_MINISLOTS : Fld := ⟨0x40110, 10, 0⟩
def FBC_SETTLE : Nat := 0x40114
def FBC_SETTLE_TICKS : Fld := ⟨0x40114, 15, 0⟩
def FBC_CUTOFF : Nat := 0x40118
def FBC_CUTOFF_US : Fld := ⟨0x40118, 9, 0⟩
def FBC_APPLY : Nat := 0x4011c
def FBC_APPLY_KEY : Fld := ⟨0x4011c, 31, 16⟩
def FBC_APPLY_CODE : Fld := ⟨0x4011c, 7, 0⟩
def FBC_CFGSTAT : Nat := 0x40120
def FBC_CFGSTAT_STATE : Fld := ⟨0x40120, 31, 28⟩
def FBC_CFGSTAT_REASON : Fld := ⟨0x40120, 23, 16⟩
def FBC_CFGSTAT_CFGGEN : Fld := ⟨0x40120, 15, 0⟩
def FBC_SWITCH : Nat := 0x40124
def FBC_SWITCH_STROKE : Fld := ⟨0x40124, 31, 0⟩
def FBC_SYNC : Nat := 0x40128
def FBC_SYNC_STATE : Fld := ⟨0x40128, 31, 28⟩
def FBC_SYNC_ACTING : Fld := ⟨0x40128, 24, 24⟩
def FBC_SYNC_READY : Fld := ⟨0x40128, 23, 23⟩
def FBC_SYNC_ARANK : Fld := ⟨0x40128, 20, 18⟩
def FBC_SYNC_OFFSET : Fld := ⟨0x40128, 15, 0⟩
def FBC_MASTERS : Nat := 0x4012c
def FBC_MASTERS_ADDR3 : Fld := ⟨0x4012c, 31, 24⟩
def FBC_MASTERS_ADDR2 : Fld := ⟨0x4012c, 23, 16⟩
def FBC_MASTERS_ADDR1 : Fld := ⟨0x4012c, 15, 8⟩
def FBC_MASTERS_ADDR0 : Fld := ⟨0x4012c, 7, 0⟩
def FBC_MOFS : Nat := 0x40130
def FBC_MOFS_OFS3 : Fld := ⟨0x40130, 15, 12⟩
def FBC_MOFS_OFS2 : Fld := ⟨0x40130, 11, 8⟩
def FBC_MOFS_OFS1 : Fld := ⟨0x40130, 7, 4⟩
def FBC_MOFS_OFS0 : Fld := ⟨0x40130, 3, 0⟩
def FBC_ADDR : Nat := 0x40134
def FBC_ADDR_ADDR : Fld := ⟨0x40134, 7, 0⟩
def FBC_EPOCH : Nat := 0x40138
def FBC_EPOCH_EH : Fld := ⟨0x40138, 31, 2⟩
def FBC_STROKE : Nat := 0x4013c
def FBC_STROKE_STROKE : Fld := ⟨0x4013c, 31, 0⟩
def FBC_LINEDLY : Nat := 0x40140
def FBC_LINEDLY_HOPS : Fld := ⟨0x40140, 31, 24⟩
def FBC_LINEDLY_NS : Fld := ⟨0x40140, 15, 0⟩
def FBC_CNT_MISMATCH : Nat := 0x40144
def FBC_CNT_MISMATCH_COUNT : Fld := ⟨0x40144, 31, 0⟩
def FBC_CNT_LATE : Nat := 0x40148
def FBC_CNT_LATE_COUNT : Fld := ⟨0x40148, 31, 0⟩
def FBC_CNT_STALE : Nat := 0x4014c
def FBC_CNT_STALE_COUNT : Fld := ⟨0x4014c, 31, 0⟩
def FBC_ACQ_DEST : Nat := 0x40180
def FBC_ACQ_DEST_SERVICE : Fld := ⟨0x40180, 31, 24⟩
def FBC_ACQ_DEST_DEST : Fld := ⟨0x40180, 23, 16⟩
def FBC_ACQ_DEST_TMO : Fld := ⟨0x40180, 15, 0⟩
def FBC_ACQ_INDEX : Nat := 0x40184
def FBC_ACQ_INDEX_INDEX : Fld := ⟨0x40184, 31, 0⟩
def FBC_ACQ_LEN : Nat := 0x40188
def FBC_ACQ_LEN_LEN : Fld := ⟨0x40188, 7, 0⟩
def FBC_ACQ_WDATA : Nat := 0x4018c
def FBC_ACQ_WDATA_DATA : Fld := ⟨0x4018c, 31, 0⟩
def FBC_ACQ_CMD : Nat := 0x40190
def FBC_ACQ_CMD_KEY : Fld := ⟨0x40190, 31, 16⟩
def FBC_ACQ_CMD_CODE : Fld := ⟨0x40190, 7, 0⟩
def FBC_ACQ_STAT : Nat := 0x40194
def FBC_ACQ_STAT_REQID : Fld := ⟨0x40194, 31, 16⟩
def FBC_ACQ_STAT_LASTRSN : Fld := ⟨0x40194, 15, 8⟩
def FBC_ACQ_STAT_QUEUED : Fld := ⟨0x40194, 7, 0⟩
def FBC_ACQ_SEL : Nat := 0x40198
def FBC_ACQ_SEL_REQID : Fld := ⟨0x40198, 15, 0⟩
def FBC_ACQ_RSTAT : Nat := 0x4019c
def FBC_ACQ_RSTAT_OUTCOME : Fld := ⟨0x4019c, 31, 28⟩
def FBC_ACQ_RSTAT_REASON : Fld := ⟨0x4019c, 23, 16⟩
def FBC_ACQ_RSTAT_NODESTAT : Fld := ⟨0x4019c, 15, 8⟩
def FBC_ACQ_RSTAT_RLEN : Fld := ⟨0x4019c, 7, 0⟩
def FBC_ACQ_RDATA : Nat := 0x401a0
def FBC_ACQ_RDATA_DATA : Fld := ⟨0x401a0, 31, 0⟩
def FB_STAT : Nat := 0x41100
def FB_STAT_NODES : Fld := ⟨0x41100, 15, 8⟩
def FB_STAT_WORKING : Fld := ⟨0x41100, 4, 4⟩
def FB_STAT_BYPASS : Fld := ⟨0x41100, 3, 3⟩
def FB_STAT_REFSEEN : Fld := ⟨0x41100, 2, 2⟩
def FB_STAT_LINK2 : Fld := ⟨0x41100, 1, 1⟩
def FB_STAT_LINK1 : Fld := ⟨0x41100, 0, 0⟩
def FB_PORTCFG : Nat := 0x41104
def FB_PORTCFG_P2EN : Fld := ⟨0x41104, 1, 1⟩
def FB_PORTCFG_P1EN : Fld := ⟨0x41104, 0, 0⟩
def FB_DELAY : Nat := 0x41108
def FB_DELAY_HOPS1 : Fld := ⟨0x41108, 31, 24⟩
def FB_DELAY_HOPS2 : Fld := ⟨0x41108, 23, 16⟩
def FB_DELAY_NS : Fld := ⟨0x41108, 15, 0⟩
def FB_CNT_FCS : Nat := 0x4110c
def FB_CNT_FCS_COUNT : Fld := ⟨0x4110c, 31, 0⟩
def FB_CNT_FORMAT : Nat := 0x41110
def FB_CNT_FORMAT_COUNT : Fld := ⟨0x41110, 31, 0⟩
def FB_CNT_FIRST : Nat := 0x41114
def FB_CNT_FIRST_COUNT : Fld := ⟨0x41114, 31, 0⟩
def FB_CNT_LINKDOWN : Nat := 0x41118
def FB_CNT_LINKDOWN_COUNT : Fld := ⟨0x41118, 31, 0⟩
def FB_TOPOSEL : Nat := 0x41120
def FB_TOPOSEL_ADDR : Fld := ⟨0x41120, 7, 0⟩
def FB_TOPO : Nat := 0x41124
def FB_TOPO_SEEN : Fld := ⟨0x41124, 31, 31⟩
def FB_TOPO_PORT : Fld := ⟨0x41124, 30, 30⟩
def FB_TOPO_RPT : Fld := ⟨0x41124, 23, 16⟩
def FB_TOPO_DELAY : Fld := ⟨0x41124, 15, 0⟩
def SLOT_CTL : Nat := 0x43100
def SLOT_CTL_VIEW : Fld := ⟨0x43100, 0, 0⟩
def SLOT_SPACE : Nat := 0x43104
def SLOT_SPACE_FAIL : Fld := ⟨0x43104, 31, 31⟩
def SLOT_SPACE_LATER : Fld := ⟨0x43104, 23, 16⟩
def SLOT_SPACE_EARLIER : Fld := ⟨0x43104, 15, 8⟩
def SLOT_ENT0 : Nat := 0x43200
def SLOT_ENT0_KIND : Fld := ⟨0x43200, 31, 30⟩
def SLOT_ENT0_OWNER : Fld := ⟨0x43200, 23, 16⟩
def SLOT_ENT0_IMGOFS : Fld := ⟨0x43200, 14, 0⟩
def SLOT_ENT1 : Nat := 0x43204
def SLOT_ENT1_ZERO : Fld := ⟨0x43204, 31, 31⟩
def SLOT_ENT1_STATOFS : Fld := ⟨0x43204, 30, 16⟩
def SLOT_ENT1_LENGTH : Fld := ⟨0x43204, 10, 0⟩
def SLOT_NODE : Nat := 0x43c00
def SLOT_NODE_EPOCHLO : Fld := ⟨0x43c00, 31, 16⟩
def SLOT_NODE_PRESENT : Fld := ⟨0x43c00, 7, 7⟩
def SLOT_NODE_SILENT : Fld := ⟨0x43c00, 6, 6⟩
def SLOT_NODE_STALE : Fld := ⟨0x43c00, 5, 5⟩
def SLOT_NODE_CONFLICT : Fld := ⟨0x43c00, 4, 4⟩
def SLOT_NODE_APPLIED : Fld := ⟨0x43c00, 3, 2⟩
def SLOT_NODE_NULL : Fld := ⟨0x43c00, 1, 1⟩
def SLOT_NODE_OK : Fld := ⟨0x43c00, 0, 0⟩
def PAIR_CFG : Nat := 0x44100
def PAIR_CFG_LANESPARE : Fld := ⟨0x44100, 1, 1⟩
def PAIR_CFG_NOUMPIRE : Fld := ⟨0x44100, 0, 0⟩
def PAIR_STAT : Nat := 0x44104
def PAIR_STAT_STATE : Fld := ⟨0x44104, 31, 28⟩
def PAIR_STAT_PEER : Fld := ⟨0x44104, 27, 24⟩
def PAIR_STAT_LINK : Fld := ⟨0x44104, 23, 23⟩
def PAIR_STAT_UMPIRE : Fld := ⟨0x44104, 22, 22⟩
def PAIR_STAT_INTENT : Fld := ⟨0x44104, 21, 21⟩
def PAIR_STAT_SWAPPEND : Fld := ⟨0x44104, 20, 20⟩
def PAIR_STAT_LASTRSN : Fld := ⟨0x44104, 15, 8⟩
def PAIR_LANES : Nat := 0x44108
def PAIR_LANES_FAILED : Fld := ⟨0x44108, 10, 8⟩
def PAIR_LANES_SPAREFOR : Fld := ⟨0x44108, 5, 4⟩
def PAIR_LANES_INSERVICE : Fld := ⟨0x44108, 2, 0⟩
def PAIR_RESYNC : Nat := 0x4410c
def PAIR_RESYNC_PCT : Fld := ⟨0x4410c, 31, 24⟩
def PAIR_RESYNC_PASSES : Fld := ⟨0x4410c, 23, 16⟩
def PAIR_RESYNC_MS : Fld := ⟨0x4410c, 15, 0⟩
def PAIR_JOIN : Nat := 0x44110
def PAIR_JOIN_STROKE : Fld := ⟨0x44110, 31, 0⟩
def PAIR_DIVSTROKE : Nat := 0x44114
def PAIR_DIVSTROKE_STROKE : Fld := ⟨0x44114, 31, 0⟩
def PAIR_CNT_FETCH : Nat := 0x44118
def PAIR_CNT_FETCH_COUNT : Fld := ⟨0x44118, 31, 0⟩
def PAIR_CNT_ORPHAN : Nat := 0x4411c
def PAIR_CNT_ORPHAN_COUNT : Fld := ⟨0x4411c, 31, 0⟩
def PAIR_CNT_RETRY : Nat := 0x44120
def PAIR_CNT_RETRY_COUNT : Fld := ⟨0x44120, 31, 0⟩
def PAIR_CMD : Nat := 0x44124
def PAIR_CMD_KEY : Fld := ⟨0x44124, 31, 16⟩
def PAIR_CMD_LANE : Fld := ⟨0x44124, 9, 8⟩
def PAIR_CMD_CODE : Fld := ⟨0x44124, 7, 0⟩
def PAIR_IDIG0 : Nat := 0x44128
def PAIR_IDIG0_DIGEST : Fld := ⟨0x44128, 31, 0⟩
def PAIR_ODIG0 : Nat := 0x44138
def PAIR_ODIG0_DIGEST : Fld := ⟨0x44138, 31, 0⟩
def PAIR_LATENT0 : Nat := 0x44148
def PAIR_LATENT0_TMASTER : Fld := ⟨0x44148, 31, 16⟩
def PAIR_LATENT0_LOCALOUT : Fld := ⟨0x44148, 15, 0⟩
def PAIR_LATENT1 : Nat := 0x4414c
def PAIR_LATENT1_CAN : Fld := ⟨0x4414c, 31, 16⟩
def PAIR_LATENT1_NETRADIO : Fld := ⟨0x4414c, 15, 0⟩
def CLAIM_CFG : Nat := 0x45100
def CLAIM_CFG_K : Fld := ⟨0x45100, 3, 0⟩
def CLAIM_OWN : Nat := 0x45104
def CLAIM_OWN_CLAIM : Fld := ⟨0x45104, 31, 0⟩
def CLAIM_EPOCH : Nat := 0x45108
def CLAIM_EPOCH_EPOCH : Fld := ⟨0x45108, 31, 2⟩
def CLAIM_PEER : Nat := 0x4510c
def CLAIM_PEER_CLAIM : Fld := ⟨0x4510c, 31, 0⟩
def CLAIM_OFFER : Nat := 0x45110
def CLAIM_OFFER_EPOCH : Fld := ⟨0x45110, 31, 2⟩
def CLAIM_OFFER_VALID : Fld := ⟨0x45110, 1, 1⟩
def CLAIM_OFFER_UNIT : Fld := ⟨0x45110, 0, 0⟩
def CLAIM_UMP : Nat := 0x45114
def CLAIM_UMP_ABSENT : Fld := ⟨0x45114, 23, 16⟩
def CLAIM_UMP_DECLARED : Fld := ⟨0x45114, 7, 7⟩
def CLAIM_UMP_SWAP : Fld := ⟨0x45114, 6, 6⟩
def CLAIM_UMP_STERN : Fld := ⟨0x45114, 5, 5⟩
def CLAIM_UMP_BOW : Fld := ⟨0x45114, 4, 4⟩
def CLAIM_UMP_GRANTEE : Fld := ⟨0x45114, 0, 0⟩
def CLAIM_GSTROKE : Nat := 0x45118
def CLAIM_GSTROKE_STROKE : Fld := ⟨0x45118, 31, 0⟩
def CLAIM_COUNT : Nat := 0x4511c
def CLAIM_COUNT_TAKEOVERS : Fld := ⟨0x4511c, 31, 16⟩
def CLAIM_COUNT_DEMOTIONS : Fld := ⟨0x4511c, 15, 0⟩
def NET_CFG : Nat := 0x50100
def NET_CFG_BRIDGE : Fld := ⟨0x50100, 2, 2⟩
def NET_CFG_ETH2EN : Fld := ⟨0x50100, 1, 1⟩
def NET_CFG_ETH1EN : Fld := ⟨0x50100, 0, 0⟩
def NET_STAT : Nat := 0x50104
def NET_STAT_ETH2 : Fld := ⟨0x50104, 3, 2⟩
def NET_STAT_ETH1 : Fld := ⟨0x50104, 1, 0⟩
def NET_MACLO : Nat := 0x50108
def NET_MACLO_MAC : Fld := ⟨0x50108, 31, 0⟩
def NET_MACHI : Nat := 0x5010c
def NET_MACHI_MAC : Fld := ⟨0x5010c, 15, 0⟩
def NET_IP4 : Nat := 0x50110
def NET_IP4_ADDR : Fld := ⟨0x50110, 31, 0⟩
def NET_IP4GW : Nat := 0x50114
def NET_IP4GW_ADDR : Fld := ⟨0x50114, 31, 0⟩
def NET_PREFIX : Nat := 0x50118
def NET_PREFIX_P6 : Fld := ⟨0x50118, 15, 8⟩
def NET_PREFIX_P4 : Fld := ⟨0x50118, 7, 0⟩
def NET_IP6_0 : Nat := 0x5011c
def NET_IP6_0_ADDR : Fld := ⟨0x5011c, 31, 0⟩
def NET_UIP4 : Nat := 0x5012c
def NET_UIP4_ADDR : Fld := ⟨0x5012c, 31, 0⟩
def NET_TODCTL : Nat := 0x50130
def NET_TODCTL_EN : Fld := ⟨0x50130, 8, 8⟩
def NET_TODCTL_DOMAIN : Fld := ⟨0x50130, 7, 0⟩
def NET_TODSTAT : Nat := 0x50134
def NET_TODSTAT_STATE : Fld := ⟨0x50134, 31, 30⟩
def NET_TODSTAT_OFFSET : Fld := ⟨0x50134, 29, 0⟩
def NET_TODOFSLO : Nat := 0x50138
def NET_TODOFSLO_OFS : Fld := ⟨0x50138, 31, 0⟩
def NET_TODOFSHI : Nat := 0x5013c
def NET_TODOFSHI_OFS : Fld := ⟨0x5013c, 31, 0⟩
def NET_TODRATE : Nat := 0x50140
def NET_TODRATE_PPB : Fld := ⟨0x50140, 31, 0⟩
def NET_TXCFG : Nat := 0x50150
def NET_TXCFG_SESS : Fld := ⟨0x50150, 31, 25⟩
def NET_TXCFG_LEN : Fld := ⟨0x50150, 13, 0⟩
def NET_TXTMO : Nat := 0x50154
def NET_TXTMO_MS : Fld := ⟨0x50154, 15, 0⟩
def NET_TXDATA : Nat := 0x50158
def NET_TXDATA_DATA : Fld := ⟨0x50158, 31, 0⟩
def NET_TXCMD : Nat := 0x5015c
def NET_TXCMD_KEY : Fld := ⟨0x5015c, 31, 16⟩
def NET_TXCMD_CODE : Fld := ⟨0x5015c, 7, 0⟩
def NET_TXSTAT : Nat := 0x50160
def NET_TXSTAT_ITEMID : Fld := ⟨0x50160, 31, 16⟩
def NET_TXSTAT_LASTRSN : Fld := ⟨0x50160, 15, 8⟩
def NET_ITSEL : Nat := 0x50164
def NET_ITSEL_ITEMID : Fld := ⟨0x50164, 15, 0⟩
def NET_ITSTAT : Nat := 0x50168
def NET_ITSTAT_OUTCOME : Fld := ⟨0x50168, 31, 28⟩
def NET_ITSTAT_REASON : Fld := ⟨0x50168, 23, 16⟩
def NET_ITSTAT_SESS : Fld := ⟨0x50168, 6, 0⟩
def NET_RXSEL : Nat := 0x50170
def NET_RXSEL_SESS : Fld := ⟨0x50170, 6, 0⟩
def NET_RXINFO : Nat := 0x50174
def NET_RXINFO_PORT : Fld := ⟨0x50174, 31, 16⟩
def NET_RXINFO_LEN : Fld := ⟨0x50174, 15, 0⟩
def NET_RXDATA : Nat := 0x50178
def NET_RXDATA_DATA : Fld := ⟨0x50178, 31, 0⟩
def NET_CNT_DROP : Nat := 0x5017c
def NET_CNT_DROP_COUNT : Fld := ⟨0x5017c, 31, 0⟩
def SESS_CTL : Nat := 0x58100
def SESS_CTL_KIND : Fld := ⟨0x58100, 31, 30⟩
def SESS_CTL_IPV6 : Fld := ⟨0x58100, 29, 29⟩
def SESS_CTL_IF : Fld := ⟨0x58100, 28, 28⟩
def SESS_CTL_KEEPALIVE : Fld := ⟨0x58100, 27, 27⟩
def SESS_CTL_LPORT : Fld := ⟨0x58100, 15, 0⟩
def SESS_RPORT : Nat := 0x58104
def SESS_RPORT_PORT : Fld := ⟨0x58104, 15, 0⟩
def SESS_RADDR0 : Nat := 0x58108
def SESS_RADDR0_ADDR : Fld := ⟨0x58108, 31, 0⟩
def SESS_VLAN : Nat := 0x58118
def SESS_VLAN_PCP : Fld := ⟨0x58118, 15, 13⟩
def SESS_VLAN_TAGGED : Fld := ⟨0x58118, 12, 12⟩
def SESS_VLAN_VID : Fld := ⟨0x58118, 11, 0⟩
def SESS_KATIME : Nat := 0x5811c
def SESS_KATIME_S : Fld := ⟨0x5811c, 15, 0⟩
def SESS_CMD : Nat := 0x58120
def SESS_CMD_KEY : Fld := ⟨0x58120, 31, 16⟩
def SESS_CMD_CODE : Fld := ⟨0x58120, 7, 0⟩
def SESS_STAT : Nat := 0x58124
def SESS_STAT_STATE : Fld := ⟨0x58124, 31, 28⟩
def SESS_STAT_LASTRSN : Fld := ⟨0x58124, 23, 16⟩
def SESS_STAT_PENDING : Fld := ⟨0x58124, 11, 0⟩
def SESS_RXAVAIL : Nat := 0x58128
def SESS_RXAVAIL_BYTES : Fld := ⟨0x58128, 31, 0⟩
def SESS_TXBYTES : Nat := 0x5812c
def SESS_TXBYTES_COUNT : Fld := ⟨0x5812c, 31, 0⟩
def SESS_RXBYTES : Nat := 0x58130
def SESS_RXBYTES_COUNT : Fld := ⟨0x58130, 31, 0⟩
def SESS_DROP : Nat := 0x58134
def SESS_DROP_COUNT : Fld := ⟨0x58134, 31, 0⟩
def SESS_RTT : Nat := 0x58138
def SESS_RTT_US : Fld := ⟨0x58138, 31, 0⟩
def SESS_PEER0 : Nat := 0x5813c
def SESS_PEER0_ADDR : Fld := ⟨0x5813c, 31, 0⟩
def SESS_PEERPORT : Nat := 0x5814c
def SESS_PEERPORT_PORT : Fld := ⟨0x5814c, 15, 0⟩
def RADIO_CFG : Nat := 0x60100
def RADIO_CFG_PARITY : Fld := ⟨0x60100, 7, 6⟩
def RADIO_CFG_STOP2 : Fld := ⟨0x60100, 5, 5⟩
def RADIO_CFG_DATA7 : Fld := ⟨0x60100, 4, 4⟩
def RADIO_CFG_DCDDEFER : Fld := ⟨0x60100, 3, 3⟩
def RADIO_CFG_RTSCTS : Fld := ⟨0x60100, 2, 2⟩
def RADIO_BAUD : Nat := 0x60104
def RADIO_BAUD_BPS : Fld := ⟨0x60104, 19, 0⟩
def RADIO_KEY : Nat := 0x60108
def RADIO_KEY_TAIL : Fld := ⟨0x60108, 31, 16⟩
def RADIO_KEY_KEYUP : Fld := ⟨0x60108, 15, 0⟩
def RADIO_CTSWAIT : Nat := 0x6010c
def RADIO_CTSWAIT_CTSFAIL : Fld := ⟨0x6010c, 19, 16⟩
def RADIO_CTSWAIT_MS : Fld := ⟨0x6010c, 15, 0⟩
def RADIO_GAP : Nat := 0x60110
def RADIO_GAP_CHARS : Fld := ⟨0x60110, 7, 0⟩
def RADIO_QLEVEL : Nat := 0x60114
def RADIO_QLEVEL_HIGH : Fld := ⟨0x60114, 27, 16⟩
def RADIO_QLEVEL_LOW : Fld := ⟨0x60114, 11, 0⟩
def RADIO_STAT : Nat := 0x60118
def RADIO_STAT_LINES : Fld := ⟨0x60118, 19, 16⟩
def RADIO_STAT_QUEUED : Fld := ⟨0x60118, 12, 0⟩
def RADIO_TXCFG : Nat := 0x60120
def RADIO_TXCFG_PRIO : Fld := ⟨0x60120, 31, 30⟩
def RADIO_TXCFG_ACKREQ : Fld := ⟨0x60120, 29, 29⟩
def RADIO_TXCFG_LEN : Fld := ⟨0x60120, 11, 0⟩
def RADIO_TXTMO : Nat := 0x60124
def RADIO_TXTMO_ACKMS : Fld := ⟨0x60124, 31, 16⟩
def RADIO_TXTMO_LIFE : Fld := ⟨0x60124, 15, 0⟩
def RADIO_TXDATA : Nat := 0x60128
def RADIO_TXDATA_DATA : Fld := ⟨0x60128, 31, 0⟩
def RADIO_CMD : Nat := 0x6012c
def RADIO_CMD_KEY : Fld := ⟨0x6012c, 31, 16⟩
def RADIO_CMD_CODE : Fld := ⟨0x6012c, 7, 0⟩
def RADIO_TXSTAT : Nat := 0x60130
def RADIO_TXSTAT_ITEMID : Fld := ⟨0x60130, 31, 16⟩
def RADIO_TXSTAT_LASTRSN : Fld := ⟨0x60130, 15, 8⟩
def RADIO_ITSEL : Nat := 0x60134
def RADIO_ITSEL_ITEMID : Fld := ⟨0x60134, 15, 0⟩
def RADIO_ITSTAT : Nat := 0x60138
def RADIO_ITSTAT_OUTCOME : Fld := ⟨0x60138, 31, 28⟩
def RADIO_ITSTAT_REASON : Fld := ⟨0x60138, 23, 16⟩
def RADIO_RXINFO : Nat := 0x60140
def RADIO_RXINFO_STATUS : Fld := ⟨0x60140, 31, 16⟩
def RADIO_RXINFO_LEN : Fld := ⟨0x60140, 15, 0⟩
def RADIO_RXSTAMPLO : Nat := 0x60144
def RADIO_RXSTAMPLO_STAMP : Fld := ⟨0x60144, 31, 0⟩
def RADIO_RXSTAMPHI : Nat := 0x60148
def RADIO_RXSTAMPHI_STAMP : Fld := ⟨0x60148, 31, 0⟩
def RADIO_RXDATA : Nat := 0x6014c
def RADIO_RXDATA_DATA : Fld := ⟨0x6014c, 31, 0⟩
def RADIO_CNT_DROP : Nat := 0x60150
def RADIO_CNT_DROP_COUNT : Fld := ⟨0x60150, 31, 0⟩
def CAN_CFG : Nat := 0x61100
def CAN_CFG_RETRY : Fld := ⟨0x61100, 11, 8⟩
def CAN_CFG_RECOV : Fld := ⟨0x61100, 7, 7⟩
def CAN_CFG_TRIPLE : Fld := ⟨0x61100, 6, 6⟩
def CAN_CFG_BRSEN : Fld := ⟨0x61100, 5, 5⟩
def CAN_CFG_FDEN : Fld := ⟨0x61100, 4, 4⟩
def CAN_CFG_MODE : Fld := ⟨0x61100, 1, 0⟩
def CAN_NBT : Nat := 0x61104
def CAN_NBT_BRP : Fld := ⟨0x61104, 31, 24⟩
def CAN_NBT_TSEG1 : Fld := ⟨0x61104, 23, 16⟩
def CAN_NBT_TSEG2 : Fld := ⟨0x61104, 15, 8⟩
def CAN_NBT_SJW : Fld := ⟨0x61104, 7, 0⟩
def CAN_DBT : Nat := 0x61108
def CAN_DBT_BRP : Fld := ⟨0x61108, 31, 24⟩
def CAN_DBT_TSEG1 : Fld := ⟨0x61108, 23, 16⟩
def CAN_DBT_TSEG2 : Fld := ⟨0x61108, 15, 8⟩
def CAN_DBT_SJW : Fld := ⟨0x61108, 7, 0⟩
def CAN_STAT : Nat := 0x6110c
def CAN_STAT_STATE : Fld := ⟨0x6110c, 31, 30⟩
def CAN_STAT_TEC : Fld := ⟨0x6110c, 23, 16⟩
def CAN_STAT_REC : Fld := ⟨0x6110c, 15, 8⟩
def CAN_STAT_TDC : Fld := ⟨0x6110c, 7, 0⟩
def CAN_TXID : Nat := 0x61110
def CAN_TXID_IDE : Fld := ⟨0x61110, 31, 31⟩
def CAN_TXID_ID : Fld := ⟨0x61110, 28, 0⟩
def CAN_TXCFG : Nat := 0x61114
def CAN_TXCFG_LIFE : Fld := ⟨0x61114, 31, 16⟩
def CAN_TXCFG_FDF : Fld := ⟨0x61114, 15, 15⟩
def CAN_TXCFG_BRS : Fld := ⟨0x61114, 14, 14⟩
def CAN_TXCFG_RTR : Fld := ⟨0x61114, 13, 13⟩
def CAN_TXCFG_LEN : Fld := ⟨0x61114, 6, 0⟩
def CAN_TXDATA : Nat := 0x61118
def CAN_TXDATA_DATA : Fld := ⟨0x61118, 31, 0⟩
def CAN_CMD : Nat := 0x6111c
def CAN_CMD_KEY : Fld := ⟨0x6111c, 31, 16⟩
def CAN_CMD_CODE : Fld := ⟨0x6111c, 7, 0⟩
def CAN_TXSTAT : Nat := 0x61120
def CAN_TXSTAT_ITEMID : Fld := ⟨0x61120, 31, 16⟩
def CAN_TXSTAT_LASTRSN : Fld := ⟨0x61120, 15, 8⟩
def CAN_ITSEL : Nat := 0x61124
def CAN_ITSEL_ITEMID : Fld := ⟨0x61124, 15, 0⟩
def CAN_ITSTAT : Nat := 0x61128
def CAN_ITSTAT_OUTCOME : Fld := ⟨0x61128, 31, 28⟩
def CAN_ITSTAT_LATEACK : Fld := ⟨0x61128, 24, 24⟩
def CAN_ITSTAT_REASON : Fld := ⟨0x61128, 23, 16⟩
def CAN_ITSTAT_ATTEMPTS : Fld := ⟨0x61128, 3, 0⟩
def CAN_RXHEAD : Nat := 0x61130
def CAN_RXHEAD_IDE : Fld := ⟨0x61130, 31, 31⟩
def CAN_RXHEAD_FDF : Fld := ⟨0x61130, 30, 30⟩
def CAN_RXHEAD_VALID : Fld := ⟨0x61130, 29, 29⟩
def CAN_RXHEAD_ID : Fld := ⟨0x61130, 28, 0⟩
def CAN_RXINFO : Nat := 0x61134
def CAN_RXINFO_FIRST : Fld := ⟨0x61134, 20, 16⟩
def CAN_RXINFO_BRS : Fld := ⟨0x61134, 8, 8⟩
def CAN_RXINFO_ESI : Fld := ⟨0x61134, 7, 7⟩
def CAN_RXINFO_LEN : Fld := ⟨0x61134, 6, 0⟩
def CAN_RXSTAMPLO : Nat := 0x61138
def CAN_RXSTAMPLO_STAMP : Fld := ⟨0x61138, 31, 0⟩
def CAN_RXSTAMPHI : Nat := 0x6113c
def CAN_RXSTAMPHI_STAMP : Fld := ⟨0x6113c, 31, 0⟩
def CAN_RXDATA : Nat := 0x61140
def CAN_RXDATA_DATA : Fld := ⟨0x61140, 31, 0⟩
def CAN_CNT_DROP : Nat := 0x61144
def CAN_CNT_DROP_COUNT : Fld := ⟨0x61144, 31, 0⟩
def CAN_RXFILT : Nat := 0x61148
def CAN_RXFILT_MATCH : Fld := ⟨0x61148, 31, 0⟩
def CAN_FILTID : Nat := 0x61200
def CAN_FILTID_EN : Fld := ⟨0x61200, 31, 31⟩
def CAN_FILTID_IDE : Fld := ⟨0x61200, 30, 30⟩
def CAN_FILTID_ID : Fld := ⟨0x61200, 28, 0⟩
def CAN_FILTMASK : Nat := 0x61204
def CAN_FILTMASK_MASK : Fld := ⟨0x61204, 28, 0⟩
def DIO_CTL : Nat := 0x70100
def DIO_CTL_LEGSPARE : Fld := ⟨0x70100, 1, 1⟩
def DIO_CTL_AUTOCLR : Fld := ⟨0x70100, 0, 0⟩
def DIO_MAP : Nat := 0x70104
def DIO_MAP_QEN : Fld := ⟨0x70104, 31, 31⟩
def DIO_MAP_QOFS : Fld := ⟨0x70104, 30, 16⟩
def DIO_MAP_IEN : Fld := ⟨0x70104, 15, 15⟩
def DIO_MAP_IOFS : Fld := ⟨0x70104, 14, 0⟩
def DIO_SILENCE : Nat := 0x70108
def DIO_SILENCE_MS : Fld := ⟨0x70108, 9, 0⟩
def DIO_SAFE : Nat := 0x7010c
def DIO_SAFE_STATE : Fld := ⟨0x7010c, 31, 0⟩
def DIO_IFILT0 : Nat := 0x70110
def DIO_IFILT0_CODE : Fld := ⟨0x70110, 31, 0⟩
def DIO_IFILT1 : Nat := 0x70114
def DIO_IFILT1_CODE : Fld := ⟨0x70114, 31, 0⟩
def DIO_WBEN : Nat := 0x70120
def DIO_WBEN_EN : Fld := ⟨0x70120, 31, 0⟩
def DIO_OWEN : Nat := 0x70124
def DIO_OWEN_EN : Fld := ⟨0x70124, 15, 0⟩
def DIO_RETRY : Nat := 0x70128
def DIO_RETRY_COUNT : Fld := ⟨0x70128, 3, 0⟩
def DIO_IN : Nat := 0x7012c
def DIO_IN_VALUE : Fld := ⟨0x7012c, 31, 0⟩
def DIO_WB : Nat := 0x70130
def DIO_WB_PRESENT : Fld := ⟨0x70130, 31, 0⟩
def DIO_WBLATCH : Nat := 0x70134
def DIO_WBLATCH_SEEN : Fld := ⟨0x70134, 31, 0⟩
def DIO_OUT : Nat := 0x70138
def DIO_OUT_READBACK : Fld := ⟨0x70138, 31, 16⟩
def DIO_OUT_DRIVEN : Fld := ⟨0x70138, 15, 0⟩
def DIO_OUTFLT : Nat := 0x7013c
def DIO_OUTFLT_OT : Fld := ⟨0x7013c, 31, 16⟩
def DIO_OUTFLT_OL : Fld := ⟨0x7013c, 15, 0⟩
def DIO_OWFLT : Nat := 0x70140
def DIO_OWFLT_OPEN : Fld := ⟨0x70140, 15, 0⟩
def DIO_LEGS : Nat := 0x70144
def DIO_LEGS_SPARE : Fld := ⟨0x70144, 31, 16⟩
def DIO_LEGS_FAILED : Fld := ⟨0x70144, 15, 0⟩
def DIO_CMD : Nat := 0x70148
def DIO_CMD_KEY : Fld := ⟨0x70148, 31, 16⟩
def DIO_CMD_CH : Fld := ⟨0x70148, 11, 8⟩
def DIO_CMD_CODE : Fld := ⟨0x70148, 7, 0⟩
def DIO_STAT : Nat := 0x7014c
def DIO_STAT_LASTRSN : Fld := ⟨0x7014c, 31, 24⟩
def DIO_STAT_GRPB : Fld := ⟨0x7014c, 17, 17⟩
def DIO_STAT_GRPA : Fld := ⟨0x7014c, 16, 16⟩
def DIO_STAT_SAFE : Fld := ⟨0x7014c, 1, 1⟩
def DIO_STAT_DRIVING : Fld := ⟨0x7014c, 0, 0⟩
def DIO_SILCNT : Nat := 0x70150
def DIO_SILCNT_COUNT : Fld := ⟨0x70150, 31, 0⟩
def DIO_SURGE0 : Nat := 0x70160
def DIO_SURGE0_COUNT : Fld := ⟨0x70160, 15, 0⟩
def PANEL_GEOM : Nat := 0x71100
def PANEL_GEOM_HEIGHT : Fld := ⟨0x71100, 24, 16⟩
def PANEL_GEOM_WIDTH : Fld := ⟨0x71100, 9, 0⟩
def PANEL_STAT : Nat := 0x71104
def PANEL_STAT_BAND : Fld := ⟨0x71104, 31, 28⟩
def PANEL_STAT_CLEARED : Fld := ⟨0x71104, 27, 27⟩
def PANEL_STAT_DIRTY : Fld := ⟨0x71104, 26, 26⟩
def PANEL_STAT_TABLEOK : Fld := ⟨0x71104, 25, 25⟩
def PANEL_STAT_RAILLOCK : Fld := ⟨0x71104, 24, 24⟩
def PANEL_STAT_RAILSUP : Fld := ⟨0x71104, 23, 23⟩
def PANEL_STAT_LIGHT : Fld := ⟨0x71104, 22, 22⟩
def PANEL_STAT_MARKER : Fld := ⟨0x71104, 21, 21⟩
def PANEL_STAT_HOSTBUSY : Fld := ⟨0x71104, 20, 20⟩
def PANEL_STAT_MORDBUSY : Fld := ⟨0x71104, 19, 19⟩
def PANEL_STAT_PENDING : Fld := ⟨0x71104, 18, 18⟩
def PANEL_STAT_LASTRSN : Fld := ⟨0x71104, 15, 8⟩
def PANEL_TEMP : Nat := 0x71108
def PANEL_TEMP_DECI : Fld := ⟨0x71108, 15, 0⟩
def PANEL_CFG : Nat := 0x7110c
def PANEL_CFG_TSRC : Fld := ⟨0x7110c, 16, 16⟩
def PANEL_CFG_REFRESH : Fld := ⟨0x7110c, 15, 0⟩
def PANEL_VCOM : Nat := 0x71110
def PANEL_VCOM_MV : Fld := ⟨0x71110, 11, 0⟩
def PANEL_LIGHT : Nat := 0x71114
def PANEL_LIGHT_LEVEL : Fld := ⟨0x71114, 7, 0⟩
def PANEL_RECT0 : Nat := 0x71118
def PANEL_RECT0_Y0 : Fld := ⟨0x71118, 31, 16⟩
def PANEL_RECT0_X0 : Fld := ⟨0x71118, 15, 0⟩
def PANEL_RECT1 : Nat := 0x7111c
def PANEL_RECT1_H : Fld := ⟨0x7111c, 31, 16⟩
def PANEL_RECT1_W : Fld := ⟨0x7111c, 15, 0⟩
def PANEL_CMD : Nat := 0x71120
def PANEL_CMD_KEY : Fld := ⟨0x71120, 31, 16⟩
def PANEL_CMD_CODE : Fld := ⟨0x71120, 7, 0⟩
def PANEL_LAST : Nat := 0x71124
def PANEL_LAST_OUTCOME : Fld := ⟨0x71124, 31, 28⟩
def PANEL_LAST_KIND : Fld := ⟨0x71124, 27, 24⟩
def PANEL_LAST_REASON : Fld := ⟨0x71124, 23, 16⟩
def PANEL_LAST_BAND : Fld := ⟨0x71124, 15, 8⟩
def PANEL_LAST_FRAMES : Fld := ⟨0x71124, 7, 0⟩
def PANEL_WADDR : Nat := 0x71128
def PANEL_WADDR_WORD : Fld := ⟨0x71128, 14, 0⟩
def PANEL_WDATA : Nat := 0x7112c
def PANEL_WDATA_DATA : Fld := ⟨0x7112c, 31, 0⟩
def PANEL_MPOS : Nat := 0x71130
def PANEL_MPOS_Y : Fld := ⟨0x71130, 31, 16⟩
def PANEL_MPOS_X : Fld := ⟨0x71130, 15, 0⟩
def PANEL_MSIZE : Nat := 0x71134
def PANEL_MSIZE_H : Fld := ⟨0x71134, 31, 16⟩
def PANEL_MSIZE_W : Fld := ⟨0x71134, 15, 0⟩
def PANEL_MCTL : Nat := 0x71138
def PANEL_MCTL_EN : Fld := ⟨0x71138, 31, 31⟩
def PANEL_MCTL_FG : Fld := ⟨0x71138, 3, 2⟩
def PANEL_MCTL_BG : Fld := ⟨0x71138, 1, 0⟩
def PANEL_MWADDR : Nat := 0x7113c
def PANEL_MWADDR_WORD : Fld := ⟨0x7113c, 9, 0⟩
def PANEL_MWDATA : Nat := 0x71140
def PANEL_MWDATA_DATA : Fld := ⟨0x71140, 31, 0⟩
def PANEL_UPDCNT : Nat := 0x71144
def PANEL_UPDCNT_COUNT : Fld := ⟨0x71144, 31, 0⟩
def HOST_CFG : Nat := 0x72100
def HOST_CFG_TMO : Fld := ⟨0x72100, 25, 16⟩
def HOST_CFG_MWIN : Fld := ⟨0x72100, 11, 8⟩
def HOST_CFG_DWIN : Fld := ⟨0x72100, 1, 0⟩
def HOST_STAT : Nat := 0x72104
def HOST_STAT_TORN : Fld := ⟨0x72104, 31, 31⟩
def HOST_STAT_TIMEOUT : Fld := ⟨0x72104, 30, 30⟩
def HOST_STAT_SLOW : Fld := ⟨0x72104, 17, 17⟩
def HOST_STAT_WINDOW : Fld := ⟨0x72104, 16, 16⟩
def HOST_ECAP : Nat := 0x72108
def HOST_ECAP_VALID : Fld := ⟨0x72108, 31, 31⟩
def HOST_ECAP_MORE : Fld := ⟨0x72108, 30, 30⟩
def HOST_ECAP_REASON : Fld := ⟨0x72108, 23, 16⟩
def HOST_ECAP_WRITE : Fld := ⟨0x72108, 0, 0⟩
def HOST_EADDR : Nat := 0x7210c
def HOST_EADDR_ADDR : Fld := ⟨0x7210c, 23, 0⟩
def HOST_ERRCNT : Nat := 0x72110
def HOST_ERRCNT_COUNT : Fld := ⟨0x72110, 31, 0⟩
def HOST_WAITMAX : Nat := 0x72114
def HOST_WAITMAX_CYCLES : Fld := ⟨0x72114, 15, 0⟩

end R

end Sys2Proof.Machine
end

