-- ==== Sys2Proof/Machine/SMap.lean ====
section
/-!
DEFINITION. Machine/SMap.lean: sparse maps from numbers as lists in one canonical form: keys strictly rising and no entry
equal to what an unlisted key reads as. Memory, the register file and the queues of sources are such maps.
-/

namespace Sys2Proof.Machine

/-- What key `a` holds; `d` says what an unlisted key reads as. -/
def SMap.get {α : Type} (d : Nat → α) : List (Nat × α) → Nat → α
  | [], a => d a
  | (k, v) :: t, a => if k = a then v else SMap.get d t a

/-- The map without key `a`. -/
def SMap.erase {α : Type} (a : Nat) : List (Nat × α) → List (Nat × α)
  | [] => []
  | (k, v) :: t => if k = a then SMap.erase a t else (k, v) :: SMap.erase a t

/-- The map in which key `a` holds `v`, in canonical form: an entry in its place, or none where an unlisted key reads as `v`. -/
def SMap.set {α : Type} [DecidableEq α] (d : Nat → α) (a : Nat) (v : α) : List (Nat × α) → List (Nat × α)
  | [] => if v = d a then [] else [(a, v)]
  | (k, w) :: t =>
    if k < a then (k, w) :: SMap.set d a v t
    else if v = d a then SMap.erase a ((k, w) :: t)
    else if k = a then (a, v) :: t
    else (a, v) :: (k, w) :: t

/-- The canonical form: keys strictly rising, no entry equal to what an unlisted key reads as. -/
abbrev SMap.Wf {α : Type} (d : Nat → α) (m : List (Nat × α)) : Prop :=
  m.Pairwise (fun p q => p.1 < q.1) ∧ ∀ p ∈ m, p.2 ≠ d p.1

end Sys2Proof.Machine
end

