-- ==== Sys2Proof/Machine/Regs.lean ====
section
/-!
DEFINITION. Machine/Regs.lean: the register file: the page map, what a register holds at reset, reading and writing a
register and a field of one, and the banked copies of requesters.
-/

namespace Sys2Proof.Machine

/-- The outcome of a meaning. -/
abbrev Out := Host.Outcome State Fault Refusal

/-- The page map (03 R96): first page, last page, block. EVT's two pages are one block (R584); its second page's
registers stand at offsets from 0x1000 of the EVT table. -/
def pageMap : List (Nat × Nat × Blk) := [
  (0x00, 0x00, .sys), (0x01, 0x01, .clk), (0x02, 0x02, .pwr), (0x03, 0x03, .cox), (0x04, 0x05, .evt),
  (0x06, 0x06, .wdt), (0x07, 0x07, .rtc), (0x08, 0x08, .mem), (0x09, 0x09, .retain), (0x0A, 0x0A, .flash),
  (0x0B, 0x0B, .upd), (0x0C, 0x0C, .log), (0x0D, 0x0D, .spare), (0x0E, 0x0E, .sec), (0x0F, 0x0F, .mbx),
  (0x10, 0x10, .exec), (0x11, 0x11, .edit), (0x12, 0x12, .force), (0x18, 0x1C, .core), (0x20, 0x20, .loop),
  (0x30, 0x3F, .loopctx), (0x40, 0x40, .fbc), (0x41, 0x42, .fbx), (0x43, 0x43, .slot), (0x44, 0x44, .pair),
  (0x45, 0x45, .claim), (0x50, 0x50, .net), (0x58, 0x5F, .sess), (0x60, 0x60, .radio), (0x61, 0x62, .can),
  (0x70, 0x70, .dio), (0x71, 0x71, .panel), (0x72, 0x72, .host)]

/-- The block and the page index of a page, or none for an unassigned page (R96, R97). -/
def blockAt (page : Nat) : Option (Blk × Nat) :=
  (pageMap.find? fun e => e.1 ≤ page && page ≤ e.2.1).map fun e => (e.2.2, page - e.1)

/-- The row of the register table for an address in register space, with the register's index in its row. A LOOPCTX or
SESS page repeats its table every 0xF0 bytes from 0x100 (03 R98). -/
def regSpec? (a : Nat) : Option (RegSpec × Nat) :=
  match blockAt (a % 0x100000 / 0x1000) with
  | none => none
  | some (b, i) =>
    let off := a % 0x1000
    let off := if b = .evt then off + 0x1000 * i else off
    let off := if (b = .loopctx || b = .sess) && 0x100 ≤ off then 0x100 + (off - 0x100) % 0xF0 else off
    (b.regs.find? fun r =>
      r.off ≤ off && off < r.off + r.cnt * r.stride && (off - r.off) % r.stride == 0).map fun r =>
        (r, (off - r.off) / r.stride)

/-- A register without a writable field in the table: a write of it, unless it is a command or a data port, is ignored (00 R8). -/
def readOnly (a : Nat) : Bool := (regSpec? a).any fun x => x.1.rw = 0 && x.1.w1c = 0

/-- LOG_SEVMAP's severity of a source at reset (16 R520). -/
def sevReset (src : Nat) : Nat :=
  if src = 233 then 7
  else if src ≤ 15 then 3 else if src ≤ 31 then 4 else if src ≤ 63 then 3 else if src ≤ 79 then 4
  else if src ≤ 111 then 2 else if src ≤ 143 then 1 else if src ≤ 159 then 2 else if src ≤ 207 then 3
  else if src ≤ 215 then 1 else if src ≤ 223 then 2 else if src ≤ 239 then 3 else 2

/-- Spares of a kind at manufacture (16 R513). -/
def spareCount (kind : Nat) : Nat :=
  match kind with
  | 0 => 1 | 1 => 1 | 2 => 272 | 3 => 656 | 4 => 96 | 5 => 1 | 6 => 16 | _ => 0

/-- What the register at an address holds at reset: the Reset column, and where the column refers to a unit or to
another rule, that value (05 CORE_STAT, 16 R513, R520). PG_CTL.EN is 1 (03 R99). -/
def resetVal (a : Nat) : Word :=
  let off := a % 0x1000
  let a0 := a % 0x100000
  if off = 0x008 then 1
  else if off < 0x100 then 0
  else if R.CORE_STAT ≤ a0 && a0 ≤ R.CORE_STAT + 0x4000 && off = 0x100 then
    let n := (a0 - R.CORE_STAT) / 0x1000
    if n < 4 then BitVec.ofNat 32 (0x18000000 + n * 0x2000000) else 0
  else if R.LOG_SEVMAP ≤ a0 && a0 < R.LOG_SEVMAP + 0x80 then
    let i := (a0 - R.LOG_SEVMAP) / 4
    BitVec.ofNat 32 ((List.range 8).foldl (fun w j => w + sevReset (8 * i + j) * 16 ^ j) 0)
  else if R.SPARE_AVAIL ≤ a0 && a0 < R.SPARE_AVAIL + 0x38 && off % 8 = 0 then
    BitVec.ofNat 32 (spareCount ((a0 - R.SPARE_AVAIL) / 8) * 0x10000)
  else
    match regSpec? a with
    | some (r, _) => BitVec.ofNat 32 r.rst
    | none => 0

/-- The register file's canonical form. -/
abbrev Regs.wf (m : List (Nat × Word)) : Prop := SMap.Wf resetVal m

/-- The value of bits hi to lo of a word. -/
def bitsOf (w : Word) (hi lo : Nat) : Nat := w.toNat / 2 ^ lo % 2 ^ (hi + 1 - lo)

/-- The word with bits hi to lo replaced by v (modulo the field's width). -/
def bitsSet (w : Word) (hi lo v : Nat) : Word :=
  BitVec.ofNat 32 (w.toNat - bitsOf w hi lo * 2 ^ lo + v % 2 ^ (hi + 1 - lo) * 2 ^ lo)

/-- What the register at an address holds. -/
def State.reg (s : State) (a : Nat) : Word := SMap.get resetVal s.regs a

/-- The state in which the register at an address holds w. -/
def State.setReg (s : State) (a : Nat) (w : Word) : State := { s with regs := SMap.set resetVal a w s.regs }

/-- A field moved by n bytes: the same field of a later register, entry or page. -/
def Fld.off (f : Fld) (n : Nat) : Fld := { f with addr := f.addr + n }

/-- The copy in force of a field whose register holds a staged value: a register file of its own, 0x60 banks up. -/
def Fld.live (f : Fld) : Fld := f.off 0x6000000

/-- The value of a field. -/
def State.rd (s : State) (f : Fld) : Nat := bitsOf (s.reg f.addr) f.hi f.lo

/-- The state in which a field holds v (modulo the field's width). -/
def State.wr (s : State) (f : Fld) (v : Nat) : State := s.setReg f.addr (bitsSet (s.reg f.addr) f.hi f.lo v)

/-- The field is not 0. -/
def State.on (s : State) (f : Fld) : Bool := s.rd f != 0

/-- A field as a two's complement number. -/
def State.rdInt (s : State) (f : Fld) : Int := (bitsOf (s.reg f.addr) f.hi f.lo : Int) -
  (if bitsOf (s.reg f.addr) f.hi f.hi = 1 then (2 ^ (f.hi + 1 - f.lo) : Nat) else 0)

/-- A field holds a two's complement number, limited to the field's range. -/
def State.wrInt (s : State) (f : Fld) (v : Int) : State :=
  let h : Int := (2 ^ (f.hi - f.lo) : Nat)
  s.wr f ((min (max v (-h)) (h - 1)) % (2 * h)).toNat

/-- A field as a truth value. -/
def State.wrb (s : State) (f : Fld) (v : Bool) : State := s.wr f v.toNat

/-- A counter field that stops at its largest value. -/
def State.inc (s : State) (f : Fld) : State :=
  if s.rd f + 1 < 2 ^ (f.hi + 1 - f.lo) then s.wr f (s.rd f + 1) else s

/-- A counter field that stops at its largest value, raised by n. -/
def State.incBy (s : State) (f : Fld) (n : Nat) : State :=
  s.wr f (min (s.rd f + n) (2 ^ (f.hi + 1 - f.lo) - 1))

/-- A counter field that wraps. -/
def State.incWrap (s : State) (f : Fld) : State := s.wr f (s.rd f + 1)

/-- A 64-bit value held in two registers, low half first. -/
def State.rd64 (s : State) (a : Nat) : Nat := (s.reg a).toNat + 4294967296 * (s.reg (a + 4)).toNat

/-- Writes a 64-bit value to two registers, low half first. -/
def State.wr64 (s : State) (a v : Nat) : State :=
  (s.setReg a (BitVec.ofNat 32 v)).setReg (a + 4) (BitVec.ofNat 32 (v / 4294967296))

/-- The header register of a page (03 R99). -/
def hdr (page off : Nat) : Nat := page * 0x1000 + off

/-- PG_CTL.EN of a page (03 R584: EVT's pages share page 0x004's). -/
def State.pgEn (s : State) (page : Nat) : Bool :=
  s.on ⟨hdr (if page = 5 then 4 else page) 0x008, 0, 0⟩

/-- The logical core that physical core c carries (04 R126), read from EXEC_COREMAP. -/
def State.lcoreOf (s : State) (c : Nat) : Option Nat :=
  (List.range 4).find? fun l => bitsOf (s.reg R.EXEC_COREMAP) (3 * l + 2) (3 * l) = c

/-- The bank of a requester's copies: its own for the host port, the Marshal, the pair link and each management session;
a core's is that of the logical core it carries (11 R399), so that a substitution keeps it (log entry 9). -/
def State.bank (s : State) : Req → Nat
  | .core c => match s.lcoreOf c with | some l => 1 + l | none => 5 + c
  | .host => 0x10
  | .marshal => 0x20
  | .pairLink => 0x30
  | .mgmt n => 0x40 + n

/-- A requester's copy of a banked register. -/
def State.bk (s : State) (r : Req) (a : Nat) : Nat := a + 0x100000 * s.bank r

/-- A field of a requester's copy. -/
def State.bf (s : State) (r : Req) (f : Fld) : Fld := { f with addr := s.bk r f.addr }

/-- PG_ERR.REQUESTER (03 R106): a management session is the Marshal's. -/
def reqCode : Req → Nat
  | .core c => c
  | .host => 0x10
  | .mgmt _ => 0x20
  | .marshal => 0x20
  | .pairLink => 0x30

/-- The requester is a core. -/
def isCore : Req → Bool
  | .core _ => true
  | _ => false

/-- The next free value (log entry 5). -/
def State.free (s : State) : BitVec 64 := Config.freeValue s.fresh

/-- The state after one free value has been used. -/
def State.used (s : State) : State := { s with fresh := s.fresh + 1 }

/-- Puts something on the module's lines. -/
def State.out (s : State) (w : Wire) : State := { s with wire := s.wire ++ [w] }

/-- SYS_MODE.MODE (02 R51). -/
def State.mode (s : State) : Nat := s.rd R.SYS_MODE_MODE

/-- The 32-bit stroke counter (01 R15), read from FBC_STROKE. -/
def State.stroke (s : State) : Nat := (s.reg R.FBC_STROKE).toNat

/-- The unit is strapped as Bow or Stern (01 "Solo, pair and Umpire"). -/
def State.paired (s : State) : Bool := s.rd R.SYS_STRAP_ROLE = 1 || s.rd R.SYS_STRAP_ROLE = 2

/-- The unit is strapped as Umpire. -/
def State.umpire (s : State) : Bool := s.rd R.SYS_STRAP_ROLE = 3

/-- PAIR_STAT.STATE (09 R327). -/
def State.pairState (s : State) : Nat := s.rd R.PAIR_STAT_STATE

/-- The unit drives outputs: in RUN, solo or the active unit of a pair (12 R432). -/
def State.active (s : State) : Bool := s.mode = 3 && (!s.paired || s.pairState = 1)

end Sys2Proof.Machine
end

