-- ==== Sys2Proof/Machine/Ops.lean ====
section
/-!
DEFINITION. Machine/Ops.lean: the operations every block shares: raising an event (03 R104, R113 to R117), offering it to
the recorder (16 R519 to R522), and a core's and the host's access errors.
-/

namespace Sys2Proof.Machine

/-! ### The event controller -/

/-- The entries waiting on a source. -/
def State.queue (s : State) (src : Nat) : List EvEntry := SMap.get (fun _ => []) s.evt.queues src

/-- The state in which a source's queue is q. -/
def State.setQueue (s : State) (src : Nat) (q : List EvEntry) : State :=
  { s with evt := { s.evt with queues := SMap.set (fun _ => []) src q s.evt.queues } }

/-- EVT_SRCCFG.EN of a source. -/
def State.srcEn (s : State) (src : Nat) : Bool := s.on (R.EVT_SRCCFG_EN.off (4 * src))

/-- EVT queues an event (R114, R115): the source takes its next sequence number, stamps the entry with the present tick
and queues it, or with 64 entries waiting discards it, sets OVF and counts it. A disabled source, or EVT disabled, does
nothing (R116, R584). -/
def State.enqueue (s : State) (src code : Nat) (forced : Bool) (data : Word) : State :=
  if s.srcEn src && s.pgEn 4 then
    let nf := R.EVT_SRCSTAT_NEXTSEQ.off (4 * src)
    let seq := s.rd nf
    let s1 := s.incWrap nf
    if (s.queue src).length < 64 then
      s1.setQueue src (s.queue src ++ [⟨seq, src, forced, code, s.tb, data⟩])
    else (s1.wr (R.EVT_SRCSTAT_OVF.off (4 * src)) 1).inc R.EVT_OVFTOTAL_COUNT
  else s

/-- The sequence number an event raised now carries in its record: 0 for a disabled source (R116) or with EVT disabled
(R584). -/
def State.seqNow (s : State) (src : Nat) : Nat :=
  if s.srcEn src && s.pgEn 4 then s.rd (R.EVT_SRCSTAT_NEXTSEQ.off (4 * src)) else 0

/-! ### The event recorder -/

/-- A full bucket (16 R521). -/
def fullBucket : Bucket := ⟨8, 0⟩

/-- The severity of a source's and code's record (16 R520, R523, R524). -/
def State.severity (s : State) (src code data : Nat) : Nat :=
  if src = 233 then 7
  else if src = 229 && code = 1 then 7
  else if src = 229 && code = 3 then (if 0 < data then 5 else 2)
  else
    let w := s.reg (R.LOG_SEVMAP + 4 * (src / 8))
    bitsOf w (4 * (src % 8) + 2) (4 * (src % 8))

/-- The timebase ticks of a second (14 R467: 125 MHz). -/
def ticksPerSecond : Nat := 125000000

/-- A dropped record (R522): counted by severity, and DROPPED raised at most once per second. -/
def State.dropRecord (s : State) (sev : Nat) : State :=
  let s := s.inc (⟨R.LOG_DROP0 + 4 * sev, 31, 0⟩)
  let r := s.recorder
  let late := match r.dropAt with
    | none => true
    | some t => t + ticksPerSecond ≤ s.tb.toNat
  if late then
    let s := { s with recorder := { r with dropAt := some s.tb.toNat, dropsSince := 0 } }
    let s := s.wr ⟨hdr Ev.logDropped.page 0x014, Ev.logDropped.bit, Ev.logDropped.bit⟩ 1
    if s.on ⟨hdr Ev.logDropped.page 0x010, Ev.logDropped.bit, Ev.logDropped.bit⟩ then
      s.enqueue Ev.logDropped.source Ev.logDropped.code false
        (BitVec.ofNat 32 (min (r.dropsSince + 1) 0xFFFF * 0x10000 + sev))
    else s
  else { s with recorder := { r with dropsSince := r.dropsSince + 1 } }

/-- The record of an event (R519), with the next RECNO. -/
def State.mkRecord (s : State) (src code : Nat) (forced : Bool) (seq supp data : Nat) (detail : List Byte)
    (lost : Nat) : LogRec :=
  { recno := s.recorder.nextRecno, stamp := s.tb,
    caltime := if s.on R.RTC_STAT_VALID then s.rd R.RTC_SECCNT_COUNT else 0xFFFFFFFF,
    boot := s.rd R.MBX_BOOTCNT_COUNT, stroke := s.stroke, source := src,
    code := code + (if forced then 128 else 0),
    severity := s.severity src code data + 8 * s.mode + 64 * (s.rd R.PAIR_STAT_STATE % 4),
    seq := seq, suppressed := min supp 0xFFFF, data := data, detail := detail, lost := lost }

/-- The range that the supply-fail latch wrote includes a record raised within 1 ms after it (R524). -/
def RecState.include (r : RecState) (latch : Bool) (tb recno : Nat) : Option (Nat × Nat) :=
  if latch && tb ≤ r.latchAt + ticksPerSecond / 1000 then
    (match r.latched with | some (a, _) => some (a, recno) | none => some (recno, recno))
  else r.latched

/-- Stages a record (R522), or drops it when 1024 are staged. -/
def State.stage (s : State) (src code : Nat) (forced : Bool) (seq supp data : Nat) (detail : List Byte)
    (lost : Nat) : State :=
  if s.recorder.staged.length < 1024 then
    let r := s.mkRecord src code forced seq supp data detail lost
    { s with recorder := { s.recorder with staged := s.recorder.staged ++ [r], nextRecno := r.recno + 1,
                                           latched := s.recorder.include s.sys.latch s.tb.toNat r.recno } }
  else s.dropRecord (s.severity src code data)

/-- An event is offered to the recorder: the token bucket of its source and code decides (R521); ES229 and ES233 are not
limited. While LOG is disabled nothing is recorded (03 R103). -/
def State.offer (s : State) (src code : Nat) (forced : Bool) (seq data : Nat) (detail : List Byte := [])
    (lost : Nat := 0) : State :=
  if !s.pgEn 0x0C then s
  else if src = 229 || src = 233 then s.stage src code forced seq 0 data detail lost
  else
    let k := src * 128 + code
    let b := SMap.get (fun _ => fullBucket) s.recorder.buckets k
    let put (b' : Bucket) (s : State) : State :=
      { s with recorder := { s.recorder with buckets := SMap.set (fun _ => fullBucket) k b' s.recorder.buckets } }
    if 0 < b.tokens then (put ⟨b.tokens - 1, 0⟩ s).stage src code forced seq b.suppressed data detail lost
    else put ⟨0, b.suppressed + 1⟩ s

/-- The event is offered to the recorder whatever RECORD and PG_EVEN hold (R116). -/
def alwaysOffered (src code : Nat) : Bool := (src = 229 && (code = 1 || code = 3)) || src = 233

/-- An event is raised (R104, R116): queued on its source, and offered to the recorder when RECORD is set; DROPPED on ES229 never
is. -/
def State.raiseEvent (s : State) (src code : Nat) (forced : Bool) (data : Nat) (detail : List Byte := [])
    (lost : Nat := 0) : State :=
  let seq := s.seqNow src
  let never := decide (src = Ev.logDropped.source && code = Ev.logDropped.code)
  let rcd := (s.on (R.EVT_SRCCFG_RECORD.off (4 * src)) || alwaysOffered src code) && !never
  let s1 := s.enqueue src code forced (BitVec.ofNat 32 data)
  if rcd then s1.offer src code forced seq data detail lost else s1

/-- The pending and enable bits of a condition. -/
def Cond.pend (c : Cond) : Fld := ⟨hdr c.page 0x014, c.bit, c.bit⟩
def Cond.even (c : Cond) : Fld := ⟨hdr c.page 0x010, c.bit, c.bit⟩

/-- The same condition on the n-th page of its block and the m-th source after the first. -/
def Cond.at (c : Cond) (n m : Nat) : Cond := { c with page := c.page + n, source := c.source + m }

/-- A condition occurs (R103, R104): nothing while the block is disabled; else its PG_EVPEND bit sets, and with its
PG_EVEN bit set an event is raised. ES229 and ES233 are offered to the recorder in any case (R116), and with their PG_EVEN bit
clear their records carry SEQ 0: DESIGN CHOICE, log entry 169. -/
def State.raise (s : State) (c : Cond) (data : Nat) (detail : List Byte := []) (lost : Nat := 0) : State :=
  if s.pgEn c.page then
    let s1 := s.wr c.pend 1
    if s1.on c.even then s1.raiseEvent c.source c.code false data detail lost
    else if alwaysOffered c.source c.code then s1.offer c.source c.code false 0 data detail lost
    else s1
  else s

/-- The queued entries of every source are dropped and the sequence numbers and OVF restart (R117). -/
def State.clearEvents (s : State) : State :=
  let s := { s with evt := { s.evt with queues := [], follow := [], delivered := [], announced := [] } }
  (List.range 256).foldl (fun s i => (s.wr (R.EVT_SRCSTAT_NEXTSEQ.off (4 * i)) 0).wr (R.EVT_SRCSTAT_OVF.off (4 * i)) 0) s

/-! ### Access errors -/

/-- The codes of PG_ERR (03 R106). -/
inductive PgErr where
  | width | locked | badLockkey | requester | mode | disabled | range | notRecalled
  deriving DecidableEq, Repr

/-- PG_ERR.CODE. -/
def PgErr.code : PgErr → Nat
  | .width => 1 | .locked => 2 | .badLockkey => 3 | .requester => 4 | .mode => 5 | .disabled => 6 | .range => 7
  | .notRecalled => 8

/-- A page captures a refused access in PG_ERR when VALID is 0, and otherwise sets MORE (R106). -/
def State.capture (s : State) (page off : Nat) (r : Req) (e : PgErr) : State :=
  let a := hdr page 0x01C
  if s.on ⟨a, 31, 31⟩ then s.wr ⟨a, 30, 30⟩ 1
  else s.setReg a (BitVec.ofNat 32 (0x80000000 + e.code * 0x1000000 + reqCode r * 0x10000 + off % 0x1000))

end Sys2Proof.Machine
end

