-- ==== Sys2Proof/Machine/Items.lean ====
section
/-!
DEFINITION. Machine/Items.lean: items of work: the work ledger (01 R13, 10 R380), mirroring items to the standby (09 R361),
and the outcome of an acyclic request (08 R320).
-/

namespace Sys2Proof.Machine

/-! ### The work ledger -/

/-- Entries of a kind (10 R380). -/
def ledgerRoom : LedgerKind → Nat
  | .net => 3072 | .radio => 4096 | .can => 512 | .acq => 64 | .mbx => 64 | .edit => 1 | .marker => 1

/-- The ledger has an entry free for a kind. -/
def State.ledgerFree (s : State) (k : LedgerKind) : Bool :=
  (s.memory.ledger.filter fun e => decide (e.kind = k)).length < ledgerRoom k

/-- An item enters the work ledger (01 R13). -/
def State.ledgerAdd (s : State) (k : LedgerKind) (unit id : Nat) : State :=
  { s with memory := { s.memory with ledger := s.memory.ledger ++ [⟨k, unit, id, false⟩] } }

/-- The item's transmission has begun. -/
def State.ledgerStart (s : State) (k : LedgerKind) (unit id : Nat) : State :=
  { s with memory := { s.memory with ledger := s.memory.ledger.map fun e =>
      if e.kind = k && e.unit = unit && e.id = id then { e with started := true } else e } }

/-- The item's transmission has ended without an outcome: the item is as if unsent (01 R48). -/
def State.ledgerUnstart (s : State) (k : LedgerKind) (unit id : Nat) : State :=
  { s with memory := { s.memory with ledger := s.memory.ledger.map fun e =>
      if e.kind = k && e.unit = unit && e.id = id then { e with started := false } else e } }

/-- The item's outcome is known and it leaves the ledger. -/
def State.ledgerDrop (s : State) (k : LedgerKind) (unit id : Nat) : State :=
  { s with memory := { s.memory with ledger := s.memory.ledger.filter fun e =>
      !(e.kind = k && e.unit = unit && e.id = id) } }

/-! ### Mirroring -/

/-- The head of this unit's pair-link messages (09 R329). -/
def State.pairHdr (s : State) : PairHdr :=
  ⟨s.exec.strokeHi * strokeModulus + s.stroke, s.rd R.CLAIM_EPOCH_EPOCH⟩

/-- The unit is active and the other is in STANDBY with the link up: items are mirrored. -/
def State.mirrorOn (s : State) : Bool :=
  s.paired && s.pairState = 1 && s.rd R.PAIR_STAT_PEER = 2 && s.on R.PAIR_STAT_LINK

/-- A change that follows an admission record goes to the standby (03 R122, 05 R209). -/
def State.sendDelta (s : State) (port2 : List EvEntry) (retired : List (Nat × Nat × Nat)) : State :=
  if s.mirrorOn then
    s.out (.admissionRecord s.pairHdr ⟨s.pairHdr.stroke, [], [], 0, port2, [], [], retired, true⟩)
  else s

/-- A change of state of an item is mirrored. -/
def State.mirror (s : State) (kind : ItemKind) (id : Nat) (phase : MirrorPhase) : State :=
  if s.mirrorOn then s.out (.mirror s.pairHdr ⟨kind, id, phase⟩) else s

/-- An item may go on its medium: at once when nothing is mirrored; else its STARTED is mirrored first, and it waits for the
standby's acknowledgement. Answers whether it may go now. -/
def State.startGate (s : State) (kind : ItemKind) (id : Nat) : Bool × State :=
  if !s.mirrorOn then (true, s)
  else if s.pair.acked.contains (kind, id) then
    (true, { s with pair := { s.pair with acked := s.pair.acked.filter fun k => k ≠ (kind, id) } })
  else if s.pair.waits.contains (kind, id) then (false, s)
  else (false, { s.mirror kind id .started with pair := { s.pair with waits := s.pair.waits ++ [(kind, id)] } })

/-- The standby has acknowledged an item's STARTED. -/
def State.mirrorAck (s : State) (kind : ItemKind) (id : Nat) : State :=
  if s.pair.waits.contains (kind, id) then
    { s with pair := { s.pair with waits := s.pair.waits.filter fun k => k ≠ (kind, id),
                                   acked := s.pair.acked ++ [(kind, id)] } }
  else s

/-- Nothing waits any longer for this item. -/
def State.mirrorForget (s : State) (kind : ItemKind) (id : Nat) : State :=
  { s with pair := { s.pair with waits := s.pair.waits.filter fun k => k ≠ (kind, id),
                                 acked := s.pair.acked.filter fun k => k ≠ (kind, id) } }

/-- The kind and unit under which the ledger holds a mirrored item. -/
def ledgerOf : ItemKind → LedgerKind × Nat
  | .net k => (.net, k)
  | .radio => (.radio, 0)
  | .can c => (.can, c)
  | .acq => (.acq, 0)

/-- The standby's work ledger follows the mirrored change of an item's state (01 R14). -/
def State.ledgerMirror (s : State) (kind : ItemKind) (id : Nat) (phase : MirrorPhase) : State :=
  let (k, u) := ledgerOf kind
  match phase with
  | .accepted _ _ => (s.ledgerDrop k u id).ledgerAdd k u id
  | .started => s.ledgerStart k u id
  | .ended _ _ => s.ledgerDrop k u id
  | _ => s

/-! ### Acyclic requests -/

/-- A request reaches its outcome (08 R320): ACQ_DONE, and REPL_DONE for a completed REPLICATE. -/
def State.acqEnd (s : State) (q : AcqReq) (outcome reason nodestat : Nat) (data : List Byte) : State :=
  let r : AcqRes := ⟨q.id, outcome, reason, nodestat, data⟩
  let s := { s with fbc := { s.fbc with acq := s.fbc.acq.filter (fun x => x.id ≠ q.id),
                                        acqDone := (r :: s.fbc.acqDone).take 128 } }
  let s := ((s.ledgerDrop .acq 0 q.id).mirrorForget .acq q.id).mirror .acq q.id (.ended outcome reason)
  let s := s.raise Ev.fbcAcqDone (q.id * 0x10000 + reason * 0x100 + outcome)
  if q.service = 0x20 && outcome = 1 && reason = 0 then
    s.raise Ev.fbcReplDone (q.index % 0x10000 * 0x100 + q.dest) else s

/-- Requests end without a response: possibly delivered where sent, failed otherwise (01 R48). -/
def State.acqFail (s : State) (which : AcqReq → Bool) (reason : Nat) : State :=
  (s.fbc.acq.filter which).foldl (fun s q => s.acqEnd q (if q.sent then 3 else 2) reason 0 []) s

end Sys2Proof.Machine
end

