-- ==== Sys2Proof/Machine/Memory.lean ====
section
/-!
DEFINITION. Machine/Memory.lean: the core's address map (05 R178, 10 R379), bytes and words of memory, and what the data
code reports of a word that is read (10 R367 to R371).
-/

namespace Sys2Proof.Machine

/-- The ranges of the core's address map (05 R178, R179; 04 "Images and shared data"; 10 R379). -/
inductive Area where
  | program | imageI | imageQ | spill | instData | marks | retain | ledger | page | none
  deriving DecidableEq, Repr

/-- The range an address lies in. -/
def areaOf (a : Nat) : Area :=
  if a < 0x01000000 then .program
  else if a < 0x01008000 then .imageI
  else if a < 0x01010000 then .imageQ
  else if a < 0x01090000 then .spill
  else if a < 0x01100000 then .instData
  else if a < 0x01200000 then .marks
  else if a < 0x02000000 then .instData
  else if a < 0x027C0000 then .retain
  else if a < 0x02800000 then .ledger
  else if 0x40000000 ≤ a && a < 0x40080000 then .page
  else .none

/-- The first addresses of the I, Q and M areas. -/
def iBase : Nat := 0x01000000
def qBase : Nat := 0x01008000
def mBase : Nat := 0x01100000

/-- Memory's canonical form. -/
abbrev Memory.wf (m : List Host.Cell) : Prop := SMap.Wf (fun _ => 0) m

/-- A byte of memory. -/
def State.byte (s : State) (a : Nat) : Byte := SMap.get (fun _ => 0) s.mem a

/-- The state in which a byte of memory holds v. -/
def State.setByte (s : State) (a : Nat) (v : Byte) : State := { s with mem := SMap.set (fun _ => 0) a v s.mem }

/-- n bytes from an address. -/
def State.bytes (s : State) (a n : Nat) : List Byte := (List.range n).map fun i => s.byte (a + i)

/-- The bytes of a list stored from an address in ascending order. -/
def State.setBytes (s : State) (a : Nat) : List Byte → State
  | [] => s
  | b :: t => (s.setByte a b).setBytes (a + 1) t

/-- The number that bytes stand for, little-endian (00 R5). -/
def ofBytes : List Byte → Nat
  | [] => 0
  | b :: t => b.toNat + 256 * ofBytes t

/-- The n little-endian bytes of a number (00 R5). -/
def toBytes : Nat → Nat → List Byte
  | 0, _ => []
  | n + 1, v => BitVec.ofNat 8 v :: toBytes n (v / 256)

/-- The next 4 bytes of data that a register reads (00 R5); bytes beyond the data's end have no value in the spec and are free
(log entry 25). -/
def State.nextWord (s : State) (d : List Byte) : Word × State :=
  if 4 ≤ d.length then (BitVec.ofNat 32 (ofBytes (d.take 4)), s)
  else (BitVec.ofNat 32 (ofBytes d + 256 ^ d.length * s.free.toNat), s.used)

/-- A number as a two's complement value of w bits. -/
def signed (w v : Nat) : Int := if v < 2 ^ (w - 1) then v else (v : Int) - 2 ^ w

/-- Two's complement of w bits as a number. -/
def unsigned (w : Nat) (v : Int) : Nat := (v % 2 ^ w).toNat

/-- The cells of a sparse byte map laid over another, in the order of the list. -/
def overlay (d : Nat → Byte) : List Host.Cell → List Host.Cell → List Host.Cell
  | m, [] => m
  | m, (a, v) :: t => overlay d (SMap.set d a v m) t

/-! ### The data code -/

/-- The memories of the MEM and RETAIN pages (10 "MEM page"). -/
inductive MemKind where
  | main | loop | dram | fabric | retain
  deriving DecidableEq, Repr

/-- The capture set of a memory on the MEM page; retain memory's is on the RETAIN page. -/
def MemKind.index : MemKind → Nat
  | .main => 0 | .loop => 1 | .dram => 2 | .fabric => 3 | .retain => 4

/-- The word is delivered. -/
def eccOk : Ecc → Bool
  | .ue _ | .addr _ | .fabricUe .. => false
  | _ => true

/-- The code of R367 and the corrected positions. -/
def eccKind : Ecc → Nat
  | .clean | .ce1 _ | .fabricCe _ => 0 | .ce2 _ _ => 1 | .ue _ | .fabricUe .. => 2 | .addr _ => 3

def eccPos : Ecc → List Nat
  | .ce1 p => [p]
  | .ce2 p q => [p, q]
  | _ => []

def eccSyndrome : Ecc → Nat
  | .clean => 0
  | .ce1 p => (Config.syndrome [p]).toNat
  | .ce2 p q => (Config.syndrome [p, q]).toNat
  | .fabricCe p => (Config.syndrome [p]).toNat
  | .ue x | .addr x | .fabricUe _ x => x

/-- What a read of the word at a core address decodes as: a poisoned word is UE (R370), any other word what the command
says. -/
def State.decoded (s : State) (a : Nat) (e : Ecc) : Ecc :=
  if s.memory.poison.contains (a / 32) then .ue (Config.syndrome [256, 261, 266, 271]).toNat else e

/-- Captures an error while VALID is 0, and otherwise sets MORE (R371, MEM_ECAP and RETAIN_ECAP). -/
def State.captureEcc (s : State) (m : MemKind) (src off : Nat) (e : Ecc) : State :=
  let cap := if m = .retain then R.RETAIN_ECAP else R.MEM_ECAP + 0x20 * m.index
  if s.on ⟨cap, 31, 31⟩ then s.wr ⟨cap, 30, 30⟩ 1
  else
    let s := s.setReg cap (BitVec.ofNat 32 (0x80000000 + eccKind e * 0x10000000 + src * 0x4000000
      + eccSyndrome e % 0x100000))
    let s := s.setReg (cap + 4) (BitVec.ofNat 32 (if m = .fabric then off else off / 32 * 32))
    if m = .retain then s
    else
      let p := eccPos e
      s.setReg (cap + 8) (BitVec.ofNat 32 (p.getD 1 0x1FF * 0x10000 + p.getD 0 0x1FF))

/-- The conditions of a memory's corrected and uncorrectable words. -/
def ceCond : MemKind → Option Cond
  | .main => some Ev.memMainCe | .loop => some Ev.memLoopCe | .dram => some Ev.memDramCe | .fabric => none
  | .retain => some Ev.retainCe

def ueCond : MemKind → Cond
  | .main => Ev.memMainUe | .loop => Ev.memLoopUe | .dram => Ev.memDramUe | .fabric => Ev.memFabricUe
  | .retain => Ev.retainUe

/-- The DATA word of a memory's code event: the source and the word index, or for retain memory the word's address. -/
def eccData (m : MemKind) (src off : Nat) : Nat :=
  if m = .retain then 0x02000000 + off / 32 * 32 else src * 0x40000000 + off / 32 % 0x8000000

/-- The ticks of 1 ms. -/
def ticksPerMs : Nat := 125000

/-- The bank that serves a bank of main SRAM: the spare bank 16 once it replaces it (R374). -/
def State.physBank (s : State) (b : Nat) : Nat := if s.rd (R.MEM_BANK_SERVES.off 64) = b then 16 else b

/-- The bank in service and the row of a byte offset of main SRAM (10 R372: 2 MiB banks of rows of 128 words). -/
def State.bankRow (s : State) (off : Nat) : Nat × Nat := (s.physBank (off / 0x200000), off / 4096 % 512)

/-- The spare bank is copied from a bank (R374): only while it works and serves none. -/
def State.startBankCopy (s : State) (b : Nat) : State :=
  if s.rd (R.MEM_BANK_SERVES.off 64) = 31 && s.on (R.MEM_BANK_OK.off 64) && s.memory.bankCopy = none && b < 16 then
    { s with memory := { s.memory with bankCopy := some b } }
  else s

/-- A row of main SRAM shows a hard error (R373, R374): it is copied to a spare row of its bank, and with no spare row free
the spare bank is copied from the bank. -/
def State.hardRow (s : State) (off : Nat) : State :=
  let k := s.bankRow off
  if 0 < s.rd (R.MEM_BANK_ROWSFREE.off (4 * k.1)) then
    if s.memory.rowCopy.contains k then s
    else { s with memory := { s.memory with rowCopy := s.memory.rowCopy ++ [k] } }
  else s.startBankCopy k.1

/-- A word of main SRAM reads uncorrectable: again after a write of the whole word, its bank is replaced (R374). -/
def State.noteUe (s : State) (off : Nat) : State :=
  let w := off / 32
  if s.memory.ueWords.any fun x => x.1 = w && x.2 then s.startBankCopy (off / 0x200000)
  else if s.memory.ueWords.any fun x => x.1 = w then s
  else { s with memory := { s.memory with ueWords := s.memory.ueWords ++ [(w, false)] } }

/-- A word that reads clean again shows no hard error: the positions corrected before did not reappear (R373). -/
def State.forgetHard (s : State) (m : MemKind) (off : Nat) : State :=
  let key := (m.index, off / 32 * 32)
  if s.memory.history.any fun h => h.1 == key then
    { s with memory := { s.memory with history := s.memory.history.filter fun h => h.1 != key } }
  else s

/-- The module takes note of how a word read by source src (0 foreground, 1 scrub, 2 copy) decoded (R369 to R371, R373,
R374): it counts and captures the error, raises its event (a corrected error's at most once per ms and memory), keeps a
corrected word for write-back, and takes a position that was corrected at the word's previous read for a hard error. -/
def State.noteWord (s : State) (m : MemKind) (src off : Nat) (e : Ecc) : State :=
  let cnt := if m = .retain then R.RETAIN_CECNT else R.MEM_CECNT + 0x20 * m.index
  match e with
  | .clean => s.forgetHard m off
  | .fabricCe _ | .fabricUe .. => s
  | .ue _ | .addr _ =>
    let s := ((s.captureEcc m src off e).inc ⟨cnt + 4, 31, 0⟩).raise (ueCond m) (eccData m src off)
    if m = .main then s.noteUe off else s
  | .ce1 _ | .ce2 _ _ =>
    let s := (s.captureEcc m src off e).inc ⟨cnt, 31, 0⟩
    let key := (m.index, off / 32 * 32)
    let old := ((s.memory.history.find? fun h => h.1 == key).map Prod.snd).getD []
    let mem := s.memory
    let mem := { mem with
      history := (key, eccPos e) :: mem.history.filter fun h => h.1 != key,
      writeBack := if mem.writeBack.contains key then mem.writeBack else mem.writeBack ++ [key] }
    let s := if m = .fabric then s else { s with memory := mem }
    let s := if m = .main && (eccPos e).any (fun p => old.contains p) then s.hardRow off else s
    match ceCond m with
    | none => s
    | some c =>
      let quiet := match (s.memory.ceAt.find? fun x => x.1 == m.index) with
        | none => true
        | some (_, t) => t + ticksPerMs ≤ s.tb.toNat
      if quiet then
        let s := { s with memory := { s.memory with
          ceAt := (m.index, s.tb.toNat) :: s.memory.ceAt.filter fun x => x.1 != m.index } }
        s.raise c (eccData m src off)
      else s

/-- The memory and the byte offset in it of a core address. -/
def memOf (a : Nat) : MemKind × Nat := if a < 0x02000000 then (.main, a) else (.retain, a - 0x02000000)

/-- A transfer over the fabric to a core address (R368): a word that arrives uncorrectable is resent once, and a second failure
fails the access. -/
def State.readFabric (s : State) (a : Nat) (e : Ecc) : Ecc × State :=
  match e with
  | .fabricCe p => (.clean, s.noteWord .fabric 0 a (.ce1 p))
  | .fabricUe again x =>
    let s := s.noteWord .fabric 0 a (.ue x)
    if again then (e, s.noteWord .fabric 0 a (.ue x)) else (.clean, s)
  | _ => (e, s)

/-- A foreground read of the word at a core address: what the decoder found, and the state that has taken note of it. -/
def State.readWord (s : State) (a : Nat) (e : Ecc) : Ecc × State :=
  let (e, s) := s.readFabric a e
  if e matches .fabricUe .. then (e, s)
  else
    let e' := s.decoded a e
    (e', s.noteWord (memOf a).1 0 (memOf a).2 e')

/-- A transfer over the fabric to a register page, where no memory's word is read. -/
def State.pageWord (s : State) (a : Nat) (e : Ecc) : Ecc × State :=
  match e with
  | .fabricCe _ | .fabricUe .. => s.readFabric a e
  | _ => (.clean, s)

/-- A write of a whole 32-byte word makes it clean (R370), and any foreground write supersedes its write-back (R369): a
position corrected before is then not one that reappeared after write-back (R373). -/
def State.cleanWord (s : State) (a : Nat) (whole : Bool) : State :=
  let key := ((memOf a).1.index, (memOf a).2 / 32 * 32)
  let m := s.memory
  { s with memory := { m with
      poison := if whole then m.poison.filter (fun w => w != a / 32) else m.poison,
      ueWords := if whole then m.ueWords.map (fun x => if x.1 = a / 32 then (x.1, true) else x) else m.ueWords,
      history := if m.writeBack.contains key then m.history.filter (fun h => h.1 != key) else m.history,
      writeBack := m.writeBack.filter fun k => k != key } }

end Sys2Proof.Machine
end

