-- ==== Sys2Proof/Machine/Engine.lean ====
section
/-!
DEFINITION. Machine/Engine.lean: the execution engine: cores and their contexts (05 R174), what an execution sees of the
images and of shared data (04 R136, R138), how an instruction runs, completes an execution or faults it (04 R153 to R156,
05 R177, R209, R211, R216, R218).
-/

namespace Sys2Proof.Machine

/-! ### Cores and tasks -/

/-- A physical core. -/
def State.core (s : State) (c : Nat) : CoreSt := SMap.get (fun _ => {}) s.exec.cores c

/-- The state in which physical core c is k. -/
def State.setCore (s : State) (c : Nat) (k : CoreSt) : State :=
  { s with exec := { s.exec with cores := SMap.set (fun _ => {}) c k s.exec.cores } }

/-- The physical core of a logical core (04 R126). -/
def State.physOf (s : State) (l : Nat) : Nat := bitsOf (s.reg R.EXEC_COREMAP) (3 * l + 2) (3 * l)

/-- The logical core that a physical core's accesses count for: its own, or a number above 3 when it carries none. -/
def State.lcore (s : State) (c : Nat) : Nat := (s.lcoreOf c).getD (4 + c)

/-- The extended stroke number (04 R127). -/
def State.extStroke (s : State) : Nat := s.exec.strokeHi * strokeModulus + s.stroke

/-- Two stroke numbers name one stroke (01 R16). -/
def sameStroke (a b : Nat) : Bool := a % strokeModulus = b % strokeModulus

/-- A stroke number of a message that must name a future stroke, as an extended number; none where it names none (01 R16). -/
def State.futureStroke (s : State) (n : Nat) : Option Nat :=
  let d := (n % strokeModulus + strokeModulus - s.stroke) % strokeModulus
  if 0 < d && d < strokeModulus / 2 then some (s.extStroke + d) else none

/-- A task's enable bit (04 R133). -/
def State.taskEnabled (s : State) (t : Nat) : Bool := s.on ⟨R.EXEC_TEN0 + 4 * (t / 32), t % 32, t % 32⟩

/-- A field of a task's entry. -/
def taskFld (f : Fld) (t : Nat) : Fld := f.off (0x10 * t)

/-- The class of a task (04 R125). -/
def State.taskClass (s : State) (t : Nat) : TaskClass :=
  match s.rd (taskFld R.EXEC_TCFG1_CLASS t) with
  | 0 => .m | 1 => .d | _ => .b

/-- The logical core a task is pinned to (04 R126). -/
def State.taskCore (s : State) (t : Nat) : Nat := s.rd (taskFld R.EXEC_TCFG1_LCORE t)

/-- The base of a task's spill area (05 R179). -/
def spillBase (t : Nat) : Nat := 0x01010000 + 0x2000 * t

/-! ### An instruction's environment -/

/-- Why an instruction faults (04 R154): the fault code, the data address (or 0), CORE_ILLSUB's cause (05 R212), or for ACCESS
1 when the access was narrower than a register. -/
structure Flt where
  code : Nat
  addr : Nat
  ill : Nat
  deriving DecidableEq, Repr

def Flt.illegal (cause : Nat) : Flt := ⟨1, 0, cause⟩
def Flt.access (a : Nat) : Flt := ⟨2, a, 0⟩
def Flt.narrow (a : Nat) : Flt := ⟨2, a, 1⟩
def Flt.align (a : Nat) : Flt := ⟨3, a, 0⟩
def Flt.imageWrite (a : Nat) : Flt := ⟨4, a, 0⟩
def Flt.notRecalled (a : Nat) : Flt := ⟨5, a, 0⟩
def Flt.retainRange (a : Nat) : Flt := ⟨6, a, 0⟩
def Flt.windowLimit : Flt := ⟨7, 0, 0⟩
def Flt.codeError (a : Nat) : Flt := ⟨8, a, 0⟩
def Flt.breakpoint : Flt := ⟨9, 0, 0⟩
def Flt.requester (a : Nat) : Flt := ⟨10, a, 0⟩

/-- What an instruction works on: the machine, its physical core, whether its context is the background one, its
execution and its context. -/
structure Env where
  s : State
  c : Nat
  bgd : Bool
  run : Run
  ctx : Ctx

/-- How an instruction ends: done, done with the execution complete, faulted (with what the machine has noted of the words
read), halted by BRK, waiting for the active unit's value of a register-page load, with its own unit's value, or cut off by the
supply-fail latch with part of its writes made (R200). -/
inductive IRes where
  | done (e : Env)
  | complete (e : Env)
  | flt (f : Flt) (s : State)
  | brk (e : Env)
  | waits (e : Env) (rd : BitVec 5) (a : Nat) (own : Word)
  | cutOff (s : State)

/-- A register by its 5-bit number (05 R174): G0 reads 0, G1 to G15 are the core's, F0 to F15 the context's. -/
def Env.reg (e : Env) (n : BitVec 5) : Word :=
  if n.toNat = 0 then 0
  else if n.toNat < 16 then SMap.get (fun _ => 0) (e.s.core e.c).g n.toNat
  else SMap.get (fun _ => 0) e.ctx.f (n.toNat - 16)

/-- Writes a register by its number: a write to G0 is discarded (R174); G1 to G15 are read-only to executions and their
writers are refused before (R175). -/
def Env.setReg (e : Env) (n : BitVec 5) (v : Word) : Env :=
  if n.toNat < 16 then e
  else { e with ctx := { e.ctx with f := SMap.set (fun _ => 0) (n.toNat - 16) v e.ctx.f } }

/-- The destination is one of G1 to G15 (05 R175, R212 cause 5). -/
def badDest (n : BitVec 5) : Bool := 0 < n.toNat && n.toNat < 16

/-- The program counter after an instruction of one word. -/
def Env.advance (e : Env) : Env := { e with ctx := { e.ctx with pc := e.ctx.pc + 4 } }

def Env.setLa (e : Env) (b : Bool) : Env := { e with ctx := { e.ctx with la := b } }
def Env.setFl (e : Env) (f : Flags) : Env := { e with ctx := { e.ctx with fl := f } }

/-! ### What an execution sees of memory -/

/-- A byte of shared data as a logical core sees it: its own unpublished writes at once, another's after the next
admission (04 R138). -/
def State.sharedByte (s : State) (l a : Nat) : Byte :=
  match (SMap.get (fun _ => []) s.exec.shared l).find? fun c => c.addr == a with
  | some c => c.val
  | none => s.byte a

/-- A list of byte addresses with more of them noted. -/
def noteWrote (l wrote : List Nat) : List Nat := l.foldl (fun w a => if w.contains a then w else a :: w) wrote

/-- Bytes of memory have been written since the restart. -/
def State.wroteAll (s : State) (l : List (Nat × List Byte)) : State :=
  { s with exec := { s.exec with
      wrote := noteWrote (l.flatMap fun p => (List.range p.2.length).map fun i => p.1 + i) s.exec.wrote } }

/-- A logical core's write of a byte of shared data, by an execution of an M or D task or of a B task (none). -/
def State.putShared (s : State) (l a : Nat) (v : Byte) (owner : Option Nat) : State :=
  { s with exec := { s.exec with
      shared := SMap.set (fun _ => []) l (⟨a, v, owner⟩ :: SMap.get (fun _ => []) s.exec.shared l) s.exec.shared } }

/-- A byte as the execution sees it: in the Q area its own buffered byte, else the Q snapshot (04 R136); elsewhere the
shared data. -/
def Env.byte (e : Env) (a : Nat) : Byte :=
  if areaOf a = .imageQ then
    match e.run.qbuf.find? fun c => c.1 == a - qBase with
    | some c => c.2
    | none => SMap.get (fun _ => 0) e.run.qsnap (a - qBase)
  else e.s.sharedByte (e.s.lcore e.c) a

/-- A byte written by the execution: to its Q write buffer in the Q area (04 R136), else to shared data (R138). -/
def Env.putByte (e : Env) (a : Nat) (v : Byte) : Env :=
  if areaOf a = .imageQ then { e with run := { e.run with qbuf := (a - qBase, v) :: e.run.qbuf } }
  else { e with s := e.s.putShared (e.s.lcore e.c) a v (if e.bgd then none else some e.run.task) }

/-- The little-endian number in n bytes from an address, as the execution sees them. -/
def Env.load (e : Env) (a n : Nat) : Nat := ofBytes ((List.range n).map fun i => e.byte (a + i))

/-- Stores bytes from an address in ascending order. -/
def Env.store (e : Env) (a : Nat) : List Byte → Env
  | [] => e
  | b :: t => (e.putByte a b).store (a + 1) t

/-- Recall, or the check of R61, is complete (02 R69). -/
def State.recalled (s : State) : Bool := s.on R.RETAIN_STAT_RECALLED

/-- Why a load of n bytes at an address outside the register pages faults, in the order of 05 R211. -/
def loadFault (s : State) (a n : Nat) : Option Flt :=
  if a % n ≠ 0 then some (.align a)
  else match areaOf a with
  | .none | .spill => some (.access a)
  | .page => if n < 4 then some (.narrow a) else none
  | .ledger => some (.retainRange a)
  | .retain => if s.recalled then none else some (.notRecalled a)
  | _ => none

/-- Why a store of n bytes at an address outside the register pages faults, in the order of 05 R211. -/
def storeFault (s : State) (a n : Nat) : Option Flt :=
  if a % n ≠ 0 then some (.align a)
  else match areaOf a with
  | .none | .spill | .program => some (.access a)
  | .page => if n < 4 then some (.narrow a) else none
  | .imageI => some (.imageWrite a)
  | .ledger => some (.retainRange a)
  | .retain => if s.recalled then none else some (.notRecalled a)
  | _ => none

/-! ### Ending an execution -/

/-- Removes the execution of a core's context. -/
def CoreSt.drop (k : CoreSt) (bgd : Bool) : CoreSt :=
  if bgd then { k with bgRun := none, bgSusp := false, bgHeld := false, wait := none }
  else { k with fgRun := none, wait := none }

/-- A logical core has admitted M or D executions that have not started. -/
def State.fgWaiting (s : State) (l : Nat) : Bool :=
  s.exec.admitted.any fun a => a.lcore == l && decide (a.cls ≠ .b)

/-- A suspended B execution resumes when its core's M and D executions have completed (04 R131). -/
def State.resumeB (s : State) (c : Nat) : State :=
  let k := s.core c
  if k.fgRun = none && !(s.fgWaiting (s.lcore c)) then s.setCore c { k with bgSusp := false } else s

/-- DATA of a CORE page's events: the core and CORE_DBGSTAT.HALTSRC (05 "Debug access"). -/
def State.coreData (s : State) (c : Nat) : Nat :=
  c * 0x10000 + s.rd (R.CORE_DBGSTAT_HALTSRC.off (0x1000 * c))

/-- A B execution of a core ends: the clocks it ran in the stroke are noted for its charge (06 R233), and the active unit sends its
retired count, with one more for an instruction that the standby is to find faulting as well (05 R209). -/
def State.endB (s : State) (c : Nat) (r : Run) (fault : Nat) : State :=
  let k := s.core c
  let s := { s with cox := { s.cox with bRan := s.cox.bRan ++ [k.bClocks] } }
  (s.setCore c { k with bClocks := 0 }).sendDelta [] [(s.lcore c, r.task, k.retired + (if fault = 0 then 0 else 1))]

/-- An execution is complete (05 R177): its Q write buffer is handed over, or with RUNTASK discarded (05 R217). -/
def State.finishRun (s : State) (c : Nat) (bgd : Bool) (r : Run) (fault : Nat) : State :=
  let s := if bgd then s.endB c r fault else s
  let s := s.setCore c ((s.core c).drop bgd)
  let s :=
    if r.runtask then s.raise (Ev.coreRuntask.at c 0) (s.coreData c)
    else { s with exec := { s.exec with finished := s.exec.finished ++
             [⟨r.task, r.scan, if fault = 0 then r.qbuf else [], fault⟩] } }
  s.resumeB c

/-- Asks for STOP at the next stroke boundary with a reason of 02 R91. -/
def State.askStop (s : State) (reason : Nat) : State :=
  { s with sys := { s.sys with stopReqs := s.sys.stopReqs ++ [reason] } }

/-- EXEC_FLTINFO and its companions capture the first fault while VALID is 0 (04 R156). -/
def State.captureFault (s : State) (l : Nat) (r : Run) (pc : Word) (f : Flt) : State :=
  if s.on R.EXEC_FLTINFO_VALID then s.wr R.EXEC_FLTINFO_MORE 1
  else
    let s := s.setReg R.EXEC_FLTINFO
      (BitVec.ofNat 32 (0x80000000 + f.code * 0x10000 + l % 4 * 0x100 + r.task % 64))
    let s := s.setReg R.EXEC_FLTPC pc
    let s := s.setReg R.EXEC_FLTADDR (BitVec.ofNat 32 f.addr)
    s.setReg R.EXEC_FLTSTROKE (BitVec.ofNat 32 r.scan)

/-- What the page of a refused access captures of it when an instruction faults: an access narrower than a register (00 R7), and a
retain access before recall is complete (02 R69), whose OFFSET the spec does not state: a free value. -/
def State.pageFault (s : State) (c : Nat) (f : Flt) : State :=
  let r : Req := .core (Fin.ofNat 5 c)
  if f.code = 2 && f.ill = 1 then
    let a := f.addr - 0x40000000
    if (blockAt (a / 0x1000)).isSome then s.capture (a / 0x1000) (a / 4 * 4) r .width else s
  else if f.code = 5 then s.used.capture 9 (s.free.toNat % 0x1000) r .notRecalled
  else s

/-- A task fault (04 R153 to R156): the execution is abandoned and its Q write buffer discarded, the fault is captured,
raised and counted, the acyclic requests it issued end (01 R48), and FAULTACT is followed. -/
def State.taskFault (s : State) (c : Nat) (bgd : Bool) (r : Run) (pc : Word) (f : Flt) : State :=
  let l := (s.lcoreOf c).getD 0
  let s := (s.pageFault c f).captureFault l r pc f
  let s := if f.code = 1 then s.wr (R.CORE_ILLSUB_CODE.off (0x1000 * c)) f.ill else s
  let s := s.raise Ev.execTaskFault (f.code * 0x10000 + l * 0x100 + r.task % 64)
  let s := s.inc (taskFld R.EXEC_TSTAT_FAULTS r.task)
  let s := (s.finishRun c bgd r f.code).acqFail (fun q => q.task = some r.task) 9
  match s.rd (taskFld R.EXEC_TCFG1_FAULTACT r.task) with
  | 1 =>
    let s := if s.exec.disabled.contains r.task then s
      else { s with exec := { s.exec with disabled := s.exec.disabled ++ [r.task] } }
    s.raise Ev.execTaskDisabled (r.task % 64)
  | 2 => s.askStop 0x11
  | _ => s

/-! ### Running an instruction -/

/-- The mode is STOP or HOLD, where the debugger works (05 R215, R218). -/
def State.debugMode (s : State) : Bool := s.mode = 2 || s.mode = 5

/-- The environment of the context that executes on a core, if the core executes: none without an execution, while the
core is halted, has failed, waits for a load value or serves no logical core that may run, while a B execution is
suspended, held or, in step in TRACK, has retired all that the active unit reported (05 R209), and after the supply-fail latch
(01 R45). -/
def State.env? (s : State) (c : Nat) : Option Env :=
  let k := s.core c
  if (k.halted && !k.stepping) || k.failed || k.wait.isSome || s.sys.latch then none
  else match k.fgRun with
  | some r => some ⟨s, c, false, r, k.fg⟩
  | none =>
    match k.bgRun with
    | some r =>
      if k.bgSusp || k.bgHeld || (s.mode = 4 && s.pairState = 2 && k.limit ≤ k.retired) then none
      else some ⟨s, c, true, r, k.bg⟩
    | none => none

/-- The breakpoints that stand at an address, one bit per CORE_BPn (05 R218). -/
def State.bpHit (s : State) (c : Nat) (pc : Word) : Nat :=
  (List.range 4).foldl (fun m i =>
    let w := s.reg (R.CORE_BP0 + 0x1000 * c + 4 * i)
    if bitsOf w 0 0 = 1 && w.toNat / 4 = pc.toNat / 4 then m + 2 ^ i else m) 0

/-- The watchdog's count freezes while any core is halted; FREEZE at each change (14 R485). -/
def State.freezeCheck (s : State) : State :=
  let f := (List.range 5).any fun c => (s.core c).halted
  if f = s.on R.WDT_STAT_FROZEN then s
  else
    let s := s.wrb R.WDT_STAT_FROZEN f
    { s with wdt := { s.wdt with rcHeld := false } }.raise Ev.wdtFreeze f.toNat

/-- Halts a core with a source of CORE_DBGSTAT.HALTSRC and raises an event. -/
def State.haltCore (s : State) (c src bp : Nat) (ev : Cond) : State :=
  let s := s.setCore c { s.core c with halted := true, stepping := false, bpPassed := true }
  let s := s.wr (R.CORE_DBGSTAT_HALTSRC.off (0x1000 * c)) src
  let s := s.wr (R.CORE_DBGSTAT_BPHIT.off (0x1000 * c)) bp
  (s.raise (ev.at c 0) (s.coreData c)).freezeCheck

/-- The clocks of an instruction, where the context that executes it decides them (R214). -/
def State.clocksOf (s : State) (x : At) (f : Env → Nat) : Nat :=
  match s.env? x.core with
  | some e => f e
  | none => 0

/-- The state after an instruction that took its effect: the context and the execution are the core's again, the
instruction is retired (05 R209), and CORE_CYCLES has advanced by a number of clocks the spec bounds by `clocks` (R214) and
does not otherwise state: a free value (log entry 11). An execution that the instruction itself abandoned (a block reset of its
core's page) stays abandoned. -/
def Env.commit (e : Env) (clocks : Nat) : State :=
  let k := e.s.core e.c
  let n := e.s.free.toNat % (clocks + 1)
  let k := if e.bgd then
      { k with bg := e.ctx, bgRun := k.bgRun.map fun _ => e.run, retired := k.retired + 1, bClocks := k.bClocks + n }
    else { k with fg := e.ctx, fgRun := k.fgRun.map fun _ => e.run }
  let s := (e.s.used.setCore e.c { k with bpPassed := false })
  s.wr (R.CORE_CYCLES_COUNT.off (0x1000 * e.c)) (s.rd (R.CORE_CYCLES_COUNT.off (0x1000 * e.c)) + n)

/-- After an instruction executed by STEP the core halts again (05 R216). -/
def State.afterStep (s : State) (c : Nat) : State :=
  if (s.core c).stepping then s.haltCore c 4 0 Ev.coreStep else s

/-- The end of an instruction. -/
def State.endInstr (e : Env) (clocks : Nat) : IRes → State
  | .done e' => (e'.commit clocks).afterStep e.c
  | .complete e' => ((e'.commit clocks).finishRun e.c e.bgd e'.run 0).afterStep e.c
  | .flt f s => (s.taskFault e.c e.bgd e.run e.ctx.pc f).afterStep e.c
  | .brk e' => (e'.commit clocks).haltCore e.c 2 0 Ev.coreHalted
  | .waits e' rd a own => e'.s.setCore e.c { e'.s.core e.c with wait := some (rd, a, own) }
  | .cutOff s => s

/-- A core executes one instruction (05 R211): nothing happens when no context executes on it; an uncorrectable fetched
word faults; a breakpoint halts it in STOP and HOLD; else the instruction takes its effect. -/
def State.instr (s : State) (x : At) (clocks : Nat) (body : Env → IRes) : State :=
  match s.env? x.core with
  | none => s
  | some e =>
    if 0x01000000 ≤ e.ctx.pc.toNat then (s.taskFault e.c e.bgd e.run e.ctx.pc (.access e.ctx.pc.toNat)).afterStep e.c
    else
      let (f, s1) := s.readWord e.ctx.pc.toNat x.fetch
      if !eccOk f then (s1.taskFault e.c e.bgd e.run e.ctx.pc (.codeError 0)).afterStep e.c
      else if s.debugMode && !(s.core e.c).bpPassed && s.bpHit e.c e.ctx.pc ≠ 0 then
        s1.haltCore e.c 3 (s.bpHit e.c e.ctx.pc) Ev.coreHalted
      else State.endInstr e clocks (body { e with s := s1 })

end Sys2Proof.Machine
end

