-- ==== Sys2Proof/Machine/Operands.lean ====
section
/-!
DEFINITION. Machine/Operands.lean: the operand forms of the Melax core: the bit a format B instruction names (05 R185), the
address of a load or store (R193), a branch target (R201), a timer's or counter's block (R197 to R199).
-/

namespace Sys2Proof.Machine

/-- The bit a format B instruction names: the byte's address and the bit's number, or the fault of an I or Q bit address
beyond its range (R185). -/
def Env.bitAddr (e : Env) : BitOp → Except Flt (Nat × Nat)
  | .i ba => if ba.toNat < 0x40000 then .ok (iBase + ba.toNat / 8, ba.toNat % 8)
      else .error (.access (iBase + ba.toNat / 8))
  | .q ba => if ba.toNat < 0x40000 then .ok (qBase + ba.toNat / 8, ba.toNat % 8)
      else .error (.access (qBase + ba.toNat / 8))
  | .m ba => .ok (mBase + ba.toNat / 8, ba.toNat % 8)
  | .rel rb boff => .ok (((e.reg rb).toNat + boff.toNat / 8) % 4294967296, boff.toNat % 8)

/-- The address of a load or store: RA plus the sign-extended IMM15, modulo 2^32 (R193). -/
def Env.dataAddr (e : Env) (ra : BitVec 5) (imm : BitVec 15) : Nat :=
  (e.reg ra + imm.signExtend 32).toNat

/-- A branch's target: its own address plus 4 times the sign-extended displacement (R201). -/
def Env.branchTarget (e : Env) (disp : BitVec 21) : Word := e.ctx.pc + disp.signExtend 32 * 4

/-- Why a jump or call to an address faults: not a multiple of n, or outside the program area (R201, R202). -/
def targetFault (a n : Nat) : Option Flt :=
  if a % n ≠ 0 then some (.align a) else if areaOf a ≠ .program then some (.access a) else none

/-- A timer's or counter's block at RA + OFF times its size (R197, R198). -/
def Env.blockAddr (e : Env) (ra : BitVec 5) (off : BitVec 15) (size : Nat) : Nat :=
  ((e.reg ra).toNat + off.toNat * size) % 4294967296

/-- Why a timer or counter instruction faults on its block (R197 to R199, in the order of R211). -/
def blockFault (s : State) (a size : Nat) : Option Flt :=
  if a % size ≠ 0 then some (.align a)
  else match areaOf a with
  | .none | .spill | .program | .page | .imageQ => some (.access a)
  | .imageI => some (.imageWrite a)
  | .ledger => some (.retainRange a)
  | .retain => if s.recalled then none else some (.notRecalled a)
  | _ => none

end Sys2Proof.Machine
end

