-- ==== Sys2Proof/Machine/Melax.lean ====
section
/-!
DEFINITION. Machine/Melax.lean: the meaning of the Melax instructions that touch no memory: the logic accumulator
(05 R188, R189), word arithmetic (R190, R191), binary32 arithmetic (R194) and branches (R201).
-/

namespace Sys2Proof.Machine

/-! ### Shapes of an instruction -/

/-- A result in RD with new flags; a destination G1 to G15 is an illegal encoding (R175). -/
def Env.result (e : Env) (rd : BitVec 5) (r : Word × Flags) : IRes :=
  if badDest rd then .flt (.illegal 5) e.s else .done ((e.setReg rd r.1).setFl r.2).advance

/-- New flags and no result. -/
def Env.flagsOnly (e : Env) (f : Flags) : IRes := .done (e.setFl f).advance

/-- A new LA and no other effect. -/
def Env.laOnly (e : Env) (b : Bool) : IRes := .done (e.setLa b).advance

/-- LA is pushed (R188: at depth 16 the instruction faults), then LA takes a value. -/
def Env.pushLa (e : Env) (b : Bool) : IRes :=
  if 16 ≤ e.ctx.las.length then .flt (.illegal 3) e.s
  else .done ({ e with ctx := { e.ctx with las := e.ctx.la :: e.ctx.las } }.setLa b).advance

/-- An entry is popped (R188: at depth 0 the instruction faults), and LA takes a function of it and LA. -/
def Env.popLa (e : Env) (g : Bool → Bool → Bool) : IRes :=
  match e.ctx.las with
  | [] => .flt (.illegal 4) e.s
  | t :: r => .done ({ e with ctx := { e.ctx with las := r } }.setLa (g t e.ctx.la)).advance

/-- An ALU instruction with two source registers. -/
def alu3 (g : Word → Word → Flags → Word × Flags) (clocks : Nat) (x : At) (rd ra rb : BitVec 5) (s : State) : Out :=
  .next (s.instr x clocks fun e => e.result rd (g (e.reg ra) (e.reg rb) e.ctx.fl))

/-- An ALU instruction with one source register. -/
def alu2 (g : Word → Flags → Word × Flags) (clocks : Nat) (x : At) (rd ra : BitVec 5) (s : State) : Out :=
  .next (s.instr x clocks fun e => e.result rd (g (e.reg ra) e.ctx.fl))

/-- An ALU instruction with an immediate operand. -/
def aluImm (g : Word → Word → Flags → Word × Flags) (x : At) (rd ra : BitVec 5) (imm : Word) (s : State) : Out :=
  .next (s.instr x 1 fun e => e.result rd (g (e.reg ra) imm e.ctx.fl))

/-- The PC moves to a target when a condition holds, and past the instruction otherwise (R201). -/
def Env.branch (e : Env) (taken : Bool) (target : Word) : IRes :=
  if taken then
    match targetFault target.toNat 4 with
    | some f => .flt f e.s
    | none => .done { e with ctx := { e.ctx with pc := target } }
  else .done e.advance

/-! ### Control and the logic accumulator -/

/-- NOP (R184). -/
def execNop (x : At) (s : State) : Out := .next (s.instr x 1 fun e => .done e.advance)

/-- LAOP NOT (R189). -/
def execNot (x : At) (s : State) : Out := .next (s.instr x 1 fun e => e.laOnly (!e.ctx.la))

/-- LAOP SET1 (R189). -/
def execSet1 (x : At) (s : State) : Out := .next (s.instr x 1 fun e => e.laOnly true)

/-- LAOP CLR (R189). -/
def execClr (x : At) (s : State) : Out := .next (s.instr x 1 fun e => e.laOnly false)

/-- LAOP PUSH (R189): LA is pushed and unchanged. -/
def execPush (x : At) (s : State) : Out := .next (s.instr x 1 fun e => e.pushLa e.ctx.la)

/-- LAOP POP (R189). -/
def execPop (x : At) (s : State) : Out := .next (s.instr x 1 fun e => e.popLa fun t _ => t)

/-- LAOP POPAND (R189). -/
def execPopand (x : At) (s : State) : Out := .next (s.instr x 1 fun e => e.popLa fun t a => t && a)

/-- LAOP POPOR (R189). -/
def execPopor (x : At) (s : State) : Out := .next (s.instr x 1 fun e => e.popLa fun t a => t || a)

/-- LAOP POPXOR (R189). -/
def execPopxor (x : At) (s : State) : Out := .next (s.instr x 1 fun e => e.popLa fun t a => t != a)

/-- LAOP GETLA (R189). -/
def execGetla (x : At) (rd : BitVec 5) (s : State) : Out :=
  .next (s.instr x 1 fun e => e.result rd (if e.ctx.la then 1 else 0, e.ctx.fl))

/-- LAOP PUTLA (R189). -/
def execPutla (x : At) (ra : BitVec 5) (s : State) : Out := .next (s.instr x 1 fun e => e.laOnly (e.reg ra != 0))

/-- LAOP TSTB (R189). -/
def execTstb (x : At) (ra k : BitVec 5) (s : State) : Out :=
  .next (s.instr x 1 fun e => e.laOnly ((e.reg ra).getLsbD k.toNat))

/-- LAOP PUTB (R189). -/
def execPutb (x : At) (rd ra k : BitVec 5) (s : State) : Out :=
  .next (s.instr x 1 fun e => e.result rd (bitsSet (e.reg ra) k.toNat k.toNat e.ctx.la.toNat, e.ctx.fl))

/-- LAOP CONDLA (R189, R192). -/
def execCondla (x : At) (c : BitVec 4) (s : State) : Out :=
  .next (s.instr x 1 fun e => e.laOnly (e.ctx.fl.holds c))

/-- SYS BRK (R218): halts the core after BRK in STOP and HOLD, faults with BREAKPOINT otherwise. -/
def execBrk (x : At) (s : State) : Out :=
  .next (s.instr x 1 fun e => if s.debugMode then .brk e.advance else .flt .breakpoint e.s)

/-! ### Word arithmetic (R190) -/

/-- ALU ADD (R190). -/
def execAdd (x : At) (rd ra rb : BitVec 5) (s : State) : Out := alu3 aluAdd 1 x rd ra rb s

/-- ALU ADDS (R190). -/
def execAdds (x : At) (rd ra rb : BitVec 5) (s : State) : Out := alu3 aluAdds 1 x rd ra rb s

/-- ALU SUB (R190). -/
def execSub (x : At) (rd ra rb : BitVec 5) (s : State) : Out := alu3 aluSub 1 x rd ra rb s

/-- ALU SUBS (R190). -/
def execSubs (x : At) (rd ra rb : BitVec 5) (s : State) : Out := alu3 aluSubs 1 x rd ra rb s

/-- ALU MUL (R190). -/
def execMul (x : At) (rd ra rb : BitVec 5) (s : State) : Out := alu3 aluMul 3 x rd ra rb s

/-- ALU MULS (R190). -/
def execMuls (x : At) (rd ra rb : BitVec 5) (s : State) : Out := alu3 aluMuls 3 x rd ra rb s

/-- ALU MULH (R190). -/
def execMulh (x : At) (rd ra rb : BitVec 5) (s : State) : Out := alu3 aluMulh 3 x rd ra rb s

/-- ALU MULHU (R190). -/
def execMulhu (x : At) (rd ra rb : BitVec 5) (s : State) : Out := alu3 aluMulhu 3 x rd ra rb s

/-- ALU DIV (R195). -/
def execDiv (x : At) (rd ra rb : BitVec 5) (s : State) : Out := alu3 aluDiv 20 x rd ra rb s

/-- ALU DIVU (R195). -/
def execDivu (x : At) (rd ra rb : BitVec 5) (s : State) : Out := alu3 aluDivu 20 x rd ra rb s

/-- ALU REM (R195). -/
def execRem (x : At) (rd ra rb : BitVec 5) (s : State) : Out := alu3 aluRem 20 x rd ra rb s

/-- ALU REMU (R195). -/
def execRemu (x : At) (rd ra rb : BitVec 5) (s : State) : Out := alu3 aluRemu 20 x rd ra rb s

/-- ALU AND (R190). -/
def execAluAnd (x : At) (rd ra rb : BitVec 5) (s : State) : Out := alu3 aluAnd 1 x rd ra rb s

/-- ALU OR (R190). -/
def execAluOr (x : At) (rd ra rb : BitVec 5) (s : State) : Out := alu3 aluOr 1 x rd ra rb s

/-- ALU XOR (R190). -/
def execAluXor (x : At) (rd ra rb : BitVec 5) (s : State) : Out := alu3 aluXor 1 x rd ra rb s

/-- ALU ANDN (R190). -/
def execAluAndn (x : At) (rd ra rb : BitVec 5) (s : State) : Out := alu3 aluAndn 1 x rd ra rb s

/-- ALU SHL (R190). -/
def execShl (x : At) (rd ra rb : BitVec 5) (s : State) : Out := alu3 aluShl 1 x rd ra rb s

/-- ALU SHR (R190). -/
def execShr (x : At) (rd ra rb : BitVec 5) (s : State) : Out := alu3 aluShr 1 x rd ra rb s

/-- ALU SAR (R190). -/
def execSar (x : At) (rd ra rb : BitVec 5) (s : State) : Out := alu3 aluSar 1 x rd ra rb s

/-- ALU ROL (R190). -/
def execRol (x : At) (rd ra rb : BitVec 5) (s : State) : Out := alu3 aluRol 1 x rd ra rb s

/-- ALU MIN (R190). -/
def execMin (x : At) (rd ra rb : BitVec 5) (s : State) : Out := alu3 aluMin 1 x rd ra rb s

/-- ALU MAX (R190). -/
def execMax (x : At) (rd ra rb : BitVec 5) (s : State) : Out := alu3 aluMax 1 x rd ra rb s

/-- ALU MINU (R190). -/
def execMinu (x : At) (rd ra rb : BitVec 5) (s : State) : Out := alu3 aluMinu 1 x rd ra rb s

/-- ALU MAXU (R190). -/
def execMaxu (x : At) (rd ra rb : BitVec 5) (s : State) : Out := alu3 aluMaxu 1 x rd ra rb s

/-- ALU CMP (R190): flags as SUB, no result. -/
def execCmp (x : At) (ra rb : BitVec 5) (s : State) : Out :=
  .next (s.instr x 1 fun e => e.flagsOnly (aluSub (e.reg ra) (e.reg rb) e.ctx.fl).2)

/-- ALU NEG (R190). -/
def execNeg (x : At) (rd ra : BitVec 5) (s : State) : Out := alu2 aluNeg 1 x rd ra s

/-- ALU ABS (R190). -/
def execAbs (x : At) (rd ra : BitVec 5) (s : State) : Out := alu2 aluAbs 1 x rd ra s

/-- ALU SEL (R190). -/
def execSel (x : At) (rd ra rb : BitVec 5) (s : State) : Out :=
  .next (s.instr x 1 fun e => e.result rd (if e.ctx.la then e.reg ra else e.reg rb, e.ctx.fl))

/-! ### Immediates (R191) -/

/-- ADDI: sign-extended, flags as ADD. -/
def execAddi (x : At) (rd ra : BitVec 5) (imm : BitVec 15) (s : State) : Out :=
  aluImm aluAdd x rd ra (imm.signExtend 32) s

/-- ANDI: zero-extended, flags as AND. -/
def execAndi (x : At) (rd ra : BitVec 5) (imm : BitVec 15) (s : State) : Out :=
  aluImm aluAnd x rd ra (imm.zeroExtend 32) s

/-- ORI: zero-extended, flags as AND. -/
def execOri (x : At) (rd ra : BitVec 5) (imm : BitVec 15) (s : State) : Out :=
  aluImm aluOr x rd ra (imm.zeroExtend 32) s

/-- XORI: zero-extended, flags as AND. -/
def execXori (x : At) (rd ra : BitVec 5) (imm : BitVec 15) (s : State) : Out :=
  aluImm aluXor x rd ra (imm.zeroExtend 32) s

/-- CMPI: sign-extended, flags as CMP. -/
def execCmpi (x : At) (ra : BitVec 5) (imm : BitVec 15) (s : State) : Out :=
  .next (s.instr x 1 fun e => e.flagsOnly (aluSub (e.reg ra) (imm.signExtend 32) e.ctx.fl).2)

/-- SHI: the kind 0 SHL, 1 SHR, 2 SAR, 3 ROL. -/
def execShi (x : At) (rd ra : BitVec 5) (kind : BitVec 2) (amount : BitVec 5) (s : State) : Out :=
  .next (s.instr x 1 fun e =>
    let a := e.reg ra
    let n := amount.toNat
    e.result rd (match kind.toNat with
      | 0 => shlBy a n
      | 1 => shrBy a n
      | 2 => sarBy a n
      | _ => rolBy a n, e.ctx.fl))

/-- LUI: IMM20 times 4096. -/
def execLui (x : At) (rd : BitVec 5) (imm : BitVec 20) (s : State) : Out :=
  .next (s.instr x 1 fun e => e.result rd (imm.zeroExtend 32 <<< 12, e.ctx.fl))

/-! ### Floating point (R194, R196) -/

/-- FPU FADD (R194). -/
def execFadd (x : At) (rd ra rb : BitVec 5) (s : State) : Out := alu3 fpuAdd 4 x rd ra rb s

/-- FPU FSUB (R194). -/
def execFsub (x : At) (rd ra rb : BitVec 5) (s : State) : Out := alu3 fpuSub 4 x rd ra rb s

/-- FPU FMUL (R194). -/
def execFmul (x : At) (rd ra rb : BitVec 5) (s : State) : Out := alu3 fpuMul 4 x rd ra rb s

/-- FPU FDIV (R194). -/
def execFdiv (x : At) (rd ra rb : BitVec 5) (s : State) : Out := alu3 fpuDiv 16 x rd ra rb s

/-- FPU FMIN (R194). -/
def execFmin (x : At) (rd ra rb : BitVec 5) (s : State) : Out := alu3 fpuMin 4 x rd ra rb s

/-- FPU FMAX (R194). -/
def execFmax (x : At) (rd ra rb : BitVec 5) (s : State) : Out := alu3 fpuMax 4 x rd ra rb s

/-- FPU FCMP (R194). -/
def execFcmp (x : At) (ra rb : BitVec 5) (s : State) : Out :=
  .next (s.instr x 4 fun e => e.flagsOnly (fpuCmp (e.reg ra) (e.reg rb) e.ctx.fl))

/-- FPU FABS (R194). -/
def execFabs (x : At) (rd ra : BitVec 5) (s : State) : Out := alu2 fpuAbs 4 x rd ra s

/-- FPU FNEG (R194). -/
def execFneg (x : At) (rd ra : BitVec 5) (s : State) : Out := alu2 fpuNeg 4 x rd ra s

/-- FPU FSQRT (R194). -/
def execFsqrt (x : At) (rd ra : BitVec 5) (s : State) : Out := alu2 fpuSqrt 16 x rd ra s

/-- FPU ITOF (R194). -/
def execItof (x : At) (rd ra : BitVec 5) (s : State) : Out := alu2 fpuItof 4 x rd ra s

/-- FPU FTOI (R195). -/
def execFtoi (x : At) (rd ra : BitVec 5) (s : State) : Out := alu2 (fpuToInt .toZero) 4 x rd ra s

/-- FPU FTOIR (R195). -/
def execFtoir (x : At) (rd ra : BitVec 5) (s : State) : Out := alu2 (fpuToInt .nearest) 4 x rd ra s

/-! ### Branches (R201) -/

/-- B: branches when its condition holds. -/
def execB (x : At) (c : BitVec 4) (disp : BitVec 21) (s : State) : Out :=
  .next (s.instr x 3 fun e => e.branch (e.ctx.fl.holds c) (e.branchTarget disp))

/-- BLA: branches when LA is 1. -/
def execBla (x : At) (disp : BitVec 21) (s : State) : Out :=
  .next (s.instr x 3 fun e => e.branch e.ctx.la (e.branchTarget disp))

/-- BNLA: branches when LA is 0. -/
def execBnla (x : At) (disp : BitVec 21) (s : State) : Out :=
  .next (s.instr x 3 fun e => e.branch (!e.ctx.la) (e.branchTarget disp))

/-- JR: jumps to the address in RA, a multiple of 4 in the program area. -/
def execJr (x : At) (ra : BitVec 5) (s : State) : Out :=
  .next (s.instr x 3 fun e => e.branch true (e.reg ra))

end Sys2Proof.Machine
end

