-- ==== Sys2Proof/Machine/MelaxMemory.lean ====
section
/-!
DEFINITION. Machine/MelaxMemory.lean: the Melax instructions that touch memory and not the register pages: bit
instructions (05 R185 to R187), halfword and byte loads and stores (R193), calls and the window file (R202 to R206),
timers and counters (R197 to R200, 04 R141 to R145), and words that are no instruction (R183).
-/

namespace Sys2Proof.Machine

/-! ### Reading and writing memory from an instruction -/

/-- A foreground read of the word at an address with its code check (10 R368): the environment that has noted it, or the
fault CODE_ERROR with the state that has. -/
def Env.check (e : Env) (a : Nat) (d : Ecc) : Except (Flt × State) Env :=
  let (k, s) := e.s.readWord a d
  if eccOk k then .ok { e with s := s } else .error (.codeError a, s)

/-- A store's word (10 R368): an uncorrectable word that its read-modify-write reads is CODE_ERROR, a write that the fabric fails
is ACCESS. -/
def Env.checkStore (e : Env) (a : Nat) (d : Ecc) : Except (Flt × State) Env :=
  let (k, s) := e.s.readWord a d
  if eccOk k then .ok { e with s := s }
  else .error (if k matches .fabricUe .. then .access a else .codeError a, s)

/-- A load's or a store's transfer to a register page (10 R368). -/
def Env.checkPage (e : Env) (a : Nat) (d : Ecc) (write : Bool) : Except (Flt × State) Env :=
  let (k, s) := e.s.pageWord a d
  if eccOk k then .ok { e with s := s } else .error (if write then .access a else .codeError a, s)

/-- Stores bytes, one word of memory or less; the write supersedes a write-back of the word (10 R369). -/
def Env.put (e : Env) (a : Nat) (bs : List Byte) : Env :=
  let e := e.store a bs
  if areaOf a = .imageQ then e else { e with s := (e.s.cleanWord a (bs.length == 32)).wroteAll [(a, bs)] }

/-- The clocks of a load or store at an address (R214): in a register page, retain memory, or elsewhere. -/
def accessClocks (a elsewhere : Nat) : Nat :=
  match areaOf a with
  | .page => 200
  | .retain | .ledger => 8
  | _ => elsewhere

/-- The clocks of a timer or counter at an address (R214): `main` in main SRAM, 16 in retain memory. -/
def blockClocks (a main : Nat) : Nat := if a < 0x02000000 then main else 16

/-! ### Bit instructions -/

/-- Whether a bit instruction writes its bit: never, when LA is 1 (SET, RST), or always. -/
inductive BitWrite where
  | no | ifLa | yes
  deriving DecidableEq, Repr

/-- Why a bit instruction faults on its byte (05 R185, R186, R178; 04 R135): the range and kind are checked whatever LA
holds, and a write to the I area faults when it is made (log entry 12). -/
def bitFault (s : State) (a : Nat) (w : BitWrite) (la : Bool) : Option Flt :=
  match areaOf a with
  | .none | .spill => some (.access a)
  | .page => some (.narrow a)
  | .program => if w = .no then none else some (.access a)
  | .imageI => if w = .yes || (w = .ifLa && la) then some (.imageWrite a) else none
  | .ledger => some (.retainRange a)
  | .retain => if s.recalled then none else some (.notRecalled a)
  | _ => none

/-- The latest restart left nothing of a timer block or edge memory at an address: it lies in main SRAM, or the restart was cold
(02 R79). -/
def State.restarted (s : State) (a : Nat) : Bool := s.exec.cold || a < 0x02000000

/-- A bit of memory has been written since the latest restart (log entry 15). -/
def State.bitWritten (s : State) (a b : Nat) : Bool := s.exec.seen.contains (8 * a + b) || s.exec.wrote.contains a

/-- Something of a byte of memory has been written since the latest restart. -/
def State.byteWritten (s : State) (a : Nat) : Bool := (List.range 8).any fun b => s.bitWritten a b

/-- A bit instruction has written the bit at a bit address. -/
def State.saw (s : State) (k : Nat) : State :=
  if s.exec.seen.contains k then s else { s with exec := { s.exec with seen := k :: s.exec.seen } }

/-- Writes one bit of a byte of memory. -/
def Env.putBit (e : Env) (a b : Nat) (v : Bool) : Env :=
  let old := e.byte a
  let e := e.store a [if v then old ||| (1#8 <<< b) else old &&& ~~~(1#8 <<< b)]
  let e := if areaOf a = .imageQ then e else { e with s := e.s.cleanWord a false }
  { e with s := e.s.saw (8 * a + b) }

/-- A format B instruction: g takes the named bit and LA and gives the new LA with, when the bit is written, its value. An
edge instruction whose memory nothing has written since a restart finds it as the restart leaves it (02 R79). -/
def bitInstr (w : BitWrite) (g : Bool → Bool → Bool × Option Bool) (x : At) (op : BitOp) (d : Ecc) (s : State)
    (edge : Bool := false) : Out :=
  .next (s.instr x 1 fun e =>
    match e.bitAddr op with
    | .error f => .flt f e.s
    | .ok (a, b) =>
      match bitFault e.s a w e.ctx.la with
      | some f => .flt f e.s
      | none =>
        match e.check a d with
        | .error (f, s') => .flt f s'
        | .ok e =>
          let m := (e.byte a).getLsbD b && !(edge && !e.s.bitWritten a b && e.s.restarted a)
          let (la, put) := g m e.ctx.la
          let e := e.setLa la
          match put with
          | none => .done e.advance
          | some v => .done (e.putBit a b v).advance)

/-- PUSHLD and PUSHLDN: LA is pushed, then loaded (R186). -/
def pushInstr (inv : Bool) (x : At) (op : BitOp) (d : Ecc) (s : State) : Out :=
  .next (s.instr x 1 fun e =>
    if 16 ≤ e.ctx.las.length then .flt (.illegal 3) e.s
    else
      match e.bitAddr op with
      | .error f => .flt f e.s
      | .ok (a, b) =>
        match bitFault e.s a .no e.ctx.la with
        | some f => .flt f e.s
        | none =>
          match e.check a d with
          | .error (f, s') => .flt f s'
          | .ok e => e.pushLa ((e.byte a).getLsbD b != inv))

/-- LD (R186): LA = m. -/
def execLd (x : At) (op : BitOp) (d : Ecc) (s : State) : Out :=
  bitInstr .no (fun m _ => (m, none)) x op d s

/-- LDN (R186): LA = NOT m. -/
def execLdn (x : At) (op : BitOp) (d : Ecc) (s : State) : Out :=
  bitInstr .no (fun m _ => (!m, none)) x op d s

/-- AND (R186): LA = LA AND m. -/
def execAnd (x : At) (op : BitOp) (d : Ecc) (s : State) : Out :=
  bitInstr .no (fun m a => (a && m, none)) x op d s

/-- ANDN (R186): LA = LA AND NOT m. -/
def execAndn (x : At) (op : BitOp) (d : Ecc) (s : State) : Out :=
  bitInstr .no (fun m a => (a && !m, none)) x op d s

/-- OR (R186): LA = LA OR m. -/
def execOr (x : At) (op : BitOp) (d : Ecc) (s : State) : Out :=
  bitInstr .no (fun m a => (a || m, none)) x op d s

/-- ORN (R186): LA = LA OR NOT m. -/
def execOrn (x : At) (op : BitOp) (d : Ecc) (s : State) : Out :=
  bitInstr .no (fun m a => (a || !m, none)) x op d s

/-- XOR (R186): LA = LA XOR m. -/
def execXor (x : At) (op : BitOp) (d : Ecc) (s : State) : Out :=
  bitInstr .no (fun m a => (a != m, none)) x op d s

/-- XORN (R186): LA = LA XOR NOT m. -/
def execXorn (x : At) (op : BitOp) (d : Ecc) (s : State) : Out :=
  bitInstr .no (fun m a => (a == m, none)) x op d s

/-- ST (R186): m = LA. -/
def execSt (x : At) (op : BitOp) (d : Ecc) (s : State) : Out :=
  bitInstr .yes (fun _ a => (a, some a)) x op d s

/-- STN (R186): m = NOT LA. -/
def execStn (x : At) (op : BitOp) (d : Ecc) (s : State) : Out :=
  bitInstr .yes (fun _ a => (a, some (!a))) x op d s

/-- SET (R186): m = 1 when LA is 1. -/
def execSet (x : At) (op : BitOp) (d : Ecc) (s : State) : Out :=
  bitInstr .ifLa (fun _ a => (a, if a then some true else none)) x op d s

/-- RST (R186): m = 0 when LA is 1. -/
def execRst (x : At) (op : BitOp) (d : Ecc) (s : State) : Out :=
  bitInstr .ifLa (fun _ a => (a, if a then some false else none)) x op d s

/-- RE (R186): r = LA AND NOT m, then m = LA and LA = r. -/
def execRe (x : At) (op : BitOp) (d : Ecc) (s : State) : Out :=
  bitInstr .yes (fun m a => (a && !m, some a)) x op d s true

/-- FE (R186): r = NOT LA AND m, then m = LA and LA = r. -/
def execFe (x : At) (op : BitOp) (d : Ecc) (s : State) : Out :=
  bitInstr .yes (fun m a => (!a && m, some a)) x op d s true

/-- PUSHLD (R186). -/
def execPushld (x : At) (op : BitOp) (d : Ecc) (s : State) : Out := pushInstr false x op d s

/-- PUSHLDN (R186). -/
def execPushldn (x : At) (op : BitOp) (d : Ecc) (s : State) : Out := pushInstr true x op d s

/-! ### Loads and stores of memory (R193) -/

/-- The register's load of n bytes of memory, or the fault of its word: ext makes the register's value of the number loaded. -/
def Env.loadMem (e : Env) (n : Nat) (ext : Nat → Word) (rd : BitVec 5) (a : Nat) (d : Ecc) : IRes :=
  match e.check a d with
  | .error (f, s') => .flt f s'
  | .ok e => .done (e.setReg rd (ext (e.load a n))).advance

/-- The store of the low n bytes of RD to memory, or the fault of its word. -/
def Env.storeMem (e : Env) (n : Nat) (rd : BitVec 5) (a : Nat) (d : Ecc) : IRes :=
  match e.checkStore a d with
  | .error (f, s') => .flt f s'
  | .ok e => .done (e.put a (toBytes n (e.reg rd).toNat)).advance

/-- A load of n bytes from memory. -/
def memLoad (n : Nat) (ext : Nat → Word) (x : At) (rd ra : BitVec 5) (imm : BitVec 15) (d : Ecc) (s : State) : Out :=
  .next (s.instr x (s.clocksOf x fun e => accessClocks (e.dataAddr ra imm) 3) fun e =>
    if badDest rd then .flt (.illegal 5) e.s
    else
      let a := e.dataAddr ra imm
      match loadFault e.s a n with
      | some f => .flt f e.s
      | none => e.loadMem n ext rd a d)

/-- A store of the low n bytes of RD to memory. -/
def memStore (n : Nat) (x : At) (rd ra : BitVec 5) (imm : BitVec 15) (d : Ecc) (s : State) : Out :=
  .next (s.instr x (s.clocksOf x fun e => accessClocks (e.dataAddr ra imm) 1) fun e =>
    let a := e.dataAddr ra imm
    match storeFault e.s a n with
    | some f => .flt f e.s
    | none => e.storeMem n rd a d)

/-- The sign and zero extensions of loads (R193). -/
def sext (w v : Nat) : Word := BitVec.ofInt 32 (signed w v)
def zext (v : Nat) : Word := BitVec.ofNat 32 v

/-- LDH (R193). -/
def execLdh (x : At) (rd ra : BitVec 5) (imm : BitVec 15) (d : Ecc) (s : State) : Out :=
  memLoad 2 (sext 16) x rd ra imm d s

/-- LDHU (R193). -/
def execLdhu (x : At) (rd ra : BitVec 5) (imm : BitVec 15) (d : Ecc) (s : State) : Out :=
  memLoad 2 zext x rd ra imm d s

/-- LDB (R193). -/
def execLdb (x : At) (rd ra : BitVec 5) (imm : BitVec 15) (d : Ecc) (s : State) : Out :=
  memLoad 1 (sext 8) x rd ra imm d s

/-- LDBU (R193). -/
def execLdbu (x : At) (rd ra : BitVec 5) (imm : BitVec 15) (d : Ecc) (s : State) : Out :=
  memLoad 1 zext x rd ra imm d s

/-- STH (R193). -/
def execSth (x : At) (rd ra : BitVec 5) (imm : BitVec 15) (d : Ecc) (s : State) : Out := memStore 2 x rd ra imm d s

/-- STB (R193). -/
def execStb (x : At) (rd ra : BitVec 5) (imm : BitVec 15) (d : Ecc) (s : State) : Out := memStore 1 x rd ra imm d s

/-! ### Calls and the window file (R202 to R206) -/

/-- The slots of a context's part of the window file (R174). -/
def windowSize (bgd : Bool) : Nat := if bgd then 64 else 192

/-- The bits of a list, the first in bit 0. -/
def bitsNat : List Bool → Nat
  | [] => 0
  | b :: t => b.toNat + 2 * bitsNat t

/-- The registers a mask names, ascending. -/
def maskRegs (mask : Nat) : List Nat := (List.range 16).filter fun i => mask / 2 ^ i % 2 = 1

/-- The frame that CALL saves (R203). -/
def Env.frame (e : Env) (mask : BitVec 16) (ret : Nat) : List Word :=
  [BitVec.ofNat 32 (e.ctx.las.length * 2 ^ 27 + ret % 2 ^ 24),
   BitVec.ofNat 32 (mask.toNat * 65536 + bitsNat e.ctx.las)] ++
    (maskRegs mask.toNat).map fun i => SMap.get (fun _ => 0) e.ctx.f i

/-- The bytes of words, in ascending order. -/
def wordBytes (ws : List Word) : List Byte := ws.flatMap fun w => toBytes 4 w.toNat

/-- The words of bytes; a rest below 4 bytes is dropped. -/
def bytesWords : List Byte → List Word
  | a :: b :: c :: d :: t => BitVec.ofNat 32 (ofBytes [a, b, c, d]) :: bytesWords t
  | _ => []

/-- The oldest groups of 8 slots that a frame of `need` slots makes the core spill (R205). -/
def spillGroups (size used need : Nat) : Nat := (need - (size - used) + 7) / 8

/-- The groups of 8 slots that a call with a mask spills, and that RET fills back for the newest frame (R205). -/
def Env.callGroups (e : Env) (mask : BitVec 16) : Nat :=
  spillGroups (windowSize e.bgd) e.ctx.window.length (2 + (maskRegs mask.toNat).length)

def Env.retGroups (e : Env) : Nat :=
  match e.ctx.frames with
  | [] => 0
  | z :: _ => (z - e.ctx.window.length + 7) / 8

/-- A call saves its frame, spilling the oldest groups first, and goes to its target with an empty LA stack; the words
spilled are clean words (10 R370). -/
def Env.call (e : Env) (mask : BitVec 16) (target : Nat) : IRes :=
  let fr := e.frame mask (e.ctx.pc.toNat + 8)
  let g := spillGroups (windowSize e.bgd) e.ctx.window.length fr.length
  if spillBase e.run.task + 0x2000 < e.ctx.spillp + 32 * g then .flt .windowLimit e.s
  else
    let s := e.s.setBytes e.ctx.spillp (wordBytes (e.ctx.window.take (8 * g)))
    let s := (List.range g).foldl (fun s i => s.cleanWord (e.ctx.spillp + 32 * i) true) s
    .done { e with s := s, ctx := { e.ctx with
      window := e.ctx.window.drop (8 * g) ++ fr, frames := fr.length :: e.ctx.frames,
      spillp := e.ctx.spillp + 32 * g, las := [], pc := BitVec.ofNat 32 target } }

/-- CALL and CALLR to an address (R202, R212 cause 6). -/
def callTo (x : At) (mask : BitVec 16) (target : Env → Nat) (s : State) : Out :=
  .next (s.instr x (s.clocksOf x fun e => 3 + 4 * e.callGroups mask) fun e =>
    if e.ctx.pc.toNat % 8 ≠ 0 then .flt (.illegal 6) e.s
    else
      match targetFault (target e) 8 with
      | some f => .flt f e.s
      | none => e.call mask (target e))

/-- CALL (R202, R203): the target is TGT times 4. -/
def execCall (x : At) (tgt : BitVec 22) (mask : BitVec 16) (s : State) : Out := callTo x mask (fun _ => tgt.toNat * 4) s

/-- CALLR (R202, R203): the target is RA. -/
def execCallr (x : At) (ra : BitVec 5) (mask : BitVec 16) (s : State) : Out :=
  callTo x mask (fun e => (e.reg ra).toNat) s

/-- The frame of z slots at the top of the window file is restored (R204). -/
def Env.restore (e : Env) (z : Nat) : Env :=
  let w := e.ctx.window
  let fr := w.drop (w.length - z)
  let s0 := (fr.getD 0 0).toNat
  let s1 := (fr.getD 1 0).toNat
  let regs := (maskRegs (s1 / 65536)).zip (fr.drop 2)
  { e with ctx := { e.ctx with
      window := w.take (w.length - z), frames := e.ctx.frames.drop 1,
      f := regs.foldl (fun f p => SMap.set (fun _ => 0) p.1 p.2 f) e.ctx.f,
      las := (List.range (s0 / 2 ^ 27)).map fun i => s1 / 2 ^ i % 2 = 1,
      pc := BitVec.ofNat 32 (s0 % 2 ^ 24) } }

/-- RET (R204, R205): restores the newest frame, filling it back from the spill area when it is not wholly in the window
file, or with no saved frame completes the execution (R177). -/
def execRet (x : At) (d : Ecc) (s : State) : Out :=
  .next (s.instr x (s.clocksOf x fun e => 3 + 5 * e.retGroups) fun e =>
    match e.ctx.frames with
    | [] => .complete e.advance
    | z :: _ =>
      let g := (z - e.ctx.window.length + 7) / 8
      if g = 0 then .done (e.restore z)
      else
        let p := e.ctx.spillp - 32 * g
        match e.check p d with
        | .error (f, s') => .flt f s'
        | .ok e =>
          let back := bytesWords (e.s.bytes p (32 * g))
          .done ({ e with ctx := { e.ctx with window := back ++ e.ctx.window, spillp := p } }.restore z))

/-! ### Timers and counters -/

/-- A timer block (04 R141). -/
structure Timer where
  last : Nat
  elapsed : Nat
  preset : Nat
  running : Bool
  q : Bool
  inprev : Bool
  deriving DecidableEq, Repr

def Timer.ofBytes (b : List Byte) : Timer :=
  let c := Sys2Proof.Machine.ofBytes ((b.drop 24).take 4)
  { last := Sys2Proof.Machine.ofBytes (b.take 8), elapsed := Sys2Proof.Machine.ofBytes ((b.drop 8).take 8),
    preset := Sys2Proof.Machine.ofBytes ((b.drop 16).take 8),
    running := c / 4 % 2 = 1, q := c / 2 % 2 = 1, inprev := c % 2 = 1 }

/-- The block's 32 bytes; its reserved word is written 0. -/
def Timer.bytes (t : Timer) : List Byte :=
  toBytes 8 t.last ++ toBytes 8 t.elapsed ++ toBytes 8 t.preset ++
    toBytes 4 (t.running.toNat * 4 + t.q.toNat * 2 + t.inprev.toNat) ++ toBytes 4 0

/-- ELAPSED after (n - LAST) * L more, saturating at PRESET; a negative n - LAST counts as 0 (R142, 05 R197). -/
def Timer.run (t : Timer) (n len : Nat) : Nat :=
  let dn := (signed 64 ((n + 2 ^ 64 - t.last % 2 ^ 64) % 2 ^ 64)).toNat
  min (t.elapsed + dn * len) t.preset

/-- TON (R142). -/
def Timer.ton (t : Timer) (n len : Nat) (i : Bool) : Timer :=
  let t' := if i then
      let el := if t.inprev then t.run n len else 0
      { t with elapsed := el, q := decide (t.preset ≤ el) }
    else { t with elapsed := 0, q := false }
  { t' with last := n, inprev := i }

/-- TOF (R142). -/
def Timer.tof (t : Timer) (n len : Nat) (i : Bool) : Timer :=
  let t' := if i then { t with elapsed := 0, q := true }
    else
      let el := if t.inprev then 0 else t.run n len
      { t with elapsed := el, q := decide (el < t.preset) }
  { t' with last := n, inprev := i }

/-- TP (R142). -/
def Timer.tp (t : Timer) (n len : Nat) (i : Bool) : Timer :=
  let t' := if t.running then
      let el := t.run n len
      { t with elapsed := el, running := decide (el < t.preset) }
    else if i && !t.inprev then { t with running := true, elapsed := 0 }
    else t
  { t' with q := t'.running, last := n, inprev := i }

/-- A timer block as an evaluation finds it: of what nothing has written since a restart, LAST is the first RUN stroke, and
elapsed time and CTL are 0 unless a warm restart kept the block (02 R79, log entry 15). -/
def Env.timerBytes (e : Env) (a : Nat) : List Byte :=
  (List.range 32).map fun i =>
    if e.s.byteWritten (a + i) then e.byte (a + i)
    else if i < 8 then (toBytes 8 e.s.exec.firstRun).getD i 0
    else if (i < 16 || 24 ≤ i) && e.s.restarted a then 0
    else e.byte (a + i)

/-- A timer or counter block is written back and LA takes a result: as one word in main SRAM, and in retain memory as 32-bit words
in ascending order, of which a supply-fail latch lets only some be made (R200; log entry 177). -/
def Env.putBlock (e : Env) (x : At) (a : Nat) (bs : List Byte) (fin : Env → Env) : IRes :=
  match x.cut with
  | some k => if a < 0x02000000 then .done (fin (e.put a bs)).advance else .cutOff (e.put a (bs.take (4 * k.val))).s
  | none => .done (fin (e.put a bs)).advance

/-- A timer instruction (05 R197, R199, R200). -/
def timerInstr (g : Timer → Nat → Nat → Bool → Timer) (x : At) (ra : BitVec 5) (off : BitVec 15) (d : Ecc)
    (s : State) : Out :=
  .next (s.instr x (s.clocksOf x fun e => blockClocks (e.blockAddr ra off 32) 8) fun e =>
    let a := e.blockAddr ra off 32
    match blockFault e.s a 32 with
    | some f => .flt f e.s
    | none =>
      match e.check a d with
      | .error (f, s') => .flt f s'
      | .ok e =>
        let t := g (Timer.ofBytes (e.timerBytes a)) e.run.scan (e.s.rd R.EXEC_STROKELEN_LEN) e.ctx.la
        e.putBlock x a t.bytes fun e => e.setLa t.q)

/-- TON (R197). -/
def execTon (x : At) (ra : BitVec 5) (off : BitVec 15) (d : Ecc) (s : State) : Out := timerInstr Timer.ton x ra off d s

/-- TOF (R197). -/
def execTof (x : At) (ra : BitVec 5) (off : BitVec 15) (d : Ecc) (s : State) : Out := timerInstr Timer.tof x ra off d s

/-- TP (R197). -/
def execTp (x : At) (ra : BitVec 5) (off : BitVec 15) (d : Ecc) (s : State) : Out := timerInstr Timer.tp x ra off d s

/-- A counter block (04 R145). -/
structure Counter where
  cv : Int
  pv : Int
  qd : Bool
  qu : Bool
  cdprev : Bool
  cuprev : Bool
  deriving DecidableEq, Repr

def Counter.ofBytes (b : List Byte) : Counter :=
  let c := Sys2Proof.Machine.ofBytes ((b.drop 8).take 4)
  { cv := signed 32 (Sys2Proof.Machine.ofBytes (b.take 4)), pv := signed 32 (Sys2Proof.Machine.ofBytes ((b.drop 4).take 4)),
    qd := c / 8 % 2 = 1, qu := c / 4 % 2 = 1, cdprev := c / 2 % 2 = 1, cuprev := c % 2 = 1 }

def Counter.bytes (k : Counter) : List Byte :=
  toBytes 4 (unsigned 32 k.cv) ++ toBytes 4 (unsigned 32 k.pv) ++
    toBytes 4 (k.qd.toNat * 8 + k.qu.toNat * 4 + k.cdprev.toNat * 2 + k.cuprev.toNat)

/-- A counter evaluation (R145). -/
def Counter.step (k : Counter) (cu cd rst ld : Bool) : Counter :=
  let up := cu && !k.cuprev
  let dn := cd && !k.cdprev
  let cv := if rst then 0 else if ld then k.pv
    else if up && !dn then min (k.cv + 1) 2147483647
    else if dn && !up then max (k.cv - 1) (-2147483648)
    else k.cv
  { k with cv := cv, cuprev := cu, cdprev := cd, qu := decide (k.pv ≤ cv), qd := decide (cv ≤ 0) }

/-- CTR (05 R198): RI supplies CU, CD, RESET and LOAD and takes QU in bit 8 and QD in bit 9. The block's reserved word is
kept. -/
def execCtr (x : At) (ri ra : BitVec 5) (off : BitVec 15) (d : Ecc) (s : State) : Out :=
  .next (s.instr x (s.clocksOf x fun e => blockClocks (e.blockAddr ra off 16) 6) fun e =>
    if badDest ri then .flt (.illegal 5) e.s
    else
      let a := e.blockAddr ra off 16
      match blockFault e.s a 16 with
      | some f => .flt f e.s
      | none =>
        match e.check a d with
        | .error (f, s') => .flt f s'
        | .ok e =>
          let i := e.reg ri
          let k := (Counter.ofBytes ((List.range 16).map fun j => e.byte (a + j))).step (i.getLsbD 0) (i.getLsbD 1)
            (i.getLsbD 2) (i.getLsbD 3)
          let r := bitsSet i 9 8 (k.qd.toNat * 2 + k.qu.toNat)
          e.putBlock x a k.bytes fun e => (e.setReg ri r).setLa k.qu)

end Sys2Proof.Machine
end

