-- ==== Sys2Proof/Machine/Bus.lean ====
section
/-!
DEFINITION. Machine/Bus.lean: what a write of a register does when its block has no rule of its own for it (00 R8), and the
answer of a block's write.
-/

namespace Sys2Proof.Machine

/-- The answer of a write: a refusal with a code of 03 R106, or none, and the state after it. -/
abbrev WRes := Option PgErr × State

/-- A write that a block accepts. -/
def accept (s : State) : WRes := (none, s)

/-- A write that is refused; a refused write changes nothing but what the block's rule records of it. -/
def refuse (e : PgErr) (s : State) : WRes := (some e, s)

/-- The requester is the host port or a management session (16 R504, R520, 06 R220). -/
def hostSide : Req → Bool
  | .host => true
  | .mgmt _ => true
  | _ => false

/-- The register at an address with a value written by its access types (00 R6, R8): RW bits take the value, W1C bits clear
where it has a 1, all others keep their value. -/
def writeBits (spec : RegSpec) (old v : Word) : Word :=
  let rw := BitVec.ofNat 32 spec.rw
  let w1c := BitVec.ofNat 32 spec.w1c
  ((old &&& ~~~rw) ||| (v &&& rw)) &&& ~~~(w1c &&& v)

/-- A write of a register without a rule of its own; a reserved register takes nothing (03 R97). -/
def State.plainWrite (s : State) (a : Nat) (v : Word) : State :=
  match regSpec? a with
  | some (r, _) => s.setReg a (writeBits r (s.reg a) v)
  | none => s

end Sys2Proof.Machine
end

