-- ==== Sys2Proof/Machine/Spare.lean ====
section
/-!
DEFINITION. Machine/Spare.lean: the inventory of spares (16 R513, R514) and writes of flash partitions (10 R378).
-/

namespace Sys2Proof.Machine

/-- The low mark of a kind of spare: a quarter of its count at manufacture (R513). -/
def lowMark (kind : Nat) : Nat := spareCount kind / 4

/-- The free spares of a kind. -/
def State.spareFree (s : State) (kind : Nat) : Nat := s.rd (R.SPARE_AVAIL_FREE.off (8 * kind))

/-- A kind's free count falls to n: INVENTORY_LOW at its low mark and at 0 (R514). -/
def State.spareFall (s : State) (kind n : Nat) : State :=
  let was := s.spareFree kind
  let s := s.wr (R.SPARE_AVAIL_FREE.off (8 * kind)) n
  if n < was && (n = lowMark kind || n = 0) then s.raise Ev.spareInventoryLow (kind * 0x10000000 + n) else s

/-- A spare of a kind replaces a unit (R514). -/
def State.substitution (s : State) (kind unit : Nat) : State :=
  let s := s.raise Ev.spareSubstituted (kind * 0x10000000 + unit % 0x1000000)
  let s := (s.inc (R.SPARE_AVAIL_INSERVICE.off (8 * kind))).inc (R.SPARE_SUBST_COUNT.off (8 * kind))
  s.spareFall kind (s.spareFree kind - 1)

/-- A spare lane or leg becomes free again (R514). -/
def State.spareReturned (s : State) (kind : Nat) : State :=
  let s := s.wr (R.SPARE_AVAIL_INSERVICE.off (8 * kind)) (s.rd (R.SPARE_AVAIL_INSERVICE.off (8 * kind)) - 1)
  s.inc (R.SPARE_AVAIL_FREE.off (8 * kind))

/-- The kinds that a page's PG_SPARE counts (R513). -/
def spareKinds (page : Nat) : List Nat :=
  match page with
  | 0x0D => [0] | 0x08 => [1, 2] | 0x09 => [3] | 0x0A => [4] | 0x44 => [5] | 0x70 => [6] | _ => []

/-- PG_SPARE of a page (03 "PG_SPARE and PG_ENERGY", R513). -/
def State.pgSpare (s : State) (page : Nat) : Word :=
  let sum (f : Nat → Nat) := (spareKinds page).foldl (fun n k => n + f k) 0
  BitVec.ofNat 32 (min (sum fun k => s.spareFree k) 255 * 0x1000000
    + min (sum fun k => s.rd (R.SPARE_AVAIL_INSERVICE.off (8 * k))) 255 * 0x10000
    + min (sum fun k => s.rd (R.SPARE_SUBST_COUNT.off (8 * k))) 0xFFFF)

/-- Writes a flash partition (R378); `bad` names the blocks whose write fails in turn. Each is retired and replaced by a
spare block; with no spare block free the write fails and the flash is read-only from then on. Answers whether the write
succeeded. -/
def State.flashWrite (s : State) (part : Nat) : List Nat → Bool × State
  | [] => (!s.on R.FLASH_STAT_READONLY, s)
  | b :: bad =>
    if s.on R.FLASH_STAT_READONLY then (false, s)
    else if s.rd R.FLASH_SPARE_FREE = 0 then
      let s := (s.raise Ev.flashWriteFailed part).wr R.FLASH_STAT_READONLY 1
      (false, s.raise Ev.flashReadonly 0)
    else
      let s := (s.wr R.FLASH_SPARE_FREE (s.rd R.FLASH_SPARE_FREE - 1)).inc R.FLASH_SPARE_RETIRED
      ((s.raise Ev.flashBlockRetired part).substitution 4 b).flashWrite part bad

/-- Flash wear management shows its figures; LIFE_WARN once at 80 % and once at 95 % (R378). -/
def State.flashWear (s : State) (life mib : Nat) (busy : Bool) : State :=
  let life := min life 255
  let s := ((s.wr R.FLASH_STAT_LIFE life).wr R.FLASH_WRITTEN_MIB (min mib 0xFFFFFFFF)).wrb R.FLASH_STAT_WEARBUSY busy
  let warn (s : State) (n at' : Nat) : State :=
    if s.memory.lifeWarned < n && at' ≤ life then
      { s with memory := { s.memory with lifeWarned := n } }.raise Ev.flashLifeWarn life
    else s
  warn (warn s 1 80) 2 95

end Sys2Proof.Machine
end

