-- ==== Sys2Proof/Machine/Recorder.lean ====
section
/-!
DEFINITION. Machine/Recorder.lean: the event log (16 R519 to R525): what a record's bytes are, staging and flash, clearing,
the supply-fail latch and the next start, and the LOG page.
-/

namespace Sys2Proof.Machine

/-- The 64 bytes of a record (R519). -/
def LogRec.bytes (r : LogRec) : List Byte :=
  let b := toBytes 4 r.recno ++ toBytes 8 r.stamp.toNat ++ toBytes 4 r.caltime ++ toBytes 4 r.boot ++ toBytes 4 r.stroke
    ++ toBytes 1 r.source ++ toBytes 1 r.code ++ toBytes 1 r.severity ++ toBytes 1 0 ++ toBytes 2 r.seq
    ++ toBytes 2 r.suppressed ++ toBytes 4 r.data ++ (r.detail ++ List.replicate 20 0).take 20 ++ toBytes 4 r.lost
  b ++ toBytes 4 (Config.crc32c b).toNat

/-- The severity of a stored record (R519, byte 26 bits 2 to 0). -/
def LogRec.rank (r : LogRec) : Nat := r.severity % 8

/-- The records the event log holds (R519). -/
def logRoom : Nat := 65536

/-- Removes the first record at or below a severity, if there is one (R522). -/
def dropOldest (rank : Nat) : List LogRec → Option (List LogRec)
  | [] => none
  | r :: t => if r.rank ≤ rank then some t else (dropOldest rank t).map (r :: ·)

/-- One staged record reaches flash; with the log full it replaces the oldest record at or below its severity, and without
one it is dropped (R522). -/
def State.logPut (s : State) (r : LogRec) : State :=
  if s.recorder.log.length < logRoom then { s with recorder := { s.recorder with log := s.recorder.log ++ [r] } }
  else match dropOldest r.rank s.recorder.log with
    | some l => { s with recorder := { s.recorder with log := l ++ [r] } }
    | none => s.dropRecord r.rank

/-- The staged records are written to flash partition 13 (R522, 10 R378); `bad` names the blocks whose write fails in turn.
When the write fails the records stay staged; while LOG is disabled it writes nothing (03 R103); a record that reads
uncorrectable from DRAM is dropped (10 R368). -/
def State.flushLog (s : State) (bad : List Nat) : State :=
  if s.recorder.staged.isEmpty || !s.pgEn 0x0C then s
  else
    let (ok, s) := s.flashWrite 13 bad
    if ok then
      let rs := s.recorder.staged
      rs.foldl (fun s r =>
        if s.memory.dramBad.contains (.staged r.recno) then s.dropRecord r.rank else s.logPut r)
        { s with recorder := { s.recorder with staged := [] } }
    else s

/-- RECORD_FLUSH (R522, R524). -/
def execRecordFlush (bad : List Nat) (s : State) : Out := .next (s.flushLog bad)

/-- TOKEN_GAIN (R521): a bucket that holds fewer than 8 tokens gains one. -/
def execTokenGain (src : Fin 256) (code : Fin 128) (s : State) : Out :=
  let k := src.val * 128 + code.val
  let b := SMap.get (fun _ => fullBucket) s.recorder.buckets k
  .next (if b.tokens < 8 then
      { s with recorder := { s.recorder with
          buckets := SMap.set (fun _ => fullBucket) k { b with tokens := b.tokens + 1 } s.recorder.buckets } }
    else s)

/-- The records present, by rising RECNO: those in flash and those staged (R522, R525). -/
def State.records (s : State) : List LogRec := s.recorder.log ++ s.recorder.staged

/-- LOG_CLEAR takes effect (R523): the CLEARED record, and the removal of every record below it. Operand: the key
identifier and the first 8 nonce bytes. -/
def State.clearLog (s : State) (who : List Byte) : State :=
  let n := s.records.length
  let drops := (List.range 8).foldl (fun t i => t + (s.reg (R.LOG_DROP0 + 4 * i)).toNat) 0
  let s := { s with recorder := { s.recorder with log := [], staged := [] } }
  let s := (List.range 8).foldl (fun s i => s.setReg (R.LOG_DROP0 + 4 * i) 0) s
  (s.incWrap R.LOG_CLEARCNT_COUNT).raise Ev.logCleared n (who ++ toBytes 4 drops)

/-- The supply-fail latch (R524): the range of staged records goes to the Marshal's non-volatile area. -/
def State.logLatch (s : State) : State :=
  let range := match s.recorder.staged.head?, s.recorder.staged.getLast? with
    | some a, some b => some (a.recno, b.recno)
    | _, _ => none
  { s with recorder := { s.recorder with latched := range, latchAt := s.tb.toNat } }

/-- The power goes: staged records that did not reach flash are lost, and so are the buckets (R521, R524). -/
def State.logPowerOff (s : State) : State :=
  { s with recorder := { s.recorder with staged := [], buckets := [], dropAt := none, dropsSince := 0 } }

/-- The START record of the start after a supply failure (R524). -/
def State.logStart (s : State) : State :=
  let lost := match s.recorder.latched with
    | some (a, b) => ((List.range (b + 1 - a)).filter fun i => !s.recorder.log.any fun r => r.recno = a + i).length
    | none => 0
  { s with recorder := { s.recorder with latched := none } }.raise Ev.logStart lost [] lost

/-! ### The LOG page -/

/-- The record that a requester's LOG_RSEL names, and whether it is staged. -/
def State.logFind (s : State) (r : Req) : Option (LogRec × Bool) :=
  let n := s.rd (s.bf r R.LOG_RSEL_RECNO)
  match s.recorder.log.find? fun x => x.recno = n with
  | some x => some (x, false)
  | none => (s.recorder.staged.find? fun x => x.recno = n).map fun x => (x, true)

/-- A read of LOG_RDATA0 (R525): the snapshot. `stored` is what flash returns when it is not what was written. The words of
an absent record read 0 (DESIGN CHOICE, log entry 20). -/
def State.logSnapshot (s : State) (r : Req) (stored : Option (List Byte)) : Word × State :=
  let put (b : List Byte) (st : Nat) (staged : Bool) : Word × State :=
    let s := (List.range 16).foldl (fun s i =>
      s.setReg (s.bk r (R.LOG_RDATA0 + 4 * i)) (BitVec.ofNat 32 (ofBytes ((b.drop (4 * i)).take 4)))) s
    let s := (s.wr (s.bf r R.LOG_RSTAT_STATE) st).wrb (s.bf r R.LOG_RSTAT_STAGED) staged
    (s.reg (s.bk r R.LOG_RDATA0), s)
  match s.logFind r with
  | none => put [] 1 false
  | some (x, staged) =>
    let b := if staged then x.bytes else (stored.getD x.bytes).take 64
    let good := ofBytes ((b.drop 60).take 4) = (Config.crc32c (b.take 60)).toNat
    put b (if staged || (stored.isNone || good) then 0 else 2) staged

/-- LOG_RCMD (R525): the nearest present record above or below LOG_RSEL, the lowest, the highest; without one the selection
stays. -/
def State.logCmd (s : State) (r : Req) (v : Word) : State :=
  let f := s.bf r R.LOG_RSEL_RECNO
  let sel := s.rd f
  let rs := s.records.map fun x => x.recno
  let pick := if bitsOf v 31 16 ≠ 0x10C6 then none
    else match bitsOf v 7 0 with
      | 1 => rs.find? fun n => sel < n
      | 2 => rs.reverse.find? fun n => n < sel
      | 3 => rs.head?
      | 4 => rs.getLast?
      | _ => none
  match pick with
  | some n => s.wr f n
  | none => s

/-- A write to the LOG page: LOG_SEVMAP by the host and a management session only (R520). -/
def State.logWrite (s : State) (r : Req) (a : Nat) (v : Word) : WRes :=
  if a = R.LOG_RCMD then accept (s.logCmd r v)
  else if a = R.LOG_RSEL then accept (s.setReg (s.bk r a) v)
  else if R.LOG_SEVMAP ≤ a then
    let i := (a - R.LOG_SEVMAP) / 4
    let bad := (List.range 8).any fun j => 8 * i + j ≠ 233 && bitsOf v (4 * j + 2) (4 * j) = 7
    if !hostSide r then refuse .requester s
    else if bad then refuse .range s
    else
      let w := (List.range 8).foldl (fun w j =>
        w + (if 8 * i + j = 233 then 7 else bitsOf v (4 * j + 2) (4 * j)) * 16 ^ j) 0
      accept (s.setReg a (BitVec.ofNat 32 w))
  else accept s

/-- What LOG_COUNT, LOG_FIRST, LOG_LAST and LOG_STAGED read: the records present, and the staged ones. -/
def State.logRead (s : State) (a : Nat) : Option Word :=
  let rs := s.records.map fun x => x.recno
  if a = R.LOG_COUNT then some (BitVec.ofNat 32 (min rs.length logRoom))
  else if a = R.LOG_FIRST then some (BitVec.ofNat 32 (rs.head?.getD 0))
  else if a = R.LOG_LAST then some (BitVec.ofNat 32 (rs.getLast?.getD 0))
  else if a = R.LOG_STAGED then some (BitVec.ofNat 32 s.recorder.staged.length)
  else none

end Sys2Proof.Machine
end

