-- ==== Sys2Proof/Machine/Rtc.lean ====
section
/-!
DEFINITION. Machine/Rtc.lean: the calendar clock (15 R488 to R501).
-/

namespace Sys2Proof.Machine

/-! ### Dates -/

/-- The days from 2000-01-01 to the first day of year 2000 + y (R488). -/
def daysBefore (y : Nat) : Nat := 365 * y + (y + 3) / 4 - (y + 99) / 100 + (y + 399) / 400

/-- 2000 + y is a leap year (R488). -/
def leap (y : Nat) : Bool := y % 4 = 0 && (y % 100 ≠ 0 || y % 400 = 0)

/-- The lengths of the months. -/
def monthLengths (y : Nat) : List Nat := [31, if leap y then 29 else 28, 31, 30, 31, 30, 31, 31, 30, 31, 30, 31]

/-- The seconds of the calendar's 400 years. -/
def calendarSpan : Nat := daysBefore 400 * 86400

/-- A date and time of day. -/
structure CalTime where
  year : Nat
  month : Nat
  day : Nat
  hour : Nat
  minute : Nat
  second : Nat
  deriving DecidableEq, Repr

/-- Seconds since 2000-01-01 00:00:00; the year counts from 2000. -/
def CalTime.secs (t : CalTime) : Nat :=
  (daysBefore t.year + ((monthLengths t.year).take (t.month - 1)).sum + (t.day - 1)) * 86400
    + t.hour * 3600 + t.minute * 60 + t.second

/-- The month (from 1) and day of a day of the year. -/
def monthDay : Nat → Nat → List Nat → Nat × Nat
  | m, d, l :: rest => if d < l then (m, d + 1) else monthDay (m + 1) (d - l) rest
  | m, d, [] => (m, d + 1)

/-- The date and time of a number of seconds. -/
def calTime (secs : Nat) : CalTime :=
  let days := secs / 86400
  let g := days * 400 / 146097
  let y := if daysBefore (g + 1) ≤ days then g + 1 else if days < daysBefore g then g - 1 else g
  let md := monthDay 1 (days - daysBefore y) (monthLengths y)
  ⟨y, md.1, md.2, secs / 3600 % 24, secs / 60 % 60, secs % 60⟩

/-- Two BCD digits. -/
def bcd (n : Nat) : Nat := n / 10 % 10 * 16 + n % 10

/-- The value of two BCD digits. -/
def unbcd (n : Nat) : Nat := n / 16 * 10 + n % 16

/-- The registers of the time group, in the order of R491. -/
def timeGroup (secs : Nat) : List Word :=
  let t := calTime secs
  [bcd t.second, bcd t.minute, bcd t.hour, (secs / 86400 + 6) % 7 * 256 + bcd t.day, bcd t.month, bcd (t.year % 100),
   secs % 4294967296, bcd (20 + t.year / 100)].map (BitVec.ofNat 32)

/-- The calendar holds a number of seconds, and the group shows it. -/
def State.setCalendar (s : State) (secs : Nat) : State :=
  let s := { s with rtc := { s.rtc with secs := secs } }
  (List.range 8).foldl (fun s i => s.setReg (R.RTC_SEC + 4 * i) ((timeGroup secs).getD i 0)) s

/-- Checks a time and a date in the layouts of RTC_STGTIME and RTC_STGDATE: a reason of R493, or the seconds. -/
def checkTime (time date : Word) : Except Nat Nat :=
  let nib := [bitsOf time 3 0, bitsOf time 6 4, bitsOf time 11 8, bitsOf time 14 12, bitsOf time 19 16, bitsOf time 22 20,
    bitsOf date 3 0, bitsOf date 5 4, bitsOf date 11 8, bitsOf date 12 12, bitsOf date 19 16, bitsOf date 23 20,
    bitsOf date 27 24, bitsOf date 31 28]
  let sec := unbcd (bitsOf time 6 0)
  let min := unbcd (bitsOf time 14 8)
  let hour := unbcd (bitsOf time 22 16)
  let year := unbcd (bitsOf date 31 24) * 100 + unbcd (bitsOf date 23 16)
  let month := unbcd (bitsOf date 12 8)
  let day := unbcd (bitsOf date 5 0)
  if nib.any fun n => 9 < n then .error 1
  else if 59 < sec || 59 < min || 23 < hour then .error 2
  else if month = 0 || 12 < month then .error 3
  else if year < 2000 || 2399 < year then .error 4
  else if day = 0 || (monthLengths (year - 2000)).getD (month - 1) 0 < day then .error 5
  else .ok (CalTime.secs ⟨year - 2000, month, day, hour, min, sec⟩)

/-! ### The alarm -/

/-- The armed alarm fires and disarms (R497, R498); SKIPPED when a forward commit passed it. With VIN24 absent the event
waits for the next start. In PARK a notice goes to every open management session (06 R221). -/
def State.alarmFire (s : State) (skipped : Bool) : State :=
  let s := ((s.wr R.RTC_STAT_ARMED 0).wr R.RTC_STAT_ALMF 1).wrb R.RTC_STAT_SKIPPED skipped
  if s.sys.latch || s.sys.stage = 0 then { s with rtc := { s.rtc with missed := true } }
  else
    let s := s.raise Ev.rtcAlarm skipped.toNat
    if s.mode = 7 then s.out .alarmNotice else s

/-- The alarm time in seconds; the registers hold a time that was checked when it was armed. -/
def State.alarmSecs (s : State) : Option Nat :=
  match checkTime (s.reg R.RTC_ALMTIME) (s.reg R.RTC_ALMDATE) with
  | .ok n => some n
  | .error _ => none

/-- An alarm that fired while VIN24 was absent is raised when the event controller starts (R498). -/
def State.alarmMissed (s : State) : State :=
  if s.rtc.missed then
    { s with rtc := { s.rtc with missed := false } }.raise Ev.rtcAlarm (2 + s.rd R.RTC_STAT_SKIPPED)
  else s

/-! ### Counting, setting, trim -/

/-- SECOND_INCREMENT (R488, R489, R497, R499): the calendar advances by one second. -/
def execSecondIncrement (s : State) : Out :=
  let s := if s.rtc.trimNew then
      { s with rtc := { s.rtc with trimNew := false } }.raise Ev.rtcTrimSet (s.rd R.RTC_TRIM_PPM10)
    else s
  let n := s.rtc.secs + 1
  if n = calendarSpan then
    let s := ((s.setCalendar 0).wr R.RTC_STAT_RANGE 1).wr R.RTC_STAT_VALID 0
    .next (s.raise Ev.rtcRange 0)
  else
    let s := s.setCalendar n
    .next (if s.on R.RTC_STAT_ARMED && s.alarmSecs = some n then s.alarmFire false else s)

/-- A signed change in seconds, saturating at 32 bits. -/
def signedChange (d : Int) : Nat := unsigned 32 (max (-2147483648) (min d 2147483647))

/-- RTC_CTL.COMMIT (R493, R494, R497). -/
def State.rtcCommit (s : State) : State :=
  match checkTime (s.reg R.RTC_STGTIME) (s.reg R.RTC_STGDATE) with
  | .error e => (s.wr R.RTC_STAT_LASTRSN e).raise Ev.rtcCommitRefused e
  | .ok n =>
    let old := s.rtc.secs
    let s := (((s.setCalendar n).wr R.RTC_STAT_LASTRSN 0).wr R.RTC_STAT_RANGE 0).wr R.RTC_STAT_VALID 1
    let s := match s.on R.RTC_STAT_ARMED, s.alarmSecs with
      | true, some a => if old < a && a ≤ n then s.alarmFire (a < n) else s
      | _, _ => s
    s.raise Ev.rtcCommitted (signedChange ((n : Int) - old))

/-- RTC_CTL.ARM (R496). -/
def State.rtcArm (s : State) : State :=
  let bad (e : Nat) : State := (s.wr R.RTC_STAT_LASTRSN e).raise Ev.rtcAlarmRefused e
  match checkTime (s.reg R.RTC_ALMTIME) (s.reg R.RTC_ALMDATE) with
  | .error e => bad e
  | .ok n => if n ≤ s.rtc.secs then bad 6 else (s.wr R.RTC_STAT_LASTRSN 0).wr R.RTC_STAT_ARMED 1

/-- The calendar domain has lost power: what the module does at the next start (R501), every kept register at the value in brackets
in its Reset column. -/
def State.calendarReset (s : State) : State :=
  let s := [R.RTC_STAT, R.RTC_ALMTIME, R.RTC_ALMDATE].foldl (fun s a => s.setReg a (resetVal a)) (s.setCalendar 0)
  let s := (List.range 64).foldl (fun s i => s.setReg (R.RTC_BKUP + 4 * i) 0) (s.setReg R.RTC_TRIM 0)
  let s := { s with rtc := { s.rtc with trimNew := false, missed := false } }
  s.wr R.RTC_STAT_CALPOR 1

/-- A measurement of VBAT in mV (R500). -/
def State.vbat (s : State) (mv : Nat) : State :=
  let low := mv < 2500
  let s := s.wrb R.RTC_STAT_VBATLOW low
  if low then s.raise Ev.rtcVbatLow (min mv 0xFFFF) else s

/-! ### Reading -/

/-- The key of a requester's shadow set (R491): the host port, the Marshal, each logical core. -/
def State.rtcKey (s : State) : Req → Nat
  | .host => 0x10
  | .core c => s.lcore c
  | _ => 0x20

/-- A requester's held snapshot. -/
def State.rtcShadow (s : State) (r : Req) : Option (List Word) :=
  (s.rtc.shadows.find? fun x => x.1 = s.rtcKey r).map Prod.snd

/-- A read of a register of the time group at index i (R491, R492). -/
def State.rtcRead (s : State) (r : Req) (i : Nat) : Word × State :=
  let live := s.reg (R.RTC_SEC + 4 * i)
  let drop := s.rtc.shadows.filter fun x => x.1 ≠ s.rtcKey r
  if i = 0 then
    let g := (List.range 8).map fun j => s.reg (R.RTC_SEC + 4 * j)
    (live, { s with rtc := { s.rtc with shadows := drop ++ [(s.rtcKey r, g)] } })
  else match s.rtcShadow r with
    | some g => (g.getD i 0, if i = 7 then { s with rtc := { s.rtc with shadows := drop } } else s)
    | none => (live, s)

/-- SHADOW_RELEASE (R492): a set held for 1 s releases itself. -/
def execShadowRelease (r : Req) (s : State) : Out :=
  .next (if (s.rtcShadow r).isSome then
      let s := { s with rtc := { s.rtc with shadows := s.rtc.shadows.filter fun x => x.1 ≠ s.rtcKey r } }
      (s.wr R.RTC_STAT_SHREL 1).raise Ev.rtcShadowRelease (reqCode r)
    else s)

/-! ### Writes of the page -/

/-- A write to the RTC page, whose writers are the host and management sessions (R495). -/
def State.rtcWrite (s : State) (a : Nat) (v : Word) : WRes :=
  if a = R.RTC_CTL then
    let s := if v.getLsbD 0 then s.rtcCommit else s
    let s := if v.getLsbD 1 then s.rtcArm else s
    accept (if v.getLsbD 2 then s.wr R.RTC_STAT_ARMED 0 else s)
  else if a = R.RTC_ALMTIME || a = R.RTC_ALMDATE then
    if s.on R.RTC_STAT_ARMED then refuse .mode s else accept (s.plainWrite a v)
  else if a = R.RTC_TRIM then
    let t := signed 16 (bitsOf v 15 0)
    if t < -2000 || 2000 < t then refuse .range s
    else accept { s.plainWrite a v with rtc := { s.rtc with trimNew := true } }
  else accept (s.plainWrite a v)

end Sys2Proof.Machine
end

