-- ==== Sys2Proof/Machine/CodeCheck.lean ====
section
/-!
DEFINITION. Machine/CodeCheck.lean: which words are legal Melax encodings (05 R182 to R184, R189 to R194, R212), the
meaning of a word that is none, and the code checks a block passes when it is loaded or committed (R213).
-/

namespace Sys2Proof.Machine

/-- What the code checks need to know of a legal instruction word. -/
inductive Flow where
  /-- Goes to the next instruction, changing the LA stack by push or pop, or not. -/
  | plain (push pop : Bool)
  /-- Goes to a target DISP21 words away, and also to the next instruction unless the condition is AL. -/
  | branch (disp : Int) (always : Bool)
  | jr
  /-- CALL or CALLR: the direct target, if any. It takes a whole bundle. -/
  | call (target : Option Nat)
  | ret
  deriving DecidableEq, Repr

/-- A word decoded: a legal instruction with its flow, or the cause of R212 that makes it illegal. -/
abbrev Dec := Except Nat Flow

/-- Fields that must be 0 (R183, cause 2). -/
def unused (fs : List Nat) (r : Dec) : Dec := if fs.all (· == 0) then r else .error 2

/-- The destination must not be G1 to G15 (R175, cause 5). -/
def dest (rd : Nat) (r : Dec) : Dec := if 0 < rd && rd < 16 then .error 5 else r

def plainFlow : Dec := .ok (.plain false false)

/-- LAOP by FN (R189). -/
def decLaop (rd ra rb fn : Nat) : Dec :=
  if fn ≤ 2 then unused [rd, ra, rb] plainFlow
  else if fn = 3 then unused [rd, ra, rb] (.ok (.plain true false))
  else if fn ≤ 7 then unused [rd, ra, rb] (.ok (.plain false true))
  else if fn = 8 then unused [ra, rb] (dest rd plainFlow)
  else if fn = 9 then unused [rd, rb] plainFlow
  else if fn = 10 then unused [rd] plainFlow
  else if fn = 11 then dest rd plainFlow
  else if fn = 12 then unused [rd, ra, rb / 16] plainFlow
  else .error 1

/-- ALU by FN (R190). -/
def decAlu (rd rb fn : Nat) : Dec :=
  if fn = 4 then unused [rd] plainFlow
  else if fn ≤ 0x0C || (0x10 ≤ fn && fn ≤ 0x13) || (0x18 ≤ fn && fn ≤ 0x1B) || (0x20 ≤ fn && fn ≤ 0x23) || fn = 0x28 then
    dest rd plainFlow
  else if fn = 0x24 || fn = 0x25 then unused [rb] (dest rd plainFlow)
  else .error 1

/-- FPU by FN (R194). -/
def decFpu (rd rb fn : Nat) : Dec :=
  if fn = 6 then unused [rd] plainFlow
  else if fn ≤ 5 then dest rd plainFlow
  else if fn ≤ 0x0C then unused [rb] (dest rd plainFlow)
  else .error 1

/-- A word with the word after it (a CALL's second word), decoded by the opcode map (R184). -/
def decodeMelax (w w1 : Nat) : Dec :=
  let op := w / 2 ^ 25
  let rd := w / 2 ^ 20 % 32
  let ra := w / 2 ^ 15 % 32
  let rb := w / 2 ^ 10 % 32
  let fn := w % 1024
  let imm := w % 2 ^ 15
  let disp := signed 21 (w % 2 ^ 21)
  if op = 0x01 then unused [w % 2 ^ 25] plainFlow
  else if op = 0x02 then decLaop rd ra rb fn
  else if op = 0x03 then (if fn = 1 then unused [rd, ra, rb] plainFlow else .error 1)
  else if op = 0x1E || op = 0x1F then .ok (.plain true false)
  else if 0x10 ≤ op && op ≤ 0x1D then plainFlow
  else if op = 0x20 then decAlu rd rb fn
  else if 0x21 ≤ op && op ≤ 0x24 then dest rd plainFlow
  else if op = 0x25 then unused [rd] plainFlow
  else if op = 0x26 then (if 4 ≤ imm / 2 ^ 12 then .error 1 else unused [imm / 32 % 128] (dest rd plainFlow))
  else if op = 0x27 || op = 0x28 || (0x2A ≤ op && op ≤ 0x2D) then dest rd plainFlow
  else if op = 0x29 || op = 0x2E || op = 0x2F then plainFlow
  else if op = 0x30 then decFpu rd rb fn
  else if op = 0x40 then .ok (.branch disp (w / 2 ^ 21 % 16 = 0))
  else if op = 0x41 || op = 0x42 then unused [w / 2 ^ 21 % 16] (.ok (.branch disp false))
  else if op = 0x43 then unused [rd, rb, fn] (.ok .jr)
  else if op = 0x44 then unused [w / 2 ^ 22 % 8, w1 % 65536] (.ok (.call (some (w % 2 ^ 22 * 4))))
  else if op = 0x45 then unused [w % 2 ^ 20, w1 % 65536] (.ok (.call none))
  else if op = 0x46 then unused [w % 2 ^ 25] (.ok .ret)
  else if 0x50 ≤ op && op ≤ 0x52 then unused [rd] plainFlow
  else if op = 0x54 then dest rd plainFlow
  else .error 1

/-- ILLEGAL_INSTR (R183, R212): the fetched word is no legal encoding, and executing it faults the task with the cause. A
word that is a legal encoding is not this event: nothing happens (log entry 13). -/
def execIllegalInstr (x : At) (w : BitVec 32) (s : State) : Out :=
  match s.env? x.core with
  | none => .next s
  | some e =>
    match decodeMelax w.toNat (ofBytes (s.bytes (e.ctx.pc.toNat + 4) 4)) with
    | .ok _ => .next s
    | .error cause => .next (s.instr x 1 fun e => .flt (.illegal cause) e.s)

/-! ### The code checks of R213 -/

/-- The instruction at an address of a code block: its flow, or none when the address lies outside the block. -/
def Block.at? (b : Block) (a : Nat) : Option Dec :=
  if b.base ≤ a && a + 4 ≤ b.base + b.data.length then
    let o := a - b.base
    some (decodeMelax (ofBytes ((b.data.drop o).take 4)) (ofBytes ((b.data.drop (o + 4)).take 4)))
  else none

/-- Encoding, globals, bundles and branches, word by word from an address; fuel bounds the words. -/
def Block.words (b : Block) (entries : List Nat) : Nat → Nat → Bool
  | 0, _ => true
  | k + 1, a =>
    match b.at? a with
    | none => true
    | some (.error _) => false
    | some (.ok (.call t)) =>
      a % 8 = 0 && a + 8 ≤ b.base + b.data.length &&
        (match t with
         | some t => entries.contains t
         | none => true) && b.words entries k (a + 8)
    | some (.ok (.branch d _)) =>
      let t := (a : Int) + 4 * d
      (b.base : Int) ≤ t && t + 4 ≤ (b.base + b.data.length : Nat) && t % 4 = 0 && b.words entries k (a + 4)
    | some (.ok _) => b.words entries k (a + 4)

/-- What a walk over a block has found: the LA stack depth at each address reached, and the direct calls made with the
slots of their frames. -/
structure Walk where
  depth : List (Nat × Nat)
  calls : List (Nat × Nat)

/-- The walk over every path from the addresses to visit, with the LA stack depth at each; none when a depth differs
between two paths or leaves 0 to 16 (R213). A path that leaves the block ends there: R213 asks nothing of it. Fuel bounds the
visits. -/
def Block.walk (b : Block) : Nat → List (Nat × Nat) → Walk → Option Walk
  | 0, _, _ => none
  | _ + 1, [], w => some w
  | k + 1, (a, d) :: rest, w =>
    match w.depth.find? fun p => p.1 == a with
    | some (_, d') => if d' = d then b.walk k rest w else none
    | none =>
      let w' := { w with depth := (a, d) :: w.depth }
      match b.at? a with
      | some (.ok (.plain push pop)) =>
        if (push && d = 16) || (pop && d = 0) then none
        else b.walk k ((a + 4, if push then d + 1 else if pop then d - 1 else d) :: rest) w'
      | some (.ok (.branch disp always)) =>
        let t := ((a : Int) + 4 * disp).toNat
        b.walk k (if always then (t, d) :: rest else (t, d) :: (a + 4, d) :: rest) w'
      | some (.ok .jr) => b.walk k rest w'
      | some (.ok (.call t)) =>
        let mask := ofBytes ((b.data.drop (a + 6 - b.base)).take 2)
        let w' := match t with
          | some t => { w' with calls := (t, 2 + (maskRegs mask).length) :: w'.calls }
          | none => w'
        b.walk k ((a + 8, d) :: rest) w'
      | some (.ok .ret) | none => b.walk k rest w'
      | some (.error _) => none

/-- The code block that holds an address. -/
def Program.blockOf (p : Program) (a : Nat) : Option Block :=
  p.blocks.find? fun b => b.kind == 1 && decide (b.base ≤ a) && decide (a < b.base + b.data.length)

/-- The walk from an entry. -/
def Program.walkFrom (p : Program) (a : Nat) : Option Walk :=
  match p.blockOf a with
  | none => none
  | some b => b.walk (b.data.length + 2) [(a, 0)] ⟨[], []⟩

/-- The most slots of frames on a path of direct calls from an entry; none when the calls have a cycle or an entry fails
its walk. Fuel bounds the length of a path. -/
def Program.slots (p : Program) : Nat → Nat → Option Nat
  | 0, _ => none
  | k + 1, a =>
    match p.walkFrom a with
    | none => none
    | some w => w.calls.foldl (fun m c =>
        match m, p.slots k c.1 with
        | some m, some n => some (max m (c.2 + n))
        | _, _ => none) (some 0)

/-- Every function entry of the program. -/
def Program.entries (p : Program) : List Nat := p.blocks.flatMap fun b => b.entries

/-- The addresses where paths of a code block begin: its function entries and the entries of tasks in it. -/
def Program.starts (p : Program) (b : Block) : List Nat :=
  b.entries ++ (p.tasks.map fun t => t.entry.toNat).filter fun a => b.base ≤ a && a < b.base + b.data.length

/-- A code block passes the checks of R213 that concern it alone: one walk covers the paths from all its entries, each at depth 0,
so that an address has one depth on all of them. -/
def Program.codeOk (p : Program) (b : Block) : Bool :=
  b.words p.entries (b.data.length / 4) b.base &&
    (b.walk (b.data.length + (p.starts b).length + 2) ((p.starts b).map fun a => (a, 0)) ⟨[], []⟩).isSome &&
    b.entries.all fun a => a % 8 = 0 && (p.slots (p.entries.length + 1) a).isSome

/-- A task's entry and its deepest direct call path (R206, R213): 192 slots of the window file for an M or D task and 64
for a B task, and 2048 of the spill area. An entry outside every code block has no call path. -/
def Program.taskCodeOk (p : Program) (t : TaskEntry) : Bool :=
  let a := t.entry.toNat
  let size := if bitsOf t.cfg1 5 4 = 2 then 64 else 192
  a % 8 = 0 && ((p.blockOf a).isNone || match p.slots (p.entries.length + 1) a with
    | some n => decide (n ≤ size + 2048)
    | none => false)

end Sys2Proof.Machine
end

