-- ==== Sys2Proof/Machine/Program.lean ====
section
/-!
DEFINITION. Machine/Program.lean: the canonical form of the program (04 R581), its signature (R161), the checks of its form
(R581, R134, R162), what loading it does, and what a restart initialises of memory (02 R79).
-/

namespace Sys2Proof.Machine

/-! ### The canonical form -/

/-- Blocks in ascending number. -/
def insertBlock (b : Block) : List Block → List Block
  | [] => [b]
  | c :: t => if c.no < b.no then c :: insertBlock b t else if c.no = b.no then b :: t else b :: c :: t

/-- Task entries in ascending number. -/
def insertTask (e : TaskEntry) : List TaskEntry → List TaskEntry
  | [] => [e]
  | c :: t => if c.task < e.task then c :: insertTask e t else if c.task = e.task then e :: t else e :: c :: t

/-- A block's 16-byte entry (R581). -/
def Block.entry (b : Block) : List Byte :=
  toBytes 2 b.no ++ toBytes 1 b.kind ++ toBytes 1 0 ++ toBytes 4 b.data.length ++ toBytes 4 b.base ++
    toBytes 4 b.entries.length

/-- A task's 32-byte entry (R581). -/
def TaskEntry.bytes (t : TaskEntry) : List Byte :=
  toBytes 1 t.task ++ toBytes 1 t.enabled.toNat ++ toBytes 2 0 ++ toBytes 4 t.cfg0.toNat ++ toBytes 4 t.cfg1.toNat ++
    toBytes 4 t.entry.toNat ++ toBytes 4 t.cost.toNat ++ toBytes 12 0

/-- The program's bytes in canonical form (R581). -/
def Program.bytes (p : Program) : List Byte :=
  toBytes 4 p.blocks.length ++ toBytes 4 p.entries.length ++ toBytes 4 p.tasks.length ++ toBytes 4 0 ++
    p.blocks.flatMap Block.entry ++ p.entries.flatMap (toBytes 4) ++ p.tasks.flatMap TaskEntry.bytes ++
    p.blocks.flatMap fun b => b.data

/-- The program signature (R161): 256 bits of SHAKE256. -/
def Program.signature (p : Program) : List Byte := Config.shake256 p.bytes 32

/-- A 32-byte task entry; none when a reserved byte is not 0, the task number is above 63 or the enable byte is neither 0
nor 1 (R581). -/
def parseTask (b : List Byte) : Option TaskEntry :=
  let w (o n : Nat) := ofBytes ((b.drop o).take n)
  if b.length = 32 && w 2 2 = 0 && w 20 12 = 0 && w 0 1 < 64 && w 1 1 < 2 then
    some ⟨w 0 1, w 1 1 = 1, BitVec.ofNat 32 (w 4 4), BitVec.ofNat 32 (w 8 4), BitVec.ofNat 32 (w 12 4),
      BitVec.ofNat 32 (w 16 4)⟩
  else none

/-- A block's entry: number, kind, length, base and function entries; none when its reserved byte is not 0 (R581). -/
def parseEntry (b : List Byte) : Option (Block × Nat × Nat) :=
  let w (o n : Nat) := ofBytes ((b.drop o).take n)
  if b.length = 16 && w 3 1 = 0 then some (⟨w 0 2, w 2 1, w 8 4, [], []⟩, w 4 4, w 12 4) else none

/-- The first n pieces of k bytes, read by f. -/
def pieces {α : Type} (k : Nat) (f : List Byte → Option α) : Nat → List Byte → Option (List α)
  | 0, _ => some []
  | n + 1, b =>
    match f (b.take k), pieces k f n (b.drop k) with
    | some x, some xs => some (x :: xs)
    | _, _ => none

/-- Blocks from their entries, with the function entries and contents taken in order; none unless both are used up. -/
def fillBlocks : List (Block × Nat × Nat) → List Nat → List Byte → Option (List Block)
  | [], [], [] => some []
  | [], _, _ => none
  | (b, len, nf) :: t, fs, d =>
    if fs.length < nf || d.length < len then none
    else
      match fillBlocks t (fs.drop nf) (d.drop len) with
      | some bs => some ({ b with entries := fs.take nf, data := d.take len } :: bs)
      | none => none

/-- The program that bytes spell in canonical form, or none (R581). -/
def parseProgram (b : List Byte) : Option Program :=
  let w (o : Nat) := ofBytes ((b.drop o).take 4)
  let n := w 0
  let f := w 4
  let t := w 8
  if b.length < 16 || w 12 ≠ 0 || 64 < t || b.length < 16 + 16 * n + 4 * f + 32 * t then none
  else
    match pieces 16 parseEntry n (b.drop 16), pieces 4 (fun x => some (ofBytes x)) f (b.drop (16 + 16 * n)),
        pieces 32 parseTask t (b.drop (16 + 16 * n + 4 * f)) with
    | some es, some fs, some ts =>
      match fillBlocks es fs (b.drop (16 + 16 * n + 4 * f + 32 * t)) with
      | some bs => some ⟨bs, ts⟩
      | none => none
    | _, _, _ => none

/-- The numbers rise strictly. -/
def rising : List Nat → Bool
  | a :: b :: t => decide (a < b) && rising (b :: t)
  | _ => true

/-- The program retain range (10 R379). -/
def retainBase : Nat := 0x02000000
def retainEnd : Nat := 0x027C0000

/-- The bytes from a up to e lie in a range where initial values may stand: the instance-data ranges of 05 R179 or the
program retain range (R581). -/
def dataRange (a e : Nat) : Bool :=
  (0x01090000 ≤ a && e ≤ 0x01100000) || (0x01200000 ≤ a && e ≤ 0x02000000) || (retainBase ≤ a && e ≤ retainEnd)

/-- The loop configuration's length: 256 entries of 240 bytes (R581). -/
def loopEntries : Nat := 256 * 240

/-- A block lies where R581 lets its kind lie. -/
def Block.placed (b : Block) : Bool :=
  let e := b.base + b.data.length
  b.data.length % 4 = 0 &&
    (if b.no = 0 then b.kind = 2 && b.data.length = 60 && b.base = 0 && b.entries.isEmpty
     else b.no < 4096 &&
       (match b.kind with
        | 1 => decide (e ≤ 0x01000000) && rising b.entries &&
            b.entries.all fun a => a % 8 = 0 && b.base ≤ a && a < e
        | 2 => dataRange b.base e && b.entries.isEmpty
        | 5 => b.base = 0 && b.entries.isEmpty && loopEntries ≤ b.data.length
        | _ => false))

/-- Two blocks share an address; block 0 and the loop block have none. -/
def Block.overlaps (a b : Block) : Bool :=
  let real (x : Block) : Bool := x.no ≠ 0 && x.kind ≠ 5
  real a && real b && decide (a.base < b.base + b.data.length) && decide (b.base < a.base + a.data.length)

/-- No two blocks of a list overlap. -/
def disjointBlocks : List Block → Bool
  | [] => true
  | b :: t => t.all (fun c => !b.overlaps c) && disjointBlocks t

/-- The program keeps the form of R581. -/
def Program.formOk (p : Program) : Bool :=
  rising (p.blocks.map fun b => b.no) && rising (p.tasks.map fun t => t.task) && decide (p.tasks.length ≤ 64) &&
    (p.blocks.head?.map fun b => b.no) = some 0 && p.blocks.all Block.placed && disjointBlocks p.blocks &&
    decide ((p.blocks.filter fun b => b.kind == 5).length ≤ 1)

/-- A task entry's configuration is one that R134 does not refuse. -/
def taskCfgOk (cfg0 cfg1 : Word) : Bool :=
  bitsOf cfg0 31 16 ≠ 0 && bitsOf cfg0 15 0 < bitsOf cfg0 31 16 && bitsOf cfg1 5 4 ≠ 3 && bitsOf cfg1 13 12 < 2 &&
    bitsOf cfg1 17 16 ≠ 3

/-- A task entry passes R134 and the event-source rule of R162: an event-triggered task's source delivers to port 2. -/
def State.taskEntryOk (s : State) (t : TaskEntry) : Bool :=
  taskCfgOk t.cfg0 t.cfg1 &&
    (bitsOf t.cfg1 13 12 ≠ 1 || s.rd (R.EVT_SRCCFG_TARGET.off (4 * bitsOf t.cfg1 31 24)) = 2)

/-- The blocks of a kind. -/
def Program.ofKind (p : Program) (k : Nat) : List Block := p.blocks.filter fun b => b.kind == k

/-- The loop block's bytes: all 0 without one. -/
def Program.loopData (p : Program) : List Byte :=
  match p.ofKind 5 with
  | b :: _ => b.data
  | [] => []

/-! ### Loading -/

/-- Removes the bytes from lo up to hi: they read 0. -/
def State.clearBytes (s : State) (lo hi : Nat) : State :=
  { s with mem := s.mem.filter fun c => c.1 < lo || hi ≤ c.1 }

/-- A task's registers hold an entry's values (R581), their reserved bits 0. -/
def State.setTask (s : State) (t : TaskEntry) : State :=
  let s := s.setReg (R.EXEC_TCFG0 + 0x10 * t.task) t.cfg0
  let s := s.setReg (R.EXEC_TCFG1 + 0x10 * t.task) (t.cfg1 &&& 0xFF033330)
  let s := s.setReg (R.EXEC_TENTRY + 0x10 * t.task) t.entry
  let s := s.setReg (R.COX_TCOST + 8 * t.task) (t.cost &&& 0xFFFFFF)
  s.wrb ⟨R.EXEC_TEN0 + 4 * (t.task / 32), t.task % 32, t.task % 32⟩ t.enabled

/-- Eight consecutive registers hold a 256-bit value, word 0 least significant. -/
def State.setSig (s : State) (a : Nat) (b : List Byte) : State :=
  (List.range 8).foldl (fun s i => s.setReg (a + 4 * i) (BitVec.ofNat 32 (ofBytes ((b.drop (4 * i)).take 4)))) s

/-- The 256-bit value of eight consecutive registers. -/
def State.getSig (s : State) (a : Nat) : List Byte :=
  (List.range 8).flatMap fun i => toBytes 4 (s.reg (a + 4 * i)).toNat

/-- A program becomes the program in force: its code blocks stand in the program area, every other word of which reads 0
(05 R178), each task has its entry or the reset values (R581), and EDIT_PROGSIG shows the signature (R161). -/
def State.loadProgram (s : State) (p : Program) : State :=
  let s := s.clearBytes 0 0x01000000
  let s := (p.ofKind 1).foldl (fun s b => s.setBytes b.base b.data) s
  let s := (List.range 64).foldl (fun s t => s.setTask ⟨t, false, BitVec.ofNat 32 0x10000, 0, 0, 0⟩) s
  let s := p.tasks.foldl State.setTask s
  { s.setSig R.EDIT_PROGSIG0 p.signature with prog := some p }

/-- The words G1 to G15 of the global table, on every core (05 R175). -/
def State.loadGlobals (s : State) : State :=
  match s.prog with
  | none => s
  | some p =>
    let d := ((p.blocks.find? fun b => b.no == 0).map fun b => b.data).getD []
    let g := (List.range 15).foldl (fun g i =>
      SMap.set (fun _ => 0) (i + 1) (BitVec.ofNat 32 (ofBytes ((d.drop (4 * i)).take 4))) g) []
    (List.range 5).foldl (fun s c => s.setCore c { s.core c with g := g }) s

/-- The data blocks of the program that lie from lo up to hi are written. -/
def State.initData (s : State) (lo hi : Nat) : State :=
  match s.prog with
  | none => s
  | some p => (p.ofKind 2).foldl (fun s b =>
      if b.no ≠ 0 && lo ≤ b.base && b.base < hi then s.setBytes b.base b.data else s) s

/-- What a restart makes of memory (02 R79): the data area 0 but for declared initial values, with the I, Q and M areas
clear; on a cold restart the program retain range likewise. Every word it writes is clean (10 R370). -/
def State.restartMemory (s : State) (cold : Bool) : State :=
  let s := (s.clearBytes 0x01000000 0x02000000).initData 0x01000000 0x02000000
  let s := if cold then (s.clearBytes retainBase retainEnd).initData retainBase retainEnd else s
  { s with
    exec := { s.exec with qWork := [], outImage := [], imaged := false, shared := [] },
    memory := { s.memory with poison := s.memory.poison.filter fun w =>
      w * 32 < 0x01000000 || (0x02000000 ≤ w * 32 && (!cold || retainEnd ≤ w * 32)) } }

end Sys2Proof.Machine
end

