-- ==== Sys2Proof/Machine/Cox.lean ====
section
/-!
DEFINITION. Machine/Cox.lean: the energy account, the heat limit, releases and the admission of executions (06 R233 to R244,
04 R128 to R132, R138, R139), and the power states (06 R219 to R232).
-/

namespace Sys2Proof.Machine

/-! ### Power states (R219) -/

/-- The core clock of a power state in MHz. -/
def clockMHz : Nat → Nat
  | 0 => 1000 | 1 => 500 | _ => 250

/-- The admission charge per core clock of a power state in pJ. -/
def epcOf : Nat → Nat
  | 0 => 1000 | 1 => 600 | _ => 400

/-- The base-load estimate at entry to a power state in mW. -/
def pbaseOf : Nat → Nat
  | 0 => 11000 | 1 => 9800 | _ => 7400

/-- The power state in force. -/
def State.pstate (s : State) : Nat := s.rd R.PWR_STAT_STATE

/-- The time from the stroke start to input complete in ps (01 R17, R20): reference window, static slots, settle time; in the
SV2210 mode the cycle window and that mode's slots (08 R324, R325). -/
def State.inputCompletePs (s : State) : Nat :=
  let n := s.rd R.FBC_SEGCFG_NO.live + s.rd R.FBC_SEGCFG_NT.live + s.rd R.FBC_SEGCFG_NI.live
  let bytes := s.rd R.FBC_PAYLOAD_BYTES.live
  let slots := if s.rd R.FBC_CFG_MODE.live = 1 then 20000000 + n * (12000000 + 80000 * bytes)
    else 2000000 + n * (1200000 + 8000 * bytes)
  slots + 8000 * s.rd R.FBC_SETTLE_TICKS.live

/-- The time from the stroke start to the output cutoff in ps (01 R21). -/
def State.cutoffPs (s : State) : Int :=
  1000000 * ((s.rd R.FBC_STROKECFG_LEN.live : Int) - s.rd R.FBC_CUTOFF_US.live)

/-- The loop engine time of a largest lane load, in ps (07 R248). -/
def loopPs (lane : Nat) : Nat := 156250 * lane

/-- COX_WINDOW: the core clocks from task start to output cutoff (R238); tasks start 1.0 us after loop completion. -/
def State.showWindow (s : State) : State :=
  let ps := s.cutoffPs - s.inputCompletePs - loopPs (s.rd R.LOOP_STAT_LANEMAX.live) - 1000000
  s.wr R.COX_WINDOW_W (ps.toNat * clockMHz s.pstate / 1000000)

/-! ### The energy account -/

/-- COX_ELEVEL in nJ. -/
def State.elevel (s : State) : Int := s.rdInt R.COX_ELEVEL_NJ

/-- BUDGET_LOW, once per crossing (R235). -/
def State.checkLow (s : State) : State :=
  if s.elevel < s.rdInt R.COX_ELOW_NJ.live then
    if s.cox.low then s
    else { s with cox := { s.cox with low := true } }.raise Ev.coxBudgetLow (s.rd R.COX_ELEVEL_NJ)
  else { s with cox := { s.cox with low := false } }

/-- COX_ELEVEL changes and saturates (R233), and may fall below COX_ELOW. -/
def State.addElevel (s : State) (d : Int) : State := (s.wrInt R.COX_ELEVEL_NJ (s.elevel + d)).checkLow

/-- The charge of an execution of task t in nJ (R233). -/
def State.charge (s : State) (t : Nat) : Nat := s.rd (R.COX_TCOST_CLOCKS.off (8 * t)) * s.rd R.COX_EPC_PJ / 1000

/-- A charge is made. -/
def State.chargeNj (s : State) (n : Nat) : State :=
  { s.addElevel (-(n : Int)) with cox := { s.cox with etNow := s.cox.etNow + n } }

/-- Cox at a stroke start (R233, R235): the settings written take effect, the account is credited and limited, and the clocks that
B executions ran in the stroke that has ended wait for their charge. -/
def State.coxStroke (s : State) : State :=
  let s := [R.COX_CTL, R.COX_PCAP, R.COX_EDEPTH, R.COX_EFLOOR, R.COX_ELOW, R.COX_HEAT].foldl
    (fun s a => s.setReg (a + 0x6000000) (s.reg a)) s
  let credit := ((s.rd R.COX_PCAP_MW.live : Int) - s.rd R.COX_PBASE_MW) * s.rd R.EXEC_STROKELEN_LEN
  let s := s.wrInt R.COX_ELEVEL_NJ (min (s.elevel + credit) (1000 * s.rd R.COX_EDEPTH_UJ.live))
  let ran := s.cox.bRan ++ ((List.range 5).map fun c => (s.core c).bClocks).filter (0 < ·)
  let s := (List.range 5).foldl (fun s c => s.setCore c { s.core c with bClocks := 0 }) s
  { s with cox := { s.cox with dNow := s.cox.dNow + 1, bRan := [], bLast := ran } }.checkLow

/-- A telemetry sweep is complete with the energy metered since the previous one, in nJ (R234, R236): the first after a
restart opens a span, a later one extends it. -/
def State.coxSweep (s : State) (nj : Nat) (tj : Int) : State :=
  let c := s.cox
  if c.opened then
    { s with cox := { c with tj := tj, em := c.em + nj, et := c.et + c.etNow, d := c.d + c.dNow, etNow := 0, dNow := 0,
                             swept := true } }
  else { s with cox := { c with tj := tj, em := 0, et := 0, d := 0, etNow := 0, dNow := 0, opened := true, swept := false } }

/-- The correction at the first admission after a sweep (R234). With no stroke started in the span the quotient has no
stated value, and COX_PBASE takes a free one (log entry 16). -/
def State.coxCorrect (s : State) : State :=
  if !s.cox.swept then s
  else
    let c := s.cox
    let ld := s.rd R.EXEC_STROKELEN_LEN * c.d
    let s := s.addElevel ((c.et : Int) + s.rd R.COX_PBASE_MW * ld - c.em)
    let s := if ld = 0 then (s.wr R.COX_PBASE_MW s.free.toNat).used
      else s.wr R.COX_PBASE_MW (min ((c.em - c.et) / ld) 0xFFFF)
    { s with cox := { c with em := 0, et := 0, d := 0, swept := false } }

/-- The account at a restart (R236). -/
def State.coxRestart (s : State) : State :=
  let s := s.wrInt R.COX_ELEVEL_NJ (1000 * s.rd R.COX_EDEPTH_UJ.live)
  let s := s.wr R.COX_PBASE_MW (pbaseOf s.pstate)
  let s := (List.range 64).foldl (fun s t => s.setReg (R.COX_TDEF + 8 * t) 0) s
  { s with cox := { s.cox with em := 0, et := 0, d := 0, etNow := 0, dNow := 0, opened := false, swept := false } }

/-- COX_HEAT.HOLD at an admission (R237). -/
def State.heatHold (s : State) : State :=
  let hot := (s.rd R.COX_HEAT_THOT.live : Int)
  let data := unsigned 8 (min (max s.cox.tj (-128)) 127)
  if s.on R.COX_HEAT_HOLD then
    if s.cox.tj ≤ hot - s.rd R.COX_HEAT_THYST.live then (s.wr R.COX_HEAT_HOLD 0).raise Ev.coxHeatClear data else s
  else if hot ≤ s.cox.tj then (s.wr R.COX_HEAT_HOLD 1).raise Ev.coxHeatHold data
  else s

/-! ### Releases (04 R128, R129, R132) -/

/-- The physical cores' executions. -/
def State.runs (s : State) : List Run :=
  s.exec.cores.flatMap fun p => p.2.fgRun.toList ++ p.2.bgRun.toList

/-- An execution of the task is running, admitted or waiting. -/
def State.busy (s : State) (t : Nat) : Bool :=
  s.runs.any (fun r => r.task = t) || s.exec.admitted.any (fun a => a.task = t) || s.exec.waiting.any fun w => w.task = t

/-- The task is released at the admission of the present stroke; in TRACK port 2 holds what the active unit's port 2 holds (03
R122). -/
def State.released (s : State) (t : Nat) : Bool :=
  s.taskEnabled t && !s.exec.disabled.contains t &&
    (if s.rd (taskFld R.EXEC_TCFG1_TRIGGER t) = 1 then
       let src := s.rd (taskFld R.EXEC_TCFG1_EVSRC t)
       if s.mode = 4 then s.evt.follow.any fun e => e.source = src
       else s.rd (R.EVT_SRCCFG_TARGET.off (4 * src)) = 2 && !(s.queue src).isEmpty
     else s.extStroke % s.rd (taskFld R.EXEC_TCFG0_PERIOD t) = s.rd (taskFld R.EXEC_TCFG0_PHASE t))

/-- The releases of the stroke: each makes an execution wait, or merges into one that is busy. -/
def State.release (s : State) : State :=
  (List.range 64).foldl (fun s t =>
    if s.released t then
      if s.busy t then s.inc (taskFld R.EXEC_TSTAT_SKIPPED t)
      else { s with exec := { s.exec with waiting := s.exec.waiting ++ [⟨t, s.extStroke, 0, none⟩] } }
    else s) s

/-! ### What becomes visible at an admission -/

/-- A write becomes visible to all, the loop engine's next view included. -/
def State.showByte (s : State) (c : Host.Cell) : State :=
  { s.setByte c.1 c.2 with exec := { s.exec with hidden := s.exec.hidden.filter fun h => h.1 != c.1 } }

/-- A logical core's write becomes visible to all; one that an execution still running has made to the M area stays hidden from
the loop engine (07 R252). -/
def State.publishOne (s : State) (c : SharedWrite) : State :=
  let running := c.owner.filter fun t => s.exec.cores.any fun p => p.2.fgRun.any fun r => r.task == t
  match running with
  | some t =>
    let old := s.exec.hidden
    let new := if areaOf c.addr ≠ .marks || old.any (fun h => h.1 == c.addr) then old else old ++ [(c.addr, s.byte c.addr, t)]
    { s.setByte c.addr c.val with exec := { s.exec with hidden := new } }
  | none => s.showByte (c.addr, c.val)

/-- The loop engine's writes (07 R254), then the unpublished writes of the logical cores, in ascending core and program order,
become visible to all (04 R138). -/
def State.publishProgram (s : State) : State :=
  let s := s.exec.engineWrites.foldl State.showByte s
  let s := (List.range 8).foldl (fun s l =>
    (SMap.get (fun _ => []) s.exec.shared l).reverse.foldl State.publishOne s) s
  { s with exec := { s.exec with shared := [], engineWrites := [] } }

/-- The program's writes and then the host's become visible to all (04 R138, R139). -/
def State.publish (s : State) : State :=
  let s := s.publishProgram
  let s := s.exec.hostWrites.foldl State.showByte s
  { s with exec := { s.exec with hostWrites := [], wrote := noteWrote (s.exec.hostWrites.map Prod.fst) s.exec.wrote } }

/-! ### Admission (R238) -/

/-- Reason codes of deferral (06 "COX page"). -/
def Defer.code : Defer → Nat
  | .energy => 1 | .heat => 2 | .time => 3 | .power => 4

/-- The bit of a reason in a reason mask. -/
def Defer.bit (r : Defer) : Nat := 2 ^ (r.code - 1)

/-- An execution is admitted in the present stroke; one that was deferred is counted and raises ADMITTED_LATE (R239). -/
def State.admitOne (s : State) (w : Waiting) : State :=
  let a : Admitted := ⟨w.task, s.extStroke, s.taskCore w.task, s.taskClass w.task, s.exec.qWork, false⟩
  let s := { s with exec := { s.exec with
    admitted := s.exec.admitted ++ [a], waiting := s.exec.waiting.filter fun x => x.task ≠ w.task } }
  let s := s.inc R.COX_STAT_ADMITNOW
  if w.deferred = 0 then s
  else (s.raise Ev.coxAdmittedLate (min w.deferred 0xFFFF * 0x10000 + w.task)).inc (taskFld R.EXEC_TSTAT_DEFERRED w.task)

/-- An execution is deferred in the present stroke (R239). -/
def State.defer (s : State) (w : Waiting) (r : Defer) : State :=
  let s := { s with exec := { s.exec with waiting := s.exec.waiting.map fun (x : Waiting) =>
    if x.task = w.task then { x with deferred := x.deferred + 1, reason := some r } else x } }
  let s := s.inc (R.COX_TDEF_DEFSTROKES.off (8 * w.task))
  let s := s.wr (R.COX_TDEF_LASTREASON.off (8 * w.task)) r.code
  let s := s.inc R.COX_STAT_DEFNOW
  let s := s.wr R.COX_STAT_REASONS (s.rd R.COX_STAT_REASONS ||| r.bit)
  if w.reason = some r then s else s.raise Ev.coxDeferOnset (r.code * 0x100 + w.task)

/-- The clocks an execution of task t takes of its core's window. -/
def State.need (s : State) (t : Nat) : Nat := s.rd (R.COX_TCOST_CLOCKS.off (8 * t)) + 4

/-- Adds to the clocks used on a core. -/
def addUsed (used : List Nat) (c n : Nat) : List Nat := used.set c (used.getD c 0 + n)

/-- The waiting executions of a class. -/
def State.waitingOf (s : State) (k : TaskClass) : List Waiting :=
  s.exec.waiting.filter fun w => s.taskClass w.task = k

/-- Waiting executions in ascending task number. -/
def insertWaiting (w : Waiting) : List Waiting → List Waiting
  | [] => [w]
  | x :: t => if x.task < w.task then x :: insertWaiting w t else w :: x :: t

def sortWaiting : List Waiting → List Waiting
  | [] => []
  | w :: t => insertWaiting w (sortWaiting t)

/-- M executions: all admitted, in ascending task number. -/
def State.admitM (s : State) : State × List Nat :=
  (sortWaiting (s.waitingOf .m)).foldl (fun su w =>
    ((su.1.admitOne w).chargeNj (su.1.charge w.task),
     addUsed su.2 (su.1.taskCore w.task) (su.1.need w.task))) (s, [0, 0, 0, 0])

/-- M_OVERCOMMIT for each core whose M executions exceed W; the stroke is counted once. -/
def State.overcommit (s : State) (used : List Nat) : State :=
  let w := s.rd R.COX_WINDOW_W
  let tooLong := (List.range 4).filter fun c => w < used.getD c 0
  let s := tooLong.foldl (fun s c =>
    s.raise Ev.coxMOvercommit (c * 0x1000000 + min (used.getD c 0 - w) 0xFFFFFF)) s
  if tooLong.isEmpty then s else s.inc R.COX_MOVERCNT_COUNT

/-- One waiting D execution. -/
def State.decideD (su : State × List Nat) (w : Waiting) : State × List Nat :=
  let s := su.1
  let c := s.taskCore w.task
  if s.pstate = 2 && c ≠ 0 then (s.defer w .power, su.2)
  else if s.on R.COX_HEAT_HOLD then (s.defer w .heat, su.2)
  else if s.rd R.COX_WINDOW_W < su.2.getD c 0 + s.need w.task then (s.defer w .time, su.2)
  else if s.on R.COX_CTL_BEN.live && s.elevel - s.charge w.task < s.rdInt R.COX_EFLOOR_NJ.live then
    (s.defer w .energy, su.2)
  else ((s.admitOne w).chargeNj (s.charge w.task), addUsed su.2 c (s.need w.task))

/-- Why B is held on a core, as a reason mask (0: allowed). -/
def State.holdReason (s : State) (c : Nat) : Nat :=
  (if s.pstate = 2 && c ≠ 0 then 8 else 0) + (if s.on R.COX_HEAT_HOLD then 2 else 0) +
    (if s.on R.COX_CTL_BEN.live && s.elevel < s.rdInt R.COX_EFLOOR_NJ.live then 1 else 0)

/-- The cores of a mask hold B for the reasons of a mask, the others allow it; B_HELD on a change (R239). B executions
waiting on a core that allows B are admitted. -/
def State.holdB (s : State) (mask reasons : Nat) : State :=
  let changed := s.cox.held ≠ mask || s.cox.heldReasons ≠ reasons
  let s := { s with cox := { s.cox with held := mask, heldReasons := reasons } }
  let s := if changed then s.raise Ev.coxBHeld (reasons * 16 + mask) else s
  let s := s.wr R.COX_STAT_REASONS (s.rd R.COX_STAT_REASONS ||| reasons)
  let s := (List.range 4).foldl (fun s l =>
    let c := s.physOf l
    let k := s.core c
    s.setCore c { k with bgHeld := k.bgRun.isSome && mask.testBit l }) s
  (sortWaiting (s.waitingOf .b)).foldl (fun s w =>
    if mask.testBit (s.taskCore w.task) then s else s.admitOne w) s

/-- The B executions are charged for the core clocks they ran in the previous stroke, each truncated (R233). -/
def State.chargeB (s : State) : State :=
  let s := s.cox.bLast.foldl (fun s n => s.chargeNj (n * s.rd R.COX_EPC_PJ / 1000)) s
  { s with cox := { s.cox with bLast := [] } }

/-- A running B execution is suspended on a core that has admitted M or D executions (04 R131). -/
def State.suspendB (s : State) : State :=
  (List.range 4).foldl (fun s l =>
    let c := s.physOf l
    let k := s.core c
    if k.bgRun.isSome && s.fgWaiting l then s.setCore c { k with bgSusp := true } else s) s

/-- What every admission begins with: the writes become visible, the account is corrected, B is charged, the heat limit is
evaluated, the tasks are released. -/
def State.openAdmission (s : State) : State :=
  let s := s.publish.coxCorrect.chargeB.heatHold
  let s := ((s.wr R.COX_STAT_DEFNOW 0).wr R.COX_STAT_ADMITNOW 0).wr R.COX_STAT_REASONS 0
  s.release

/-- At an admission the accepted loop writes of B executions and of the host become due (07 R257). -/
def State.readyAtAdmission (s : State) : State :=
  { s with loop := { s.loop with writes := s.loop.writes.map fun (w : LoopWrite) =>
      if w.owner.isNone then { w with ready := true } else w } }

/-- What every admission ends with. -/
def State.closeAdmission (s : State) : State :=
  let s := s.suspendB.readyAtAdmission
  { s with exec := { s.exec with closed := false } }

/-- Cox's own admission (R238). -/
def State.admission (s : State) : State :=
  let s := s.openAdmission.wr R.COX_STAT_FOLLOW 0
  let (s, used) := s.admitM
  let s := s.overcommit used
  let s := ((s.waitingOf .d).foldl State.decideD (s, used)).1
  let rs := (List.range 4).map s.holdReason
  let mask := (List.range 4).foldl (fun m c => if rs.getD c 0 ≠ 0 then m + 2 ^ c else m) 0
  (s.holdB mask (rs.foldl (· ||| ·) 0)).closeAdmission

/-- The reason a code names. -/
def deferOf : Nat → Defer
  | 1 => .energy | 2 => .heat | 3 => .time | _ => .power

/-- The retired counts received become the limits of the B executions that run (05 R209). -/
def State.applyCounts (s : State) : State :=
  s.pair.counts.foldl (fun s p =>
    let c := s.physOf p.1
    let k := s.core c
    if k.bgRun.any (fun r => r.task = p.2.1) then s.setCore c { k with limit := p.2.2 } else s) s

/-- Retired counts are received (05 R209). -/
def State.noteCounts (s : State) (l : List (Nat × Nat × Nat)) : State :=
  { s with pair := { s.pair with
      counts := l ++ s.pair.counts.filter fun x => !l.any fun y => y.1 = x.1 && y.2.1 = x.2.1 } }

/-- STANDBY_SHORT: the unit's own account or heat would not have let the record's D or B work pass (R242). -/
def State.shortfall (s : State) (work : Bool) : State :=
  let mask := (if s.on R.COX_CTL_BEN.live && s.elevel < s.rdInt R.COX_EFLOOR_NJ.live then 1 else 0) +
    (if s.on R.COX_HEAT_HOLD then 2 else 0)
  if work && mask ≠ 0 then (s.raise Ev.coxStandbyShort mask).inc R.COX_SHORTCNT_COUNT else s

/-- The host's accepted loop writes that the active unit forwards with its admission record become due at that admission in the
standby too (07 R258). -/
def State.forwardedLoopWrites (s : State) (ws : List (Nat × Word)) : State :=
  ws.foldl (fun s w =>
    let s := if 0x30000 ≤ w.1 && w.1 < 0x40000 then s.setReg w.1 w.2 else s
    { s with loop := { s.loop with writes := s.loop.writes ++ [⟨w.1, w.2, none, none, false⟩] } }) s

/-- The standby applies an admission record (R241): the entries that port 2 delivers, the forwarded host writes, the executions
admitted and deferred and the cores holding B. It charges its own account, and reports a shortfall of its own (R242). -/
def State.applyRecord (s : State) (r : AdmRecord) : State :=
  let s := { s with
    evt := { s.evt with follow := r.port2, delivered := [] },
    exec := { s.exec with hostWrites := s.exec.hostWrites ++ r.hostWrites } }
  let s := s.forwardedLoopWrites r.loopWrites
  let s := s.openAdmission.wr R.COX_STAT_FOLLOW 1
  let s := r.admitted.foldl (fun s t =>
    let w := (s.exec.waiting.find? fun w => w.task = t).getD ⟨t, s.extStroke, 0, none⟩
    let s := s.admitOne w
    if s.taskClass t = TaskClass.b then s else s.chargeNj (s.charge t)) s
  let s := r.deferred.foldl (fun s p =>
    let s := if s.exec.waiting.any (fun w => w.task = p.1) then s
      else { s with exec := { s.exec with waiting := s.exec.waiting ++ [⟨p.1, s.extStroke, 0, none⟩] } }
    match s.exec.waiting.find? fun w => w.task = p.1 with
    | some w => s.defer w (deferOf p.2)
    | none => s) s
  let s := s.holdB (r.held % 16) 0
  let work := r.admitted.any (fun t => s.taskClass t = .d) || r.held % 16 ≠ 15
  (s.shortfall work).closeAdmission.applyCounts

/-- The substitute record of an ORPHANED unit (09 R343): every released M execution and every waiting D execution, in the
order of R238, and B on every core; in P2 nothing but M on the cores out of service (R227). -/
def State.substitute (s : State) : State :=
  let s := s.openAdmission.wr R.COX_STAT_FOLLOW 1
  let s := s.admitM.1
  let ds := (s.waitingOf .d).filter fun w => s.pstate ≠ 2 || s.taskCore w.task = 0
  let s := ds.foldl (fun s w => (s.admitOne w).chargeNj (s.charge w.task)) s
  let s := if s.pstate = 2 then s.holdB 14 8 else s.holdB 0 0
  (s.shortfall true).closeAdmission

/-- Every B execution of the standby has retired the instructions the record reports for it (05 R209). -/
def State.caughtUp (s : State) (r : AdmRecord) : Bool :=
  r.retired.all fun p =>
    let k := s.core (s.physOf p.1)
    !(k.bgRun.any fun r => r.task = p.2.1) || p.2.2 ≤ k.retired

/-- A waiting admission record is applied as soon as the standby's loops are complete and its B executions have caught up
(09 R333, 05 R209). -/
def State.takeRecord (s : State) : State :=
  match s.exec.record with
  | none => s
  | some r =>
    if s.mode = 4 && !s.exec.looping && !s.sys.latch && s.caughtUp r then
      { s with exec := { s.exec with record := none } }.applyRecord r
    else s

/-! ### Power-state requests -/

/-- The lowest enabled M task pinned to logical core 1, 2 or 3 (R224). -/
def State.p2Conflict (s : State) : Option Nat :=
  (List.range 64).find? fun t => s.taskEnabled t && s.taskClass t = .m && s.taskCore t ≠ 0

/-- A request is refused: LASTRSN and "Request refused". -/
def State.pwrRefuse (s : State) (reason : Nat) : State :=
  (s.wr R.PWR_STAT_LASTRSN reason).raise Ev.pwrRequestRefused reason

/-- A request is accepted: it takes effect at the start of the second stroke after the present one (R225, R229). -/
def State.pwrAccept (s : State) (code : Nat) : State :=
  let s := ((s.wr R.PWR_STAT_LASTRSN 0).wr R.PWR_STAT_PENDING 1).wr R.PWR_STAT_TARGET code
  { s with pwr := { s.pwr with due := some (s.extStroke + 2), agreed := false, order := s.sys.accepted },
           sys := { s.sys with accepted := s.sys.accepted + 1 } }

/-- PWR_CMD (R222 to R224). -/
def State.pwrCmd (s : State) (v : Word) : State :=
  let code := bitsOf v 1 0
  if bitsOf v 31 16 ≠ 0x9A7E then s.pwrRefuse 0x22
  else if s.on R.PWR_STAT_PENDING then s.pwrRefuse 0x21
  else match s.mode with
  | 0 | 1 => s.pwrRefuse 0x20
  | 4 | 5 => s.pwrRefuse 0x23
  | 7 =>
    if code = 3 then s.wr R.PWR_STAT_LASTRSN 0
    else
      let s := ((s.wr R.PWR_STAT_LASTRSN 0).wr R.PWR_STAT_PENDING 1).wr R.PWR_STAT_TARGET code
      { s with pwr := { s.pwr with unpark := some 2 } }
  | m =>
    if code = 3 && (s.rd R.FBC_CFGSTAT_STATE = 1 || s.rd R.FBC_CFGSTAT_STATE = 2) then s.pwrRefuse 0x21
    else if code = 3 && (m = 6 || (m = 3 && s.paired)) then s.pwrRefuse 0x20
    else if code = 2 && m = 3 && s.p2Conflict.isSome then s.pwrRefuse 0x29
    else if code = s.pstate then s.wr R.PWR_STAT_LASTRSN 0
    else s.pwrAccept code

/-- The power state becomes p: the charges and the window follow (R225, R236), and the B executions of cores leaving service
are held (R227). -/
def State.setPstate (s : State) (p : Nat) : State :=
  let s := ((s.wr R.PWR_STAT_STATE p).wr R.COX_EPC_PJ (epcOf p)).wr R.COX_PBASE_MW (pbaseOf p)
  let s := s.showWindow
  if p = 2 then
    [1, 2, 3].foldl (fun s l =>
      let c := s.physOf l
      let k := s.core c
      s.setCore c { k with bgHeld := k.bgRun.isSome }) s
  else s

/-- A transition to P0, P1 or P2 takes effect (R225). -/
def State.pwrSwitch (s : State) (p : Nat) : State :=
  let old := s.pstate
  let s := (s.wr R.PWR_STAT_PENDING 0).wr R.PWR_TRANS_STROKE s.stroke
  let s := { s with pwr := { s.pwr with due := none, agreed := false } }
  (s.setPstate p).raise Ev.pwrTransitionComplete (old * 4 + p)

/-- A pending request ends without taking effect. -/
def State.pwrDrop (s : State) (reason : Nat) : State :=
  let s := { s.wr R.PWR_STAT_PENDING 0 with pwr := { s.pwr with due := none, agreed := false, unpark := none } }
  s.pwrRefuse reason

/-- A pending change between P0, P1 and P2 at a stroke boundary (R225, R228); a unit in TRACK makes an agreed one alone (R226). -/
def State.powerBoundary (s : State) : State :=
  match s.pwr.due with
  | some n =>
    if n ≤ s.extStroke && s.rd R.PWR_STAT_TARGET ≠ 3 && (s.mode ≠ 4 || s.pwr.agreed) then s.pwrSwitch (s.rd R.PWR_STAT_TARGET) else s
  | none => s

end Sys2Proof.Machine
end

