-- ==== Sys2Proof/Machine/Force.lean ====
section
/-!
DEFINITION. Machine/Force.lean: the forcing table (04 R147 to R152): its staged copy, the table in force, and what forcing
makes of an image.
-/

namespace Sys2Proof.Machine

/-- An entry of a forcing table; an unlisted one holds 0. -/
def forceEntry (t : List (Nat × (Word × Word × Word))) (i : Nat) : Word × Word × Word :=
  SMap.get (fun _ => (0, 0, 0)) t i

/-- Writes an entry. -/
def setForceEntry (t : List (Nat × (Word × Word × Word))) (i : Nat) (e : Word × Word × Word) :
    List (Nat × (Word × Word × Word)) := SMap.set (fun _ => (0, 0, 0)) i e t

/-- The enabled entries of a table. -/
def enabledForce (t : List (Nat × (Word × Word × Word))) : List (Word × Word × Word) :=
  (t.map Prod.snd).filter fun e => bitsOf e.1 31 31 = 1

/-- The area and word an entry names. -/
def forceKey (e : Word × Word × Word) : Nat := bitsOf e.1 30 30 * 8192 + bitsOf e.1 12 0

/-- Two enabled entries name the same word (R149). -/
def dupForce : List (Word × Word × Word) → Bool
  | [] => false
  | e :: t => t.any (fun f => forceKey f = forceKey e) || dupForce t

/-- Forcing an image of area 0 (I) or 1 (Q), given by offset in its area: where a mask bit is 1 the value's bit replaces
the image's (R147). A disabled FORCE block performs no work (03 R103). -/
def State.forceImage (s : State) (area : Nat) (img : List Host.Cell) : List Host.Cell :=
  if s.pgEn 0x12 then
    (enabledForce s.force.table).foldl (fun img e =>
      if bitsOf e.1 30 30 = area then
        let o := 4 * bitsOf e.1 12 0
        (List.range 4).foldl (fun img i =>
          let m := BitVec.ofNat 8 (bitsOf e.2.1 (8 * i + 7) (8 * i))
          let v := BitVec.ofNat 8 (bitsOf e.2.2 (8 * i + 7) (8 * i))
          SMap.set (fun _ => 0) (o + i) (SMap.get (fun _ => 0) img (o + i) &&& ~~~m ||| v &&& m) img) img
      else img) img
  else img

/-- The I area is forced where it stands (R150). -/
def State.forceInputs (s : State) : State :=
  let img := (s.mem.filter fun c => iBase ≤ c.1 && c.1 < qBase).map fun c => (c.1 - iBase, c.2)
  let img := s.forceImage 0 img
  let rest := s.mem.filter fun c => c.1 < iBase || qBase ≤ c.1
  { s with mem := overlay (fun _ => 0) rest (img.map fun c => (iBase + c.1, c.2)) }

/-- FORCE_STAT shows the table in force. -/
def State.showForce (s : State) : State :=
  let n := (enabledForce s.force.table).length
  (s.wr R.FORCE_STAT_COUNT n).wrb R.FORCE_STAT_ACTIVE (0 < n)

/-- A new table comes into force: FORCE_STAT and with it FORCE_LED (`State.pins`) follow, and forcing begins or ends (R151). -/
def State.newForce (s : State) (t : List (Nat × (Word × Word × Word))) : State :=
  let was := s.on R.FORCE_STAT_ACTIVE
  let s := { s with force := { s.force with table := t } }.showForce
  let n := s.rd R.FORCE_STAT_COUNT
  if !was && 0 < n then s.raise Ev.forceActive n
  else if was && n = 0 then s.raise Ev.forceEnded 0
  else s

/-- FORCE_CMD (R148, R149): APPLY, CLEAR_ALL and REVERT; any other key or code is ignored. -/
def State.forceCmd (s : State) (v : Word) : State :=
  if bitsOf v 31 16 ≠ 0xF0CE then s
  else match bitsOf v 7 0 with
  | 1 =>
    if s.force.apply || s.force.clear then s.wr R.FORCE_STAT_LASTRSN 2
    else if dupForce (enabledForce s.force.staged) then s.wr R.FORCE_STAT_LASTRSN 1
    else { s.wr R.FORCE_STAT_LASTRSN 0 with force := { s.force with apply := true } }
  | 2 => { s.wr R.FORCE_STAT_LASTRSN 0 with force := { s.force with apply := false, clear := true } }
  | 3 => { s.wr R.FORCE_STAT_LASTRSN 0 with force := { s.force with staged := s.force.table } }
  | _ => s

/-- The forcing table at a stroke start (R148, R149): a waiting CLEAR_ALL clears both copies; a waiting APPLY puts the staged
table into force. -/
def State.forceStroke (s : State) : State :=
  if s.force.clear then
    { s with force := { s.force with staged := [], apply := false, clear := false } }.newForce []
  else if s.force.apply then
    let s := { s with force := { s.force with apply := false } }.newForce s.force.staged
    s.raise Ev.forceApplied (s.rd R.FORCE_STAT_COUNT)
  else s

/-- A restart or a reset clears the table (R152, 02 R79). -/
def State.forceClear (s : State) : State :=
  let s := { s with force := {} }
  s.newForce []

end Sys2Proof.Machine
end

