-- ==== Sys2Proof/Machine/Exec.lean ====
section
/-!
DEFINITION. Machine/Exec.lean: the start of executions (04 R131, 05 R176), the output cutoff (04 R137, 01 R29), the debugger's
commands (05 R215 to R217) and the end of RUN (02 R84).
-/

namespace Sys2Proof.Machine

/-! ### Starting an execution -/

/-- The order in which admitted executions start: M before D before B, then by task (R131). -/
def startKey (a : Admitted) : Nat := (match a.cls with | .m => 0 | .d => 64 | .b => 128) + a.task

/-- The first of a list in the order of R131. -/
def firstStart : List Admitted → Option Admitted
  | [] => none
  | a :: t =>
    match firstStart t with
    | none => some a
    | some b => if startKey b < startKey a then some b else some a

/-- The context of a starting execution (05 R176). -/
def State.startCtx (s : State) (t scan : Nat) : Ctx :=
  let entry := s.reg (R.EXEC_TENTRY + 0x10 * t)
  { f := SMap.set (fun _ => 0) 0 (BitVec.ofNat 32 t)
      (SMap.set (fun _ => 0) 1 (BitVec.ofNat 32 scan) (SMap.set (fun _ => 0) 2 entry [])),
    pc := entry, spillp := spillBase t }

/-- The retired count last received of the B execution of a task on a core (05 R209). -/
def State.countOf (s : State) (c t : Nat) : Nat :=
  ((s.pair.counts.find? fun x => x.1 = s.lcore c && x.2.1 = t).map fun x => x.2.2).getD 0

/-- An execution starts on a core in the context of its class, in at most 4 clocks (05 R214); a B execution that runs
there is suspended by an M or D one (04 R131). -/
def State.startRun (s : State) (c : Nat) (cls : TaskClass) (r : Run) : State :=
  let k := s.core c
  let ctx := s.startCtx r.task r.scan
  let n := s.free.toNat % 5
  let k := match cls with
    | .b => { k with bg := ctx, bgRun := some r, bgSusp := false, bgHeld := false, retired := 0,
                     limit := s.countOf c r.task, bClocks := k.bClocks + n }
    | _ => { k with fg := ctx, fgRun := some r, bgSusp := k.bgRun.isSome }
  let s := s.used.setCore c { k with bpPassed := false }
  s.wr (R.CORE_CYCLES_COUNT.off (0x1000 * c)) (s.rd (R.CORE_CYCLES_COUNT.off (0x1000 * c)) + n)

/-- The admitted execution that may start on a core now: none while it runs an M or D execution, while it is halted or
failed, between an output cutoff and the next admission (04 R164), or outside RUN and TRACK; a B execution only where B is
allowed and none is in its context (04 R131, 06 R238). -/
def State.startable (s : State) (c : Nat) : Option Admitted :=
  let k := s.core c
  match s.lcoreOf c with
  | none => none
  | some l =>
    if (s.mode ≠ 3 && s.mode ≠ 4) || s.exec.closed || k.fgRun.isSome || k.halted || k.failed || s.sys.latch then none
    else
      let mine := s.exec.admitted.filter fun a => a.lcore = l
      match firstStart (mine.filter fun a => a.cls ≠ .b) with
      | some a => some a
      | none =>
        if k.bgRun.isSome || s.cox.held.testBit l then none else firstStart mine

/-- EXECUTION_START on a core: the first admitted execution of its logical core starts. -/
def State.executionStart (s : State) (c : Nat) : State :=
  let s := s.takeRecord
  match s.startable c with
  | none => s.resumeB c
  | some a =>
    let s := { s with exec := { s.exec with admitted := s.exec.admitted.filter fun x => x.task ≠ a.task } }
    s.startRun c a.cls ⟨a.task, a.scan, a.qsnap, [], false, a.late⟩

/-! ### The output cutoff -/

/-- Completed executions in the order in which their buffers are applied: scan stroke, then task (R137). -/
def finishedBefore (a b : Finished) : Bool := a.scan < b.scan || (a.scan = b.scan && a.task < b.task)

def insertFinished (a : Finished) : List Finished → List Finished
  | [] => [a]
  | b :: t => if finishedBefore b a then b :: insertFinished a t else a :: b :: t

def sortFinished : List Finished → List Finished
  | [] => []
  | a :: t => insertFinished a (sortFinished t)

/-- The Q working image with the write buffers of completed executions applied (R137); a buffer lists its latest write
first. -/
def applyBuffers (q : List Host.Cell) (fs : List Finished) : List Host.Cell :=
  (sortFinished fs).foldl (fun q f => overlay (fun _ => 0) q f.qbuf.reverse) q

/-- The Q working image takes the buffers of the executions given, and the output image is frozen with forcing applied. -/
def State.freeze (s : State) (fs : List Finished) : State :=
  let q := applyBuffers s.exec.qWork fs
  { s with exec := { s.exec with qWork := q, outImage := s.forceImage 1 q,
                                 imaged := s.exec.imaged || s.mode = 3 || s.mode = 4,
                                 finished := s.exec.finished.filter fun f => !fs.contains f } }

/-- OVERRUN of a task (01 R29). -/
def State.overrunEvent (s : State) (task scan : Nat) : State :=
  s.raise Ev.execOverrun (scan % 2 ^ 24 * 0x100 + task)

/-- Every M and D execution that is not complete is an overrun; each is reported once (01 R29, 04 R132). -/
def State.overruns (s : State) : State :=
  let s := (List.range 5).foldl (fun s c =>
    let k := s.core c
    match k.fgRun with
    | some r =>
      if r.late || r.runtask then s
      else (s.setCore c { k with fgRun := some { r with late := true } }).overrunEvent r.task r.scan
    | none => s) s
  let late := s.exec.admitted.filter fun a => !a.late && a.cls ≠ .b
  let s := { s with exec := { s.exec with
    admitted := s.exec.admitted.map fun (a : Admitted) => if a.cls = .b then a else { a with late := true } } }
  late.foldl (fun s a => s.overrunEvent a.task a.scan) s

/-- The 32 KiB of an image and the 8 bytes of the extended stroke number, digested (09 R332). -/
def State.digest (s : State) (img : List Host.Cell) : List Byte :=
  Config.shake256 (((List.range 0x8000).map fun i => SMap.get (fun _ => 0) img i) ++ toBytes 8 s.extStroke) 16

/-- Four consecutive registers hold a 128-bit digest. -/
def State.setDigest (s : State) (a : Nat) (b : List Byte) : State :=
  (List.range 4).foldl (fun s i => s.setReg (a + 4 * i) (BitVec.ofNat 32 (ofBytes ((b.drop (4 * i)).take 4)))) s

/-- The cutoff closes the stroke: no execution starts before the next admission (04 R164). -/
def State.closeStroke (s : State) : State := { s with exec := { s.exec with closed := true } }

/-- The output cutoff of a unit that decides for itself (R137): the buffers of every completed execution are applied, the
image is frozen, overruns are reported. -/
def State.ownCutoff (s : State) : State := (s.freeze s.exec.finished).overruns.closeStroke

/-- The output cutoff where no program runs: the image last frozen stays, with forcing applied (R152, 02 R71). -/
def State.idleCutoff (s : State) : State := (s.freeze []).closeStroke

/-! ### The end of RUN and of TRACK -/

/-- Every execution is abandoned, and none of its Q writes enters an image (02 R84); the writes made to shared data
stand. -/
def State.dropRuns (s : State) : State :=
  let s := (List.range 5).foldl (fun s c =>
    let k := ((s.core c).drop true).drop false
    s.setCore c { k with bClocks := 0 }) s.publish
  { s with
    cox := { s.cox with bRan := [], bLast := [] },
    exec := { s.exec with waiting := [], admitted := [], finished := [], record := none, closed := true, looping := false } }

/-- The cores at a restart (02 R79, 05 R175): no execution, no unpublished write, the program's globals loaded, and the
task statistics cleared. -/
def State.execRestart (s : State) (cold : Bool) : State :=
  let s := s.dropRuns.loadGlobals
  let s := (List.range 64).foldl (fun s t => s.setReg (R.EXEC_TSTAT + 0x10 * t) 0) s
  { s with exec := { s.exec with disabled := [], shared := [], mView := [], hidden := [], hostWrites := [], seen := [], wrote := [], cold := cold,
                                 firstRun := s.extStroke } }

/-! ### The debugger's commands -/

/-- A core command is refused with LASTRSN. -/
def State.dbgRefuse (s : State) (c rsn : Nat) : State := s.wr (R.CORE_DBGSTAT_LASTRSN.off (0x1000 * c)) rsn

/-- HALT (R216). -/
def State.coreHalt (s : State) (c : Nat) : State :=
  if (s.core c).halted then s.dbgRefuse c 0
  else
    let s := (s.dbgRefuse c 0).setCore c { s.core c with halted := true, stepping := false }
    let s := s.wr (R.CORE_DBGSTAT_HALTSRC.off (0x1000 * c)) 1
    let s := s.wr (R.CORE_DBGSTAT_BPHIT.off (0x1000 * c)) 0
    (s.raise (Ev.coreHalted.at c 0) (s.coreData c)).freezeCheck

/-- RESUME (R216). -/
def State.coreResume (s : State) (c : Nat) : State :=
  if (s.core c).halted then
    let s := (s.dbgRefuse c 0).setCore c { s.core c with halted := false, stepping := false }
    let s := s.wr (R.CORE_DBGSTAT_HALTSRC.off (0x1000 * c)) 0
    let s := s.wr (R.CORE_DBGSTAT_BPHIT.off (0x1000 * c)) 0
    (s.raise (Ev.coreResumed.at c 0) (s.coreData c)).freezeCheck
  else s.dbgRefuse c 0

/-- STEP (R216): the next instruction of the core's execution is executed, also one at a breakpoint's address, and the core halts
again. -/
def State.coreStep (s : State) (c : Nat) : State :=
  let k := s.core c
  (s.dbgRefuse c 0).setCore c { k with stepping := k.fgRun.isSome || k.bgRun.isSome, bpPassed := true }

/-- RUNTASK (R217): one execution of a task starts on an idle core, with the present stroke as its scan stroke. -/
def State.coreRuntask (s : State) (c t : Nat) : State :=
  let k := s.core c
  if k.failed || s.lcoreOf c = none || !s.taskEnabled t then s.dbgRefuse c 3
  else if k.halted || k.fgRun.isSome || k.bgRun.isSome || s.busy t then s.dbgRefuse c 2
  else
    let s := (s.dbgRefuse c 0).startRun c (s.taskClass t) ⟨t, s.extStroke, s.exec.qWork, [], true, false⟩
    if s.taskClass t = .b then s else s.chargeNj (s.charge t)

/-- CORE_DBGCMD (R215 to R217): any other key or code is ignored; HALT, STEP and RUNTASK outside STOP and HOLD are refused
with PG_ERR code MODE and LASTRSN 1. -/
def State.coreCmd (s : State) (c : Nat) (v : Word) : Option PgErr × State :=
  if bitsOf v 31 16 ≠ 0xDB60 then (none, s)
  else
    let code := bitsOf v 7 0
    if (code = 1 || code = 3 || code = 4) && !s.debugMode then (some .mode, s.dbgRefuse c 1)
    else match code with
    | 1 => (none, s.coreHalt c)
    | 2 => (none, s.coreResume c)
    | 3 => (none, s.coreStep c)
    | 4 => (none, s.coreRuntask c (bitsOf v 13 8))
    | _ => (none, s)

end Sys2Proof.Machine
end

