-- ==== Sys2Proof/Machine/Edit.lean ====
section
/-!
DEFINITION. Machine/Edit.lean: online edit transactions (04 R158 to R173, R581, R585 to R587).
-/

namespace Sys2Proof.Machine

/-! ### What a transaction makes of the program -/

/-- The code, data or loop block that a block of a transaction spells (R585): its entry, its function entries, its contents;
none when its bytes break that form or name another number. -/
def editBlock (e : EditBlock) : Option Block :=
  match parseEntry (e.data.take 16) with
  | none => none
  | some (b, len, nf) =>
    if b.no = e.no && b.kind = e.kind && e.data.length = 16 + 4 * nf + len && (e.kind = 1 || nf = 0) then
      match pieces 4 (fun x => some (ofBytes x)) nf (e.data.drop 16) with
      | some fs => some { b with entries := fs, data := e.data.drop (16 + 4 * nf) }
      | none => none
    else none

/-- A carry entry (R585, R167): old offset, new offset, length. -/
def carryEntries : List Byte → List (Nat × Nat × Nat)
  | a0 :: a1 :: a2 :: a3 :: b0 :: b1 :: b2 :: b3 :: c0 :: c1 :: c2 :: c3 :: t =>
    (ofBytes [a0, a1, a2, a3], ofBytes [b0, b1, b2, b3], ofBytes [c0, c1, c2, c3]) :: carryEntries t
  | _ => []

/-- The carry entries of a transaction. -/
def txCarry (t : EditTx) : List (Nat × Nat × Nat) :=
  (t.blocks.filter fun b => b.kind = 4).flatMap fun b => carryEntries b.data

/-- The task entries of a transaction. -/
def txTasks (t : EditTx) : List TaskEntry :=
  (t.blocks.filter fun b => b.kind = 3).filterMap fun b => parseTask b.data

/-- The code, data and loop blocks of a transaction. -/
def txParts (t : EditTx) : List Block :=
  (t.blocks.filter fun b => b.kind = 1 || b.kind = 2 || b.kind = 5).filterMap editBlock

/-- The program as it stands after activation. -/
def Program.edited (p : Program) (t : EditTx) : Program :=
  let bs := (txParts t).foldl (fun bs b =>
    if b.kind = 5 then insertBlock b (bs.filter fun c => c.kind ≠ 5) else insertBlock b bs) p.blocks
  ⟨bs, (txTasks t).foldl (fun ts e => insertTask e ts) p.tasks⟩

/-! ### The checks at COMMIT (R162) -/

/-- A block keeps the form of R585. -/
def editFormOk (b : EditBlock) : Bool :=
  b.data.length = b.len &&
    (match b.kind with
     | 1 | 2 | 5 => (editBlock b).isSome
     | 3 => (match parseTask b.data with | some t => t.task = b.no | none => false)
     | 4 => b.data.length % 12 = 0 && b.no = 0
     | _ => false)

/-- Bytes of the blocks of a kind that lie in main SRAM: blocks in the program retain range take none of it. -/
def kindBytes (bs : List Block) (k : Nat) : Nat :=
  ((bs.filter fun b => b.kind = k && b.no ≠ 0 && decide (b.base < retainBase)).map fun b => b.data.length).sum

/-- A range of the data area, by offset, lies in one data block of the program. -/
def Program.holdsData (p : Program) (off len : Nat) : Bool :=
  (p.ofKind 2).any fun b => b.no ≠ 0 && decide (b.base ≤ 0x01000000 + off) &&
    decide (0x01000000 + off + len ≤ b.base + b.data.length)

/-- The carry entries reach no byte outside a block and no two overlap in the new program. -/
def carryOk (old new : Program) : List (Nat × Nat × Nat) → Bool
  | [] => true
  | (o, n, l) :: t =>
    old.holdsData o l && new.holdsData n l &&
      t.all (fun e => decide (e.2.1 + e.2.2 ≤ n) || decide (n + l ≤ e.2.1)) && carryOk old new t

/-- A task block may stand: R134, the event source, and in P2 the rule of 06 R224. -/
def State.editTaskOk (s : State) (t : TaskEntry) : Bool :=
  s.taskEntryOk t &&
    !(s.pstate = 2 && t.enabled && bitsOf t.cfg1 5 4 = 0 && bitsOf t.cfg1 9 8 ≠ 0)

/-- The first reason for which a transaction is refused, or 0 (R162). loopOk says whether a loop block passes the checks of
R586. Without a program in force EDIT_BASESIG names none, and the answer is STALE_BASE: DESIGN CHOICE, log entry 173. -/
def State.editRefusal (s : State) (loopOk : List Byte → Bool) (t : EditTx) : Nat :=
  match s.prog with
  | none => 0x07
  | some p =>
    let q := p.edited t
    if t.baseSig ≠ s.getSig R.EDIT_PROGSIG0 then 0x07
    else if 64 < t.blocks.length || 1 < (t.blocks.filter fun b => b.kind = 4).length then 0x04
    else if !(t.blocks.all editFormOk) || !q.formOk || !((q.ofKind 1).all q.codeOk) ||
        !(q.tasks.all q.taskCodeOk) || !(((txParts t).filter fun b => b.kind = 5).all fun b => loopOk b.data) then 0x06
    else if !((txTasks t).all s.editTaskOk) then 0x0B
    else if 0x01000000 < kindBytes p.blocks 1 + kindBytes (txParts t) 1 ||
        0x70000 + 0xE00000 < kindBytes p.blocks 2 + kindBytes (txParts t) 2 then 0x05
    else if !carryOk p q (txCarry t) then 0x09
    else if 10 * s.inputCompletePs < 625 * ((txCarry t).map fun e => e.2.2).sum then 0x0A
    else if q.signature ≠ t.newSig then 0x08
    else 0

/-! ### Affected tasks (R163) -/

/-- A block of code holds a CALLR. -/
def Block.hasCallr (b : Block) : Bool :=
  (List.range (b.data.length / 4)).any fun i => b.at? (b.base + 4 * i) = some (.ok (.call none))

/-- Code blocks reached from an address by direct calls, as block numbers; fuel bounds the depth. -/
def Program.reach (p : Program) : Nat → Nat → List Nat
  | 0, _ => []
  | k + 1, a =>
    match p.blockOf a, p.walkFrom a with
    | some b, some w => b.no :: w.calls.flatMap fun c => p.reach k c.1
    | some b, none => [b.no]
    | none, _ => []

/-- The transaction changes instance data: a data block or a carry. -/
def changesData (t : EditTx) : Bool := (txParts t).any (fun b => b.kind = 2) || !(txCarry t).isEmpty

/-- A task is affected by a transaction: its own entry, any change of instance data, or a code block that its direct calls reach;
code with a CALLR may reach every code block (log entry 17: the spec names no owner of instance data, and no target of a CALLR). -/
def Program.affected (p : Program) (t : EditTx) (e : TaskEntry) : Bool :=
  let code (n : Nat) : Bool := (txParts t).any fun b => b.kind = 1 && b.no = n
  let reached := p.reach (p.entries.length + 1) e.entry.toNat
  (txTasks t).any (fun x => x.task = e.task) || changesData t || reached.any code ||
    ((txParts t).any (fun b => b.kind = 1) && p.blocks.any fun b => b.kind = 1 && reached.contains b.no && b.hasCallr)

/-- The affected tasks, of the old program or the new. -/
def Program.affectedTasks (p : Program) (t : EditTx) : List Nat :=
  let q := p.edited t
  (List.range 64).filter fun n =>
    (txTasks t).any (fun x => x.task = n) || p.tasks.any (fun e => e.task = n && p.affected t e) ||
      q.tasks.any fun e => e.task = n && q.affected t e

/-! ### State and outcome -/

/-- EDIT_STAT.STATE. -/
def State.editSt (s : State) : Nat := s.rd R.EDIT_STAT_STATE

/-- DATA of the EDIT page's events. -/
def State.editData (s : State) (txid : Nat) : Nat := s.rd R.EDIT_STAT_REASON * 0x1000000 + txid % 0x1000000

/-- The transaction ends in IDLE with a reason, and an event says so. -/
def State.editEnd (s : State) (reason : Nat) (ev : Cond) : State :=
  let txid := (s.edit.tx.map fun t => t.txid).getD (s.rd R.EDIT_TXID_TXID)
  let s := (s.wr R.EDIT_STAT_STATE 0).wr R.EDIT_STAT_REASON reason
  let s := { s with
    edit := { flash := s.edit.flash.filter fun f => f.marker || f.tx.txid ≠ txid },
    memory := { s.memory with ledger := s.memory.ledger.filter fun (l : LedgerItem) => !(l.kind = LedgerKind.edit && l.id = txid) } }
  s.raise ev (s.editData txid)

/-- A command is refused with a reason, and a pending transaction continues. -/
def State.editRefuse (s : State) (reason : Nat) : State := s.wr R.EDIT_STAT_REASON reason

/-- EDIT_CMD OPEN (R159). -/
def State.editOpen (s : State) : State :=
  if s.editSt ≠ 0 then s.editRefuse 0x01
  else
    let s := (s.wr R.EDIT_STAT_STATE 1).wr R.EDIT_STAT_REASON 0
    let s := (s.wr R.EDIT_STAT_BLOCKS 0).wr R.EDIT_WCOUNT_COUNT 0
    let s := (s.setReg R.EDIT_AFFECT0 0).setReg R.EDIT_AFFECT1 0
    let t : EditTx := ⟨s.rd R.EDIT_TXID_TXID, s.rd R.EDIT_TMO_STROKES, s.getSig R.EDIT_BASESIG0, s.getSig R.EDIT_NEWSIG0, []⟩
    { s with edit := { flash := s.edit.flash, tx := some t } }

/-- EDIT_CMD BLOCK (R160): the next block begins. -/
def State.editBlockCmd (s : State) : State :=
  match s.edit.tx with
  | some t =>
    if s.editSt = 1 then
      let b : EditBlock := ⟨s.rd R.EDIT_BDESC_KIND, s.rd R.EDIT_BDESC_BLOCKNO, s.rd R.EDIT_BLEN_LEN, []⟩
      let s := (s.wr R.EDIT_STAT_BLOCKS (min (t.blocks.length + 1) 64)).wr R.EDIT_WCOUNT_COUNT 0
      { s with edit := { s.edit with tx := some { t with blocks := t.blocks ++ [b] } } }
    else s.editRefuse 0x11
  | none => s.editRefuse 0x11

/-- EDIT_WDATA (R160): the next 4 bytes of the current block; beyond its length or without a block, SEQUENCE. -/
def State.editWdata (s : State) (v : Word) : State :=
  match s.edit.tx with
  | some t =>
    match t.blocks.reverse with
    | b :: r =>
      if s.editSt = 1 && b.data.length + 4 ≤ b.len then
        let b' := { b with data := b.data ++ toBytes 4 v.toNat }
        let s := s.wr R.EDIT_WCOUNT_COUNT b'.data.length
        let s := if b.kind = 4 then s.wr R.EDIT_CARRYBYTES_BYTES
          ((carryEntries b'.data).map fun e => e.2.2).sum else s
        { s with edit := { s.edit with tx := some { t with blocks := (b' :: r).reverse } } }
      else s.editRefuse 0x11
    | [] => s.editRefuse 0x11
  | none => s.editRefuse 0x11

/-- EDIT_AFFECT0 and 1 show a list of tasks. -/
def State.showAffected (s : State) (ts : List Nat) : State :=
  ts.foldl (fun s t => s.wr ⟨R.EDIT_AFFECT0 + 4 * (t / 32), t % 32, t % 32⟩ 1)
    ((s.setReg R.EDIT_AFFECT0 0).setReg R.EDIT_AFFECT1 0)

/-- The checks pass: the transaction goes to flash and into the ledger (01 R49, R13). A marker that an earlier transaction of the
same number left in the ledger has been copied to flash (R169) and goes. -/
def State.editStage (s : State) (t : EditTx) : State :=
  let s := (s.wr R.EDIT_STAT_STATE 3).wr R.EDIT_STAT_REASON 0
  let s := match s.prog with
    | some p => s.showAffected (p.affectedTasks t)
    | none => s
  { s with memory := { s.memory with
      ledger := (s.memory.ledger.filter fun (l : LedgerItem) => !(l.kind = LedgerKind.marker && l.id = t.txid)) ++
        [LedgerItem.mk .edit 0 t.txid false] } }

/-- EDIT_CMD COMMIT (R158, R162, R171): CHECKING with its outcome. The active unit of a pair whose standby follows sends the
transaction over the pair link and stays in CHECKING until the standby has checked it as well. -/
def State.editCommit (s : State) (loopOk : List Byte → Bool) : State :=
  match s.edit.tx with
  | some t =>
    if s.editSt ≠ 1 then s.editRefuse 0x11
    else
      let r := s.editRefusal loopOk t
      if r ≠ 0 then s.editEnd r Ev.editRefused
      else
        if s.pairState = 1 && s.rd R.PAIR_STAT_PEER = 2 then
          let s := (s.wr R.EDIT_STAT_STATE 2).wr R.EDIT_STAT_REASON 0
          { s with edit := { s.edit with peerNeeded := true } }.out (.editMsg s.pairHdr (.transaction t))
        else s.editStage t
  | none => s.editRefuse 0x11

/-- EDIT_CMD ABORT (R170). -/
def State.editAbort (s : State) : State :=
  if s.editSt = 0 || s.edit.agreed.isSome then s.editRefuse 0x11
  else
    let peer := s.edit.peerNeeded
    let txid := (s.edit.tx.map fun t => t.txid).getD 0
    let s := s.editEnd 0x0F Ev.editAborted
    if peer then s.out (.editMsg s.pairHdr (.refused txid 0x0F)) else s

/-- EDIT_CMD (R158, R159). -/
def State.editCmd (s : State) (loopOk : List Byte → Bool) (v : Word) : State :=
  if bitsOf v 31 16 ≠ 0xED17 then s.editRefuse 0x11
  else if s.mode = 4 || s.mode = 5 then s.editRefuse 0x03
  else if s.mode ≠ 2 && s.mode ≠ 3 then s.editRefuse 0x02
  else match bitsOf v 7 0 with
  | 1 => s.editOpen
  | 2 => s.editBlockCmd
  | 3 => s.editCommit loopOk
  | 4 => s.editAbort
  | _ => s.editRefuse 0x11

/-! ### Staging, agreement and activation -/

/-- The transaction is in flash here and, in a pair, there: it becomes ELIGIBLE (R158, R171). -/
def State.editTryEligible (s : State) : State :=
  if s.editSt = 3 && s.edit.written && (!s.edit.peerNeeded || s.edit.peerReady) then
    let s := s.wr R.EDIT_STAT_STATE 4
    let s := { s with edit := { s.edit with since := s.extStroke, idle := false } }
    s.raise Ev.editEligible (s.editData ((s.edit.tx.map fun t => t.txid).getD 0))
  else s

/-- The flash write of a transaction ends, or fails (R158, R171). -/
def State.editWritten (s : State) (ok : Bool) : State :=
  match s.edit.tx with
  | some t =>
    if s.editSt ≠ 3 || s.edit.written then s
    else if ok then
      let s := { s with edit := { s.edit with written := true, flash := s.edit.flash ++ [FlashTx.mk t false] } }
      (if s.edit.mirrored || s.edit.peerNeeded then s.out (.editMsg s.pairHdr (.ready t.txid)) else s).editTryEligible
    else
      let other := s.edit.mirrored || s.edit.peerNeeded
      let s := s.editEnd 0x0D Ev.editFailed
      if other then s.out (.editMsg s.pairHdr (.refused t.txid 0x0D)) else s
  | none => s

/-- A pair-link message about a transaction (R171): the standby makes the checks on its own state and writes its own flash; each
unit hears of the other's checks and flash write. A refusal ends it in both with the refusing unit's reason; a standby that cannot
take it up refuses it with PEER_REFUSED (DESIGN CHOICE, log entry 174). -/
def State.editMsg (s : State) (loopOk : List Byte → Bool) (m : EditMsg) : State :=
  match m with
  | .transaction t =>
    if s.mode ≠ 4 || s.editSt ≠ 0 then s.out (.editMsg s.pairHdr (.refused t.txid 0x0C))
    else
      let s := { s with edit := { flash := s.edit.flash, tx := some t, mirrored := true, peerNeeded := true } }
      let r := s.editRefusal loopOk t
      if r ≠ 0 then (s.editEnd r Ev.editRefused).out (.editMsg s.pairHdr (.refused t.txid r))
      else (s.editStage t).out (.editMsg s.pairHdr (.accepted t.txid))
  | .accepted txid =>
    match s.edit.tx with
    | some t => if s.editSt = 2 && t.txid = txid then s.editStage t else s
    | none => s
  | .ready txid =>
    if s.editSt = 3 && (s.edit.tx.map fun t => t.txid) = some txid then
      { s with edit := { s.edit with peerReady := true } }.editTryEligible
    else s
  | .refused txid r =>
    if 2 ≤ s.editSt && (s.edit.tx.map fun t => t.txid) = some txid && s.edit.agreed.isNone then
      if r = 0x0F then s.editEnd 0x0F Ev.editAborted
      else if r = 0x0D then s.editEnd 0x0D Ev.editFailed
      else s.editEnd r Ev.editRefused
    else s

/-- Idleness at an output cutoff (R164, R172): a unit that decides activates at the next boundary; the active unit of a pair
agrees that stroke. -/
def State.editCutoff (s : State) : State :=
  if s.editSt ≠ 4 || s.edit.mirrored then s
  else
    match s.prog, s.edit.tx with
    | some p, some t =>
      let idle := (p.affectedTasks t).all fun n => !s.busy n
      { s with edit := { s.edit with
          idle := idle,
          agreed := if s.edit.agreed.isSome then s.edit.agreed
            else if idle && s.edit.peerNeeded then some (s.extStroke + 1) else none } }
    | _, _ => s

/-- Writes a list of (address, bytes). -/
def State.writeAll (s : State) (l : List (Nat × List Byte)) : State := l.foldl (fun s e => s.setBytes e.1 e.2) s

/-- Activation (R165): the new program is in force; new data blocks hold their initial values and what is carried, also in the
program retain range (DESIGN CHOICE, log entry 175); the signature beside retain memory is replaced and the activation marker
written into the ledger. What the old program wrote last stands in memory before anything is carried (R138, R167): no execution
runs that could see it early, since a change of instance data affects every task. -/
def State.editActivate (s : State) (p : Program) (t : EditTx) : State :=
  let q := p.edited t
  let s := if changesData t then s.publishProgram else s
  let kept := (txCarry t).map fun e => (0x01000000 + e.2.1, s.bytes (0x01000000 + e.1) e.2.2)
  let s := s.clearBytes 0 0x01000000
  let s := (q.ofKind 1).foldl (fun s b => s.setBytes b.base b.data) s
  let fresh := ((txParts t).filter fun b => b.kind = 2 && b.no ≠ 0).map fun b => (b.base, b.data)
  let s := ((s.writeAll fresh).writeAll kept).wroteAll (fresh ++ kept)
  let s := (txTasks t).foldl State.setTask s
  let sig := q.signature
  let s := (s.setSig R.EDIT_PROGSIG0 sig).setReg R.EDIT_ACTSTROKE (BitVec.ofNat 32 s.stroke)
  let s := { s with
    prog := some q,
    edit := { s.edit with flash := s.edit.flash.map fun (f : FlashTx) =>
      if f.tx = t then { f with marker := true } else f },
    memory := { s.memory with retainSig := sig, ledger := s.memory.ledger ++ [LedgerItem.mk .marker 0 t.txid false] } }
  let s := if (txParts t).any (fun b => b.no = 0) then s.loadGlobals else s
  s.editEnd 0x20 Ev.editActivated

/-- An edit activation at a stroke boundary (R164, R172, 06 R228). -/
def State.editBoundary (s : State) : State :=
  match s.prog, s.edit.tx with
  | some p, some t =>
    let due := match s.edit.agreed with
      | some n => n ≤ s.extStroke
      | none => s.edit.idle && !s.edit.peerNeeded
    if s.editSt = 4 && due then s.editActivate p t else s
  | _, _ => s

/-- NEVER_IDLE (R166). -/
def State.editNeverIdle (s : State) : State :=
  match s.edit.tx with
  | some t =>
    if s.editSt = 4 && s.edit.agreed.isNone && s.edit.since + t.tmo ≤ s.extStroke then s.editEnd 0x0E Ev.editFailed else s
  | none => s

/-- Fail-over (R172, 01 R48): a transaction whose activation stroke is not agreed fails; an agreed one stays, the unit's own from
now on. -/
def State.editPairLost (s : State) : State :=
  if s.editSt ≠ 0 && s.edit.agreed.isNone then s.editEnd 0x10 Ev.editFailed
  else { s with edit := { s.edit with peerNeeded := false, mirrored := false } }

/-- A unit goes on with a transaction alone: the standby is gone, or the pair has stopped as agreed (DESIGN CHOICE, log entry
176). -/
def State.editAlone (s : State) : State :=
  let s := { s with edit := { s.edit with peerNeeded := false, mirrored := false } }
  match s.edit.tx with
  | some t => if s.editSt = 2 then s.editStage t else s.editTryEligible
  | none => s

/-- A swap (R172): the other unit decides from now on (DESIGN CHOICE, log entry 176). -/
def State.editSwap (s : State) (active : Bool) : State :=
  if s.editSt < 2 then s else { s with edit := { s.edit with mirrored := !active, peerNeeded := true } }

/-- A restart leaves EDIT in IDLE (R158): a pending transaction has failed (01 R48). -/
def State.editRestart (s : State) : State :=
  if s.editSt ≠ 0 then s.editEnd 0 Ev.editFailed else s

/-- The program of a start (R169): the stored one with every transaction whose activation marker is in flash or in the
recalled ledger. -/
def State.markedTxs (s : State) : List EditTx :=
  (s.edit.flash.filter fun f => f.marker ||
    s.memory.ledger.any fun l => l.kind = .marker && l.id = f.tx.txid).map fun f => f.tx

/-- Every staged transaction but those loaded, which had a marker, is reported failed at a start, and its staging space freed (01
R49). -/
def State.reportTxs (s : State) (loaded : List EditTx) : State :=
  let lost := s.edit.flash.filter fun f => !(loaded.contains f.tx)
  let s := { s with edit := { s.edit with flash := loaded.map fun t => FlashTx.mk t true } }
  lost.foldl (fun s f => s.raise Ev.editFailed (s.editData f.tx.txid)) s

end Sys2Proof.Machine
end

