-- ==== Sys2Proof/Machine/Loop.lean ====
section
/-!
DEFINITION. Machine/Loop.lean: loop contexts and tables, the checks of writes (07 R249 to R256, R264, R267, R268, R271), their
application (R257, R258), and the modes, events and restart of contexts (R259 to R262, R277 to R282).
-/

namespace Sys2Proof.Machine

/-! ### Contexts, tables, events -/

/-- The distance of context n's registers from context 0's (03 R98). -/
def ctxOff (n : Nat) : Nat := 0x1000 * (n / 16) + 0xF0 * (n % 16)

/-- A register of a context as last written (R258), and its value in force. -/
def State.lacc (s : State) (n a : Nat) : Nat := (s.reg (a + ctxOff n)).toNat
def State.lval (s : State) (n a : Nat) : Nat := (s.reg (a + ctxOff n + 0x6000000)).toNat

/-- A field of a context as last written, in force, and the state in which the engine has set one in force. -/
def State.laccF (s : State) (n : Nat) (f : Fld) : Nat := s.rd (f.off (ctxOff n))
def State.lvalF (s : State) (n : Nat) (f : Fld) : Nat := s.rd (f.off (ctxOff n)).live
def State.lset (s : State) (n a v : Nat) : State := s.setReg (a + ctxOff n + 0x6000000) (BitVec.ofNat 32 v)
def State.lsetF (s : State) (n : Nat) (f : Fld) (v : Nat) : State := s.wr (f.off (ctxOff n)).live v

/-- What a context keeps beside its registers. -/
def State.lctx (s : State) (n : Nat) : LoopCtx := SMap.get (fun _ => {}) s.loop.ctx n
def State.setLctx (s : State) (n : Nat) (c : LoopCtx) : State :=
  { s with loop := { s.loop with ctx := SMap.set (fun _ => {}) n c s.loop.ctx } }

/-- A word of the table area in force, and with every accepted write applied (R256). -/
def State.tableWord (s : State) (i : Nat) : Nat := (SMap.get (fun _ => 0) s.loop.table i).toNat
def State.tableAcc (s : State) (i : Nat) : Nat :=
  match s.loop.writes.reverse.find? fun w => w.addr = 0x8000000 + i with
  | some w => w.val.toNat
  | none => s.tableWord i

/-- Words of the table area (R250). -/
def tableWords : Nat := 475136

/-- A context raises an event (R282): its EVMASK must let it through, unless it cannot be masked (5). -/
def State.loopEvent (s : State) (n code mask detail : Nat) : State :=
  if mask = 5 || (s.lvalF n R.LOOPCTX_EVMASK_MASK).testBit mask then
    s.raise ⟨0x30 + n / 16, n % 16, 80 + n / 8, code⟩ (detail * 0x100 + n)
  else s

/-! ### Binary32 helpers -/

/-- The number is below zero; zeros of both signs are not. -/
def negF (a : Nat) : Bool := b32.compare a 0 = some .lt

/-- a exceeds b, in an order that both have. -/
def gtF (a b : Nat) : Bool := b32.compare a b = some .gt

/-- a is at or above b. -/
def geF (a b : Nat) : Bool := b32.compare a b = some .gt || b32.compare a b = some .eq

def isNan (a : Nat) : Bool := b32.unpack a = .nan

/-! ### Tables (R264, R267, R268) -/

/-- The numbers rise strictly. -/
def risingF : List Nat → Bool
  | a :: b :: t => gtF b a && risingF (b :: t)
  | _ => true

/-- The words a table of a kind (1 region, 2 friction, 3 cogging) occupies from its first word. -/
def tableLen (kind w0 : Nat) : Nat :=
  match kind with
  | 1 => 8 + 4 * (w0 % 8 + 1)
  | 2 => 3 + 2 * (w0 % 8192)
  | _ => 3 + w0 % 8192

/-- A table is valid, its words being given by rd. -/
def tableValid (rd : Nat → Nat) (kind p : Nat) : Bool :=
  let w0 := rd p
  let len := tableLen kind w0
  let ws := (List.range len).map fun i => rd (p + i)
  p < tableWords && p + len ≤ tableWords && w0 / 0x1000000 = kind &&
    (match kind with
     | 1 =>
       let n := w0 % 8 + 1
       let bs := (ws.drop 1).take (n - 1)
       w0 / 8 % 0x200000 = 0 && bs.all b32.finite && risingF bs && ((ws.drop n).take (8 - n)).all (· == 0) &&
         (List.range n).all fun r =>
           let g := (ws.drop (8 + 4 * r)).take 4
           g.all b32.finite && !negF (g.getD 1 0) && !negF (g.getD 2 0)
     | 2 =>
       let n := w0 % 8192
       w0 / 8192 % 2048 = 0 && 2 ≤ n && n ≤ 4096 && (ws.drop 1).all b32.finite && gtF (ws.getD 2 0) (ws.getD 1 0) &&
         (ws.drop 3).all fun v => !negF v
     | _ =>
       let n := w0 % 8192
       w0 / 8192 % 2048 = 0 && 2 ≤ n && n ≤ 4096 && (ws.drop 1).all b32.finite && gtF (ws.getD 1 0) 0 &&
         ws.getD 2 0 = 0)

/-! ### Lane loads (R248, R249) -/

/-- The context's mode in force or requested mode is not OFF. -/
def State.ctxUsed (s : State) (n : Nat) : Bool :=
  s.laccF n R.LOOPCTX_CTL_MODE ≠ 0 || s.lvalF n R.LOOPCTX_STAT_MODE ≠ 0

/-- The load of a lane. -/
def State.laneLoad (s : State) (lane : Nat) : Nat := ((List.range 64).filter fun i => s.ctxUsed (4 * i + lane)).length

/-- The largest lane load. -/
def State.laneMax (s : State) : Nat := (List.range 4).foldl (fun m l => max m (s.laneLoad l)) 0

/-- R21 holds for the stroke configuration in force with a lane load. -/
def State.laneFits (s : State) (lane : Nat) : Bool :=
  decide ((s.inputCompletePs + loopPs lane + 1000000 : Nat) < s.cutoffPs)

/-- LOOP_STAT and LOOP_ELIMIT as the engine has them, and COX_WINDOW, follow the lane loads. -/
def State.showLanes (s : State) : State :=
  let m := s.laneMax
  let s := s.wr R.LOOP_STAT_LANEMAX.live m
  let s := s.wr R.LOOP_STAT_ACTIVE.live ((List.range 256).filter fun n => s.lvalF n R.LOOPCTX_STAT_MODE ≠ 0).length
  (s.wr R.LOOP_ELIMIT_PS.live (m * 156250)).showWindow

/-! ### The checks of a write (R256) -/

/-- Size in bytes of an element by TYPE (R251). -/
def elemSize (ty : Nat) : Nat := if ty < 2 then 2 else 4

/-- Bytes of the I or Q area, and of the M area. -/
def areaSize (kind : Nat) : Nat := if kind = 2 then 0x100000 else 0x8000

/-- A source descriptor of context n keeps R251. -/
def srcOk (n d : Nat) : Bool :=
  let kind := d / 2 ^ 30
  let ty := d / 2 ^ 28 % 4
  let cx := d / 2 ^ 20 % 256
  let off := d % 2 ^ 20
  match kind with
  | 0 => ty = 0 && off = 0
  | 3 => ty = 0 && off = 0 && cx ≠ n
  | k => off % elemSize ty = 0 && off + elemSize ty ≤ areaSize k

/-- A destination descriptor is well formed. -/
def dstOk (d : Nat) : Bool :=
  let ty := d / 2 ^ 28 % 4
  match d / 2 ^ 30 with
  | 0 => ty = 0 && d % 2 ^ 20 = 0
  | 3 => false
  | k => d % 2 ^ 20 % elemSize ty = 0 && d % 2 ^ 20 + elemSize ty ≤ areaSize k

/-- Two destinations name a common byte (R255). -/
def dstClash (d e : Nat) : Bool :=
  let k := d / 2 ^ 30
  k ≠ 0 && k = e / 2 ^ 30 &&
    d % 2 ^ 20 < e % 2 ^ 20 + elemSize (e / 2 ^ 28 % 4) && e % 2 ^ 20 < d % 2 ^ 20 + elemSize (d / 2 ^ 28 % 4)

/-- A quotient rounded up, one within 10^-6 of an integer being taken as that integer (R271); none when it is not
finite. -/
def ceilTol (q : Nat) : Option Nat :=
  match b64.unpack q with
  | .fin false m e =>
    if 0 ≤ e then some (m * 2 ^ e.toNat)
    else
      let d := 2 ^ (-e).toNat
      let lo := m / d
      let r := m % d
      if r * 1000000 ≤ d then some lo else some (lo + 1)
  | .fin true _ _ => some 0
  | _ => none

/-- Ts in binary64 (R247, R271). -/
def State.ts64 (s : State) (period : Nat) : Nat :=
  b64.div (b64.ofInt (period * s.rd R.EXEC_STROKELEN_LEN : Nat)) (b64.ofInt 1000000)

/-- The window lengths Na and Nj of limits in binary32 (R271). -/
def windows (ts v a j : Nat) : Option (Nat × Nat) :=
  let c := b32.conv b64
  match ceilTol (b64.div (c v) (b64.mul (c a) ts)), ceilTol (b64.div (c a) (b64.mul (c j) ts)) with
  | some na, some nj => some (na, nj)
  | _, _ => none

/-- The profile limits meet R271. -/
def State.limitsOk (s : State) (period v a j : Nat) : Bool :=
  gtF v 0 && gtF a 0 && gtF j 0 &&
    (match windows (s.ts64 period) v a j with
     | some (na, nj) => 1 ≤ na && na ≤ 65535 && 1 ≤ nj && nj ≤ 65535
     | none => false)

/-- The accepted limits of context n meet R271. -/
def State.ctxLimitsOk (s : State) (n : Nat) : Bool :=
  s.limitsOk (s.laccF n R.LOOPCTX_TIMING_PERIOD) (s.lacc n R.LOOPCTX_VMAX) (s.lacc n R.LOOPCTX_AMAX)
    (s.lacc n R.LOOPCTX_JMAX)

/-- The binary32 parameters of a context: those that may be infinite, those that may not be below 0, and the rest. -/
def infParams : List Nat := [R.LOOPCTX_PVLO, R.LOOPCTX_PVHI]
def posParams : List Nat := [R.LOOPCTX_KI, R.LOOPCTX_KD, R.LOOPCTX_TF, R.LOOPCTX_KT, R.LOOPCTX_RMAX, R.LOOPCTX_FDB,
  R.LOOPCTX_KSTIC, R.LOOPCTX_VSTIC, R.LOOPCTX_SCHHYS]
def anyParams : List Nat := [R.LOOPCTX_PVGAIN, R.LOOPCTX_PVOFS, R.LOOPCTX_SPGAIN, R.LOOPCTX_SPOFS, R.LOOPCTX_SP,
  R.LOOPCTX_OUTGAIN, R.LOOPCTX_OUTOFS, R.LOOPCTX_UMIN, R.LOOPCTX_UMAX, R.LOOPCTX_UMAN, R.LOOPCTX_USAFE, R.LOOPCTX_KP,
  R.LOOPCTX_BETA, R.LOOPCTX_KFF, R.LOOPCTX_KV, R.LOOPCTX_POSGAIN, R.LOOPCTX_POSOFS, R.LOOPCTX_CGGAIN, R.LOOPCTX_VMAX,
  R.LOOPCTX_AMAX, R.LOOPCTX_JMAX]

/-- The kind of table an enable bit of LOOPCTX_CTL uses, with its pointer. -/
def tableUses : List (Nat × Fld × Fld) := [
  (1, R.LOOPCTX_CTL_SCHEN, R.LOOPCTX_SCHED_PTR), (2, R.LOOPCTX_CTL_FREN, R.LOOPCTX_FRPTR_PTR),
  (3, R.LOOPCTX_CTL_CGEN, R.LOOPCTX_CGPTR_PTR)]

/-- A table that context n has enabled is valid. -/
def State.tableOk (s : State) (n : Nat) (u : Nat × Fld × Fld) : Bool :=
  s.laccF n u.2.1 = 0 || tableValid s.tableAcc u.1 (s.laccF n u.2.2)

/-- The tables that context n has enabled are valid. -/
def State.tablesOk (s : State) (n : Nat) : Bool := tableUses.all fun u => s.tableOk n u

/-- A register a of context n (named by context 0's address) passes the checks of R256 in the state s that will stand once
the write is made; s0 is the state before. -/
def State.loopRegOk (s0 s : State) (n a : Nat) : Bool :=
  if a = R.LOOPCTX_CTL then
    s.laccF n R.LOOPCTX_CTL_FAILACT ≠ 3 &&
      !(s.laccF n R.LOOPCTX_CTL_MODE = 3 && s.lacc n R.LOOPCTX_SPSRC / 2 ^ 30 = 0) && s.tablesOk n &&
      (s.laccF n R.LOOPCTX_CTL_PROFEN = 0 || s.ctxLimitsOk n)
  else if a = R.LOOPCTX_TIMING then
    s.laccF n R.LOOPCTX_TIMING_PERIOD ≠ 0 &&
      s.laccF n R.LOOPCTX_TIMING_PHASE < s.laccF n R.LOOPCTX_TIMING_PERIOD &&
      (s.laccF n R.LOOPCTX_TIMING_PERIOD = s0.laccF n R.LOOPCTX_TIMING_PERIOD || s0.lvalF n R.LOOPCTX_STAT_PROF = 0)
  else if [R.LOOPCTX_PVSRC, R.LOOPCTX_SPSRC, R.LOOPCTX_FFSRC, R.LOOPCTX_POSSRC].contains a then srcOk n (s.lacc n a)
  else if a = R.LOOPCTX_OUTDST then
    dstOk (s.lacc n a) && (List.range 256).all fun m => m = n || !dstClash (s.lacc n a) (s.lacc m a)
  else if infParams.contains a then
    !isNan (s.lacc n a) && geF (s.lacc n R.LOOPCTX_PVHI) (s.lacc n R.LOOPCTX_PVLO)
  else if posParams.contains a then b32.finite (s.lacc n a) && !negF (s.lacc n a)
  else if anyParams.contains a then
    b32.finite (s.lacc n a) &&
      (if a = R.LOOPCTX_UMIN || a = R.LOOPCTX_UMAX then geF (s.lacc n R.LOOPCTX_UMAX) (s.lacc n R.LOOPCTX_UMIN)
       else if a = R.LOOPCTX_VMAX || a = R.LOOPCTX_AMAX || a = R.LOOPCTX_JMAX then
         s.laccF n R.LOOPCTX_CTL_PROFEN = 0 || s.ctxLimitsOk n
       else true)
  else if a = R.LOOPCTX_SCHED || a = R.LOOPCTX_FRPTR || a = R.LOOPCTX_CGPTR then
    s.lacc n a % 2 ^ 19 < tableWords && tableUses.all fun u => u.2.2.addr ≠ a || s.tableOk n u
  else true

/-- A table word lies inside a table that a context not in OFF uses with its enable bit set, in the state that the accepted writes
will leave (R256). -/
def State.tableInUse (s : State) (i : Nat) : Bool :=
  (List.range 256).any fun n => s.laccF n R.LOOPCTX_CTL_MODE ≠ 0 && tableUses.any fun u =>
    let p := s.laccF n u.2.2
    s.laccF n u.2.1 = 1 && p ≤ i && i < p + tableLen u.1 (s.tableAcc p)

/-- The logical core and the M or D task a requester's loop write belongs to: none for the host. -/
def State.loopWriter (s : State) (r : Req) : Option Nat × Option Nat :=
  match r with
  | .core c => (some (s.lcore c.val), (s.core c.val).fgRun.map fun x => x.task)
  | _ => (none, none)

/-- An accepted write waits for its input complete (R257). -/
def State.loopQueue (s : State) (r : Req) (addr : Nat) (v : Word) : State :=
  let (l, o) := s.loopWriter r
  { s with loop := { s.loop with writes := s.loop.writes ++ [⟨addr, v, l, o, false⟩] } }

/-- A write of the RW fields of context n's register a (context 0's address), already merged into v (R249, R256). -/
def State.loopWrite (s : State) (r : Req) (n a : Nat) (v : Word) : Except PgErr State × State :=
  let s' := s.setReg (a + ctxOff n) v
  if !(s.loopRegOk s' n a) then (.error .range, s)
  else if a = R.LOOPCTX_CTL && s.laccF n R.LOOPCTX_CTL_MODE = 0 && s'.laneMax > s.laneMax && !s'.laneFits s'.laneMax then
    (.error .range, s.raise Ev.loopTimeRefused (s'.laneMax * 0x10000 + n))
  else (.ok ((s'.loopQueue r (a + ctxOff n) v).showLanes), s)

/-- LOOP_TADDR of a requester advances past a table word (07 "LOOP page"). -/
def State.advanceTaddr (s : State) (r : Req) : State :=
  let f := s.bf r R.LOOP_TADDR_INDEX
  s.wr f (if s.rd f + 1 < tableWords then s.rd f + 1 else 0)

/-- A write of LOOP_TDATA (R256). -/
def State.tableWrite (s : State) (r : Req) (v : Word) : Except PgErr State :=
  let i := s.rd (s.bf r R.LOOP_TADDR_INDEX)
  if s.tableInUse i then .error .mode else .ok ((s.loopQueue r (0x8000000 + i) v).advanceTaddr r)

/-! ### Modes, profiles at rest, application of writes -/

/-- The profile of a context is at rest at a value (R276). -/
def Prof.rest (p : Prof) (v : Nat) : Prof :=
  { p with r := v, goal := v, r0 := v, w := v, dr := 0, left := 0, k := 0, wa := [], wj := [], sa := 0, sj := 0,
           vp := 0, gap := p.na + p.nj }

/-- The profile holds motion (R272). -/
def Prof.moving (p : Prof) : Bool := 0 < p.left || !p.wa.isEmpty || !p.wj.isEmpty

/-- LOOP_FLT, LOOP_BAD or LOOP_PROF's bit of a context; the last two as the engine has them (R258). -/
def ctxBit (f : Fld) (n : Nat) : Fld := ⟨f.addr + 4 * (n / 32), n % 32, n % 32⟩

/-- The flags word of a context's loop retain record (10 R379, R278). -/
def retainFlags (n : Nat) : Nat := 0x027FF000 + 16 * n + 12

/-- The state of the profile is shown (R274), with its events and its flags word (R278). -/
def State.showProf (s : State) (n st : Nat) : State :=
  let old := s.lvalF n R.LOOPCTX_STAT_PROF
  let s := (s.lsetF n R.LOOPCTX_STAT_PROF st).wrb (ctxBit R.LOOP_PROF0_BUSY n).live (st ≠ 0)
  if (old = 0) = (st = 0) then s
  else
    let s := s.setBytes (retainFlags n) (toBytes 4 (if st ≠ 0 then 1 else 0))
    if old = 0 then s.loopEvent n 7 4 0 else s.loopEvent n 8 4 0

/-- A profile that is MOVING ends with PROFILE_FAILED (R276), at rest at LOOPCTX_W; one that is WAITING waits on (R274). -/
def State.failProf (s : State) (n reason : Nat) : State :=
  if s.lvalF n R.LOOPCTX_STAT_PROF ≠ 1 then s
  else
  let c := s.lctx n
  let s := s.setLctx n { c with prof := c.prof.rest (b32.conv b64 (s.lval n R.LOOPCTX_W)) }
  let s := (s.lsetF n R.LOOPCTX_STAT_PROF 0).wr (ctxBit R.LOOP_PROF0_BUSY n).live 0
  (s.setBytes (retainFlags n) [0, 0, 0, 0]).loopEvent n 9 5 reason

/-- A mode comes into force (R259, R260, R276). -/
def State.setLoopMode (s : State) (n m : Nat) : State :=
  let old := s.lvalF n R.LOOPCTX_STAT_MODE
  if old = m then s
  else
    let s := s.lsetF n R.LOOPCTX_STAT_MODE m
    let s := if m ≤ 1 then s.failProf n 2 else s
    let s := if 2 ≤ m && old ≤ 1 then s.setLctx n { s.lctx n with reinit := true } else s
    s.loopEvent n 1 0 m

/-- A write to a context's register takes effect: one to LOOPCTX_CTL clears a fault and requests a mode (R259, R262). Setting SCHEN
anew, and a change of the region table, leave no region in force (R265, R266). A cleared PROFEN shows at the next computation, whose
set-point is the target (R274). -/
def State.applyCtx (s : State) (n a : Nat) (v : Word) : State :=
  let old := s.lvalF n R.LOOPCTX_CTL_PROFEN
  let sch := s.lvalF n R.LOOPCTX_CTL_SCHEN
  let ptr := s.lvalF n R.LOOPCTX_SCHED_PTR
  let s := s.lset n a v.toNat
  let s := if sch = 0 && s.lvalF n R.LOOPCTX_CTL_SCHEN = 1 then s.setLctx n { s.lctx n with sched := false, region := none }
    else if s.lvalF n R.LOOPCTX_SCHED_PTR ≠ ptr then s.setLctx n { s.lctx n with region := none } else s
  if a = R.LOOPCTX_CTL then
    let s := if s.lvalF n R.LOOPCTX_STAT_FAULT = 1 then
        let s := ((s.lsetF n R.LOOPCTX_STAT_FAULT 0).lsetF n R.LOOPCTX_STAT_FCODE 0).loopEvent n 0xB 5 0
        s.setLctx n { s.lctx n with reinit := true }
      else s
    let s := if old = 0 && s.lvalF n R.LOOPCTX_CTL_PROFEN = 1 then
        let c := s.lctx n
        s.setLctx n { c with prof := c.prof.rest (b32.conv b64 (s.lval n R.LOOPCTX_W)) }
      else s
    s.setLoopMode n (s.lvalF n R.LOOPCTX_CTL_MODE)
  else s

/-- The context and register (by context 0's address) of a LOOPCTX address. -/
def ctxOfAddr (a : Nat) : Nat × Nat :=
  let n := 16 * (a / 0x1000 - 0x30) + (a % 0x1000 - 0x100) / 0xF0
  (n, a - ctxOff n)

/-- A write takes effect: of a table word, of LOOP_FLT in a pair (R258), or of a context. -/
def State.applyLoopWrite (s : State) (w : LoopWrite) : State :=
  if 0x8000000 ≤ w.addr then
    { s with loop := { s.loop with table := SMap.set (fun _ => 0) (w.addr - 0x8000000) w.val s.loop.table } }
  else if w.addr < 0x30000 then s.setReg w.addr (s.reg w.addr &&& ~~~w.val)
  else s.applyCtx (ctxOfAddr w.addr).1 (ctxOfAddr w.addr).2 w.val

/-- The writes due at an input complete are applied: program writes by ascending logical core in program order, then host
writes (R257). In STOP and HOLD every accepted write is due. -/
def State.applyLoopWrites (s : State) : State :=
  let due (w : LoopWrite) : Bool := w.ready || s.mode = 2 || s.mode = 5
  let ws := s.loop.writes.filter due
  let s := { s with loop := { s.loop with writes := s.loop.writes.filter fun w => !due w } }
  let prog := (List.range 8).flatMap fun l => ws.filter fun w => w.lcore = some l
  ((prog ++ ws.filter fun w => w.lcore = none).foldl State.applyLoopWrite s).showLanes

/-- When an output image is frozen, the writes of M and D executions that completed by its cutoff become due (R257), and their M-area
writes enter the engine view (R252): those that run no longer and do not wait for a later image. -/
def State.readyAtCutoff (s : State) : State :=
  let running := s.exec.cores.filterMap fun p => p.2.fgRun.map fun r => r.task
  let ended (o : Option Nat) : Bool := match o with
    | some t => !running.contains t && !s.exec.finished.any fun f => f.task = t
    | none => false
  let view := (List.range 8).flatMap fun l =>
    ((SMap.get (fun _ => []) s.exec.shared l).reverse.filter fun w => ended w.owner).map fun w => (w.addr, w.val)
  let ws := s.loop.writes.map fun w => if ended w.owner then { w with ready := true } else w
  { s with loop := { s.loop with writes := ws }, exec := { s.exec with mView := view, hidden := s.exec.hidden.filter fun h => !ended (some h.2.2) } }

/-! ### Restart (R79, R279, R277) -/

/-- A context takes its configuration entry of 240 bytes; the reset values without one. -/
def State.loadCtx (s : State) (n : Nat) (b : List Byte) : State :=
  (List.range 59).foldl (fun s i =>
    let a := R.LOOPCTX_CTL + 4 * i + ctxOff n
    let v := if b.isEmpty then resetVal a else BitVec.ofNat 32 (ofBytes ((b.drop (4 * i)).take 4))
    (s.setReg a v).setReg (a + 0x6000000) v) s

/-- The loop configuration of a program is loaded: contexts and tables (R250, 02 R79). -/
def State.loadLoops (s : State) (d : List Byte) : State :=
  let s := (List.range 256).foldl (fun s n => s.loadCtx n ((d.drop (240 * n)).take 240)) s
  let words := bytesWords (d.drop loopEntries)
  { s with loop := { s.loop with
      table := ((words.zip (List.range words.length)).filter fun p => p.1 ≠ 0).map fun p => (p.2, p.1),
      writes := [], due := [], faults := [] } }

/-- The RO registers of the LOOP page show what the engine has (R258). -/
def State.showLoopPage (s : State) : State :=
  ([R.LOOP_STAT, R.LOOP_ELIMIT] ++ (List.range 8).flatMap fun i => [R.LOOP_BAD0 + 4 * i, R.LOOP_PROF0 + 4 * i]).foldl
    (fun s a => s.setReg a (s.reg (a + 0x6000000))) s

/-- The loops at a restart (R279): configuration loaded, integrators 0 and profiles idle, except that a warm restart
gives a retentive context what its loop retain record holds; a profile not idle in that record has failed. -/
def State.loopRestart (s : State) (cold : Bool) : State :=
  let d := (s.prog.map Program.loopData).getD []
  let s := { s.loadLoops d with loop := { (s.loadLoops d).loop with ctx := [] } }
  let s := (List.range 256).foldl (fun s n =>
    let b := 0x027FF000 + 16 * n
    let word (i : Nat) := ofBytes (s.bytes (b + 4 * i) 4)
    let s := if !cold && s.laccF n R.LOOPCTX_CTL_RETENTIVE = 1 then
        [(R.LOOPCTX_W, 0), (R.LOOPCTX_I, 1), (R.LOOPCTX_U, 2)].foldl (fun s p =>
          (s.lset n p.1 (word p.2)).setReg (p.1 + ctxOff n) (BitVec.ofNat 32 (word p.2))) s
      else s
    let busy := word 3 % 2 = 1
    let s := s.lsetF n R.LOOPCTX_STAT_MODE (s.laccF n R.LOOPCTX_CTL_MODE)
    let s := s.wr (R.LOOPCTX_STAT_MODE.off (ctxOff n)) (s.laccF n R.LOOPCTX_CTL_MODE)
    let c : LoopCtx := { failStart := busy }
    s.setLctx n { c with prof := c.prof.rest (b32.conv b64 (s.lval n R.LOOPCTX_W)) }) s
  let s := (List.range 8).foldl (fun s i =>
    ((s.setReg (R.LOOP_FLT0 + 4 * i) 0).setReg (R.LOOP_BAD0 + 4 * i + 0x6000000) 0).setReg (R.LOOP_PROF0 + 4 * i + 0x6000000) 0) s
  (s.setReg R.LOOP_ETIME 0).showLanes.showLoopPage

/-- The writable bits of word i of a context (07 "LOOPCTX pages"). -/
def ctxRwBits (i : Nat) : Nat := ((regSpec? (R.LOOPCTX_CTL + 4 * i)).map fun x => x.1.rw).getD 0

/-- A configuration entry of 240 bytes has 0 in every RO field (04 R581). -/
def ctxFormOk (b : List Byte) : Bool :=
  (List.range 60).all fun i => ofBytes ((b.drop (4 * i)).take 4) &&& (0xFFFFFFFF ^^^ ctxRwBits i) = 0

/-- A whole loop configuration passes the checks of R581 and R586: every register of every context, tables and lane loads. -/
def State.loopConfigOk (s : State) (d : List Byte) : Bool :=
  let t := { s.loadLoops d with loop := { (s.loadLoops d).loop with ctx := [] } }
  decide (d.length ≤ loopEntries + 4 * tableWords) &&
    ((List.range 256).all fun n =>
      ctxFormOk ((d.drop (240 * n)).take 240) &&
        (List.range 44).all fun i => t.loopRegOk t n (R.LOOPCTX_CTL + 4 * i)) &&
    (let u := (List.range 256).foldl (fun s n => s.lsetF n R.LOOPCTX_STAT_MODE 0) t
     u.laneFits u.laneMax || u.laneMax = 0)

end Sys2Proof.Machine
end

