-- ==== Sys2Proof/Machine/Panel.lean ====
section
/-!
DEFINITION. Machine/Panel.lean: the status panel (13 R444 to R464).
-/

namespace Sys2Proof.Machine

/-! ### Planes -/

def State.panelW (s : State) : Nat := s.rd R.PANEL_GEOM_WIDTH
def State.panelH (s : State) : Nat := s.rd R.PANEL_GEOM_HEIGHT

/-- The level of a pixel of a plane of 16 pixels a word (R445). -/
def planeAt (m : List (Nat × Word)) (p : Nat) : Nat :=
  bitsOf (SMap.get (fun _ => 0) m (p / 16)) (2 * (p % 16) + 1) (2 * (p % 16))

/-- The plane in which a pixel has a level. -/
def setPlane (m : List (Nat × Word)) (p v : Nat) : List (Nat × Word) :=
  SMap.set (fun _ => 0) (p / 16) (bitsSet (SMap.get (fun _ => 0) m (p / 16)) (2 * (p % 16) + 1) (2 * (p % 16)) v) m

/-- A pixel lies in the mordant area (R444, R460). -/
def State.inMordant (s : State) (p : Nat) : Bool :=
  let x := p % s.panelW
  let y := p / s.panelW
  s.on R.PANEL_MCTL_EN && s.rd R.PANEL_MPOS_X ≤ x && x < s.rd R.PANEL_MPOS_X + s.rd R.PANEL_MSIZE_W
    && s.rd R.PANEL_MPOS_Y ≤ y && y < s.rd R.PANEL_MPOS_Y + s.rd R.PANEL_MSIZE_H

/-- Words of a row of the mordant bitmap (R460). -/
def State.bitmapRow (s : State) : Nat := (s.rd R.PANEL_MSIZE_W + 31) / 32

/-- The composed level of a pixel (R444, R460, R461); `marker` says that the forcing marker is drawn. -/
def State.composed (s : State) (marker : Bool) (p : Nat) : Nat :=
  if s.inMordant p then
    let x := p % s.panelW - s.rd R.PANEL_MPOS_X
    let y := p / s.panelW - s.rd R.PANEL_MPOS_Y
    let fg :=
      if marker && x < 32 && y < 32 then !(8 ≤ x && x < 24 && 8 ≤ y && y < 24)
      else bitsOf (SMap.get (fun _ => 0) s.panel.bitmap (y * s.bitmapRow + x / 32)) (x % 32) (x % 32) = 1
    if fg then s.rd R.PANEL_MCTL_FG else s.rd R.PANEL_MCTL_BG
  else planeAt s.panel.hostPlane p

/-! ### Waveforms -/

/-- A word of the waveform table (R449). -/
def State.waveWord (s : State) (band entry i : Nat) : Nat :=
  ofBytes ((s.panel.table.drop ((17 * band + entry) * 20 + 4 * i)).take 4)

/-- NFRAMES of an entry. -/
def State.waveFrames (s : State) (band entry : Nat) : Nat := s.waveWord band entry 0 % 128

/-- The drive code of a frame of an entry. -/
def State.waveCode (s : State) (band entry f : Nat) : Nat :=
  s.waveWord band entry (1 + f / 16) / 4 ^ (f % 16) % 4

/-- An entry is valid (R449). -/
def State.waveOk (s : State) (band entry : Nat) : Bool :=
  let n := s.waveFrames band entry
  s.waveWord band entry 0 < 128 && n ≤ 64 &&
    (List.range 64).all fun f => if f < n then s.waveCode band entry f ≠ 3 else s.waveCode band entry f = 0

/-- PANEL_STAT.TABLEOK follows the table. -/
def State.showTable (s : State) : State :=
  s.wrb R.PANEL_STAT_TABLEOK (s.panel.table.length = 2720 &&
    (List.range 8).all fun b => (List.range 17).all fun e => s.waveOk b e)

/-! ### Rails and the front light -/

/-- The rails power up unless they are up, with the VCOM that PANEL_VCOM then gives (R446, R447). -/
def State.railsOn (s : State) : State :=
  match s.panel.rails with
  | .off => { s with panel := { s.panel with rails := .rising 0, vcom := s.rd R.PANEL_VCOM_MV } }
  | _ => s

/-- The rails power down. -/
def State.railsOff (s : State) : State :=
  let s := s.wr R.PANEL_STAT_RAILSUP 0
  match s.panel.rails with
  | .up => { s with panel := { s.panel with rails := .falling 5 } }
  | .rising n => { s with panel := { s.panel with rails := .falling n } }
  | _ => s

/-- The front light (R458, R462): on only while CLEARED is 1 and LEVEL above 0, off in PARK and after the latch. -/
def State.panelLight (s : State) : State :=
  let on := s.on R.PANEL_STAT_CLEARED && s.on R.PANEL_LIGHT_LEVEL && s.mode ≠ 7 && !s.sys.latch && s.pgEn 0x71
  if on = s.on R.PANEL_STAT_LIGHT then s
  else
    let s := s.wrb R.PANEL_STAT_LIGHT on
    s.raise (if on then Ev.panelLightOn else Ev.panelLightOff) (s.rd R.PANEL_LIGHT_LEVEL)

/-! ### Updates -/

/-- The pixels that an update kind drives, with the entry each uses and its target level (R451). -/
def State.updatePixels (s : State) (kind : Nat) (whole mord marker : Bool) : List (Nat × Nat × Nat) :=
  (List.range (s.panelW * s.panelH)).filterMap fun p =>
    let x := p % s.panelW
    let y := p / s.panelW
    let was := planeAt s.panel.shown p
    let new := s.composed marker p
    let inA := s.inMordant p
    match kind with
    | 1 => if whole || !inA then some (p, 16, 1) else none
    | 2 => if inA then none else some (p, 4 * was + new, new)
    | 3 =>
      let x0 := s.rd R.PANEL_RECT0_X0
      let y0 := s.rd R.PANEL_RECT0_Y0
      if !inA && x0 ≤ x && x < x0 + s.rd R.PANEL_RECT1_W && y0 ≤ y && y < y0 + s.rd R.PANEL_RECT1_H && was ≠ new
      then some (p, 4 * was + new, new) else none
    | 4 => if inA && was ≠ new then some (p, 4 * was + new, new) else none
    | _ => if inA = mord then some (p, 4 * was + was, was) else none

/-- PANEL_STAT shows the updates in progress and a waiting request. -/
def State.showPanel (s : State) : State :=
  ((s.wrb R.PANEL_STAT_HOSTBUSY s.panel.main.isSome).wrb R.PANEL_STAT_MORDBUSY s.panel.mord.isSome).wrb
    R.PANEL_STAT_PENDING s.panel.request.isSome

/-- The forcing marker is to be drawn (R461). -/
def State.markerWanted (s : State) : Bool := s.on R.FORCE_STAT_ACTIVE

/-- The displayed plane once the pixels of an update for which p holds have taken their target levels. -/
def State.shownWith (s : State) (u : PanelUpdate) (p : Nat → Bool) : State :=
  { s with panel := { s.panel with shown := u.pixels.foldl (fun m (x : Nat × Nat × Nat) =>
      if p x.2.1 then setPlane m x.1 x.2.2 else m) s.panel.shown } }

/-- The pixels of an update whose entry has no frames take their new level at once (R452). -/
def State.showAtOnce (s : State) (u : PanelUpdate) : State := s.shownWith u fun e => s.waveFrames u.band e = 0

/-- An update starts (R452): it takes the composed levels and the band in force. -/
def State.startMain (s : State) (kind : Nat) (whole : Bool) : State :=
  let u : PanelUpdate := ⟨kind, s.rd R.PANEL_STAT_BAND, 0, s.updatePixels kind whole false s.markerWanted, false⟩
  ({ s with panel := { s.panel with main := some u } }.showAtOnce u).railsOn.showPanel

/-- An update of the mordant area starts: MORDANT, or its part of a REFRESH. -/
def State.startMord (s : State) (kind : Nat) : State :=
  let m := if kind = 4 && s.on R.PANEL_MCTL_EN then s.markerWanted else s.on R.PANEL_STAT_MARKER
  let u : PanelUpdate := ⟨kind, s.rd R.PANEL_STAT_BAND, 0, s.updatePixels kind false true m, m⟩
  let due := if kind = 4 then false else s.panel.mordDue
  ({ s with panel := { s.panel with mord := some u, mordDue := due } }.showAtOnce u).railsOn.showPanel

/-- Updates may start: a valid table, rails not locked, the panel in range, no supply failure (R449, R448, R454). -/
def State.panelReady (s : State) : Bool :=
  s.on R.PANEL_STAT_TABLEOK && !s.on R.PANEL_STAT_RAILLOCK && s.rd R.PANEL_STAT_BAND ≠ 15 && !s.sys.latch && s.pgEn 0x71

/-- The displayed plane is known. -/
def State.panelKnown (s : State) : Bool := s.on R.PANEL_STAT_CLEARED && !s.on R.PANEL_STAT_DIRTY

/-- A due MORDANT update starts when nothing holds it (R454, R455, R458, R461, R463): the first clear, no MORDANT update in
progress, a valid table, rails not locked and the panel in range. DIRTY does not hold it: R457 names DIRTY for a PANEL_CMD
only, and R463 lets a failed one start as soon as R454 and R448 permit. -/
def State.mordantNext (s : State) : State :=
  if s.panel.mordDue && s.panel.mord = none && s.panelReady && s.on R.PANEL_STAT_CLEARED then s.startMord 4 else s

/-- The next of a waiting host request and a due REFRESH starts (R455, R456, R462); a REFRESH, which drives the mordant area too,
waits for the first clear and for the end of a MORDANT update. -/
def State.mainNext (s : State) : State :=
  if s.panel.main.isSome || !s.panelReady || s.mode = 7 then s
  else
    let late := s.panel.refreshAt + 10 * ticksPerSecond ≤ s.tb.toNat
    let startRefresh (s : State) : State :=
      if s.panel.mord.isSome then s
      else
        let s := { s with panel := { s.panel with refreshDue := false } }.startMain 5 false
        if s.on R.PANEL_MCTL_EN then s.startMord 5 else s
    match s.panel.request with
    | some k =>
      if s.panel.refreshDue && late && s.on R.PANEL_STAT_CLEARED then startRefresh s
      else { s with panel := { s.panel with request := none } }.startMain k false
    | none => if s.panel.refreshDue && s.on R.PANEL_STAT_CLEARED then startRefresh s else s

/-- PANEL_LAST shows how an update ended. -/
def State.panelLast (s : State) (outcome reason : Nat) (u : PanelUpdate) : State :=
  s.setReg R.PANEL_LAST (BitVec.ofNat 32 (outcome * 0x10000000 + u.kind * 0x1000000 + reason * 0x10000
    + u.band * 0x100 + u.frame))

/-- An update in progress ends FAILED with a reason (R448, R459). A MORDANT update stays due (R463). -/
def State.failUpdate (s : State) (reason : Nat) (u : PanelUpdate) : State :=
  let s := ((s.panelLast 2 reason u).wr R.PANEL_STAT_DIRTY 1).wr R.PANEL_STAT_LASTRSN reason
  let s := if u.kind = 4 then { s with panel := { s.panel with mordDue := true } } else s
  s.raise Ev.panelUpdateFailed (u.kind * 0x1000000 + reason)

/-- Every update in progress fails. -/
def State.failUpdates (s : State) (reason : Nat) : State :=
  let us := s.panel.main.toList ++ s.panel.mord.toList
  let s := { s with panel := { s.panel with main := none, mord := none } }
  (us.foldl (fun s u => s.failUpdate reason u) s).showPanel

/-- The longest waveform of an update (R452). -/
def State.updateFrames (s : State) (u : PanelUpdate) : Nat :=
  u.pixels.foldl (fun n p => max n (s.waveFrames u.band p.2.1)) 0

/-- An update completes (R452, R458, R461): the first CLEAR is followed by a MORDANT update where EN is 1; a CLEAR or FULL that
drives every pixel leaves no forcing marker. -/
def State.finishUpdate (s : State) (u : PanelUpdate) : State :=
  let s := s.shownWith u fun _ => true
  let s := { s with panel := { s.panel with railFaults := 0 } }
  let s := (s.panelLast 1 0 u).inc R.PANEL_UPDCNT_COUNT
  let s := if u.kind = 1 || u.kind = 2 then s.wr R.PANEL_STAT_DIRTY 0 else s
  let s := if u.kind = 1 && !s.on R.PANEL_STAT_CLEARED then
      let s := s.wr R.PANEL_STAT_CLEARED 1
      { s with panel := { s.panel with mordDue := s.panel.mordDue || s.on R.PANEL_MCTL_EN } }
    else s
  let s := if (u.kind = 1 || u.kind = 2) && u.pixels.length = s.panelW * s.panelH then s.wr R.PANEL_STAT_MARKER 0 else s
  let s := s.raise Ev.panelUpdateDone (u.kind * 0x1000000 + u.band * 0x100 + u.frame)
  let s := if u.kind = 4 then
      let s := s.raise Ev.panelMordantDone u.frame
      if u.marker = s.on R.PANEL_STAT_MARKER then s
      else (s.wrb R.PANEL_STAT_MARKER u.marker).raise
        (if u.marker then Ev.panelMarkerShown else Ev.panelMarkerRemoved) 0
    else s
  s.panelLight

/-- An update that has run its longest waveform ends. -/
def State.endUpdates (s : State) : State :=
  let s := match s.panel.main with
    | some u => if s.updateFrames u ≤ u.frame then
        { s with panel := { s.panel with main := none } }.finishUpdate u else s
    | none => s
  let s := match s.panel.mord with
    | some u => if s.updateFrames u ≤ u.frame then
        { s with panel := { s.panel with mord := none } }.finishUpdate u else s
    | none => s
  s.showPanel

/-- The drive codes of an update's pixels in its next frame. -/
def State.frameCodes (s : State) (u : PanelUpdate) : List (Nat × Nat) :=
  u.pixels.filterMap fun p =>
    if u.frame < s.waveFrames u.band p.2.1 then some (p.1, s.waveCode u.band p.2.1 u.frame) else none

/-- The updates in progress drive their next frame. -/
def State.driveFrame (s : State) : State :=
  if s.panel.rails ≠ .up then s
  else
    let us := s.panel.main.toList ++ s.panel.mord.toList
    if us = [] then s
    else
      let next (u : PanelUpdate) : PanelUpdate := { u with frame := u.frame + 1 }
      let s := s.out (.panelFrame (us.flatMap s.frameCodes))
      { s with panel := { s.panel with main := s.panel.main.map next, mord := s.panel.mord.map next } }

/-- A change of FORCE_STAT.ACTIVE makes a MORDANT update due (R461). -/
def State.markerDue (s : State) : State :=
  let drawn := match s.panel.mord with
    | some u => u.marker
    | none => s.on R.PANEL_STAT_MARKER
  if s.on R.PANEL_MCTL_EN && drawn ≠ s.markerWanted && !s.panel.mordDue then
    { s with panel := { s.panel with mordDue := true } }
  else s

/-- PANEL_FRAME (R452): a frame boundary, common to every update in progress (R455): updates that have run their longest
waveform end, due ones start, and the next frame is driven. With none left the rails go down (R447). -/
def execPanelFrame (s : State) : Out :=
  if !s.pgEn 0x71 then .next s
  else
    let s := s.endUpdates.markerDue.mordantNext.mainNext
    let s := s.driveFrame
    .next (if s.panel.main = none && s.panel.mord = none then s.railsOff else s)

/-- RAILSUP (R446): the next rail of the sequence reaches 90 %. -/
def execRailsup (s : State) : Out :=
  .next (match s.panel.rails with
    | .rising n =>
      if n < 4 then { s with panel := { s.panel with rails := .rising (n + 1) } }
      else { s.wr R.PANEL_STAT_RAILSUP 1 with panel := { s.panel with rails := .up } }
    | _ => s)

/-- RAILS_DOWN (R447): a rail falls below 10 % and the next one is disabled. With all down, an update in progress powers
them up again. -/
def execRailsDown (s : State) : Out :=
  .next (match s.panel.rails with
    | .falling n =>
      if 1 < n then { s with panel := { s.panel with rails := .falling (n - 1) } }
      else
        let s := { s with panel := { s.panel with rails := .off } }
        if s.panel.main.isSome || s.panel.mord.isSome then s.railsOn else s
    | _ => s)

/-- RAIL_FAULT (R448): a rail (0 VGH, 1 VGL, 2 VSH, 3 VSL, 4 VCOM) misses its power-up or leaves its band. -/
def execRailFault (rail : Fin 5) (s : State) : Out :=
  if s.panel.rails = .off then .next s
  else
    let n := (s.panel.main.toList ++ s.panel.mord.toList).length
    let s := (s.wr R.PANEL_STAT_DIRTY 1).raise Ev.panelRailFault rail.val
    let s := s.failUpdates 0x10
    let s := { s with panel := { s.panel with railFaults := s.panel.railFaults + n } }
    let s := if 3 ≤ s.panel.railFaults && !s.on R.PANEL_STAT_RAILLOCK then
        (s.wr R.PANEL_STAT_RAILLOCK 1).raise Ev.panelRailLock 0
      else s
    .next s.railsOff

/-- INITIAL_CLEAR (R458): after self-test, with a valid table and the panel in range, the Marshal clears the whole panel. -/
def execInitialClear (s : State) : Out :=
  .next (if s.panelReady && !s.on R.PANEL_STAT_CLEARED && s.panel.main = none && s.mode ≠ 0 && s.mode ≠ 7 && 7 ≤ s.sys.stage
    then s.startMain 1 true else s)

/-- REFRESH (R451, R456): a REFRESH falls due every PANEL_CFG.REFRESH hours. -/
def execRefresh (s : State) : Out :=
  .next (if s.rd R.PANEL_CFG_REFRESH = 0 || s.panel.refreshDue then s
    else { s with panel := { s.panel with refreshDue := true, refreshAt := s.tb.toNat } }.mainNext)

/-- REFRESH_LATE (R463): a MORDANT update has not completed within 60 s of becoming due. -/
def execRefreshLate (seconds : Nat) (s : State) : Out :=
  .next (if s.panel.mordDue || s.panel.mord.any (fun u => u.kind = 4) then
      s.raise Ev.panelRefreshLate (min seconds 0xFFFFFFFF)
    else s)

/-- The fast power-down of the supply-fail latch and of a block reset (R459). -/
def State.panelAbandon (s : State) : State :=
  let s := s.failUpdates 0x11
  let s := { s with panel := { s.panel with rails := .off } }
  (s.wr R.PANEL_STAT_RAILSUP 0).panelLight

/-- The panel's temperature in 0.1 degrees C at a telemetry sweep (R450). -/
def State.panelTemp (s : State) (t : Int) : State :=
  let s := s.wrInt R.PANEL_TEMP_DECI t
  let word := s.rd R.PANEL_TEMP_DECI
  let cur := s.rd R.PANEL_STAT_BAND
  if t < -200 || 500 < t then
    let s := { s with panel := { s.panel with inRange := 0 } }
    if cur = 15 then s
    else ((s.wr R.PANEL_STAT_BAND 15).raise Ev.panelBandChange 15).raise Ev.panelOutOfRange word
  else if cur = 15 then
    if s.panel.inRange = 0 then { s with panel := { s.panel with inRange := 1 } }
    else
      let b := min 7 ((2 * (t + 200)) / 175).toNat
      let s := ((s.wr R.PANEL_STAT_BAND b).raise Ev.panelBandChange b).raise Ev.panelInRange word
      s.mordantNext.mainNext
  else
    match (List.range 8).find? fun b => b ≠ cur && -400 + 175 * (b : Int) + 10 < 2 * t
        && 2 * t < -400 + 175 * ((b : Int) + 1) - 10 with
    | some b => (s.wr R.PANEL_STAT_BAND b).raise Ev.panelBandChange b
    | none => s

/-! ### Commands and writes of the page -/

/-- The PARTIAL rectangle is legal (R451). -/
def State.rectOk (s : State) : Bool :=
  let x := s.rd R.PANEL_RECT0_X0
  let y := s.rd R.PANEL_RECT0_Y0
  let w := s.rd R.PANEL_RECT1_W
  let h := s.rd R.PANEL_RECT1_H
  x % 8 = 0 && w % 8 = 0 && 8 ≤ w && 8 ≤ h && x + w ≤ s.panelW && y + h ≤ s.panelH

/-- UPDATE_REFUSED with a reason (R457). -/
def State.panelRefuse (s : State) (rsn : Nat) : State :=
  (s.wr R.PANEL_STAT_LASTRSN rsn).raise Ev.panelUpdateRefused rsn

/-- PANEL_CMD, checked in the order of R457. A code that names no kind is ignored. LASTRSN keeps the last refusal or
failure. A CLEAR before the first one drives the whole panel, as R458's does (log entry 202). -/
def State.panelCmd (s : State) (v : Word) : State :=
  let k := bitsOf v 7 0
  if bitsOf v 31 16 ≠ 0xE7AB then s.panelRefuse 0x22
  else if k = 0 || 4 < k then s
  else if s.mode = 0 || (s.mode = 7 && k ≠ 4) then s.panelRefuse 0x02
  else if !s.on R.PANEL_STAT_TABLEOK then s.panelRefuse 0x07
  else if s.on R.PANEL_STAT_RAILLOCK then s.panelRefuse 0x05
  else if s.rd R.PANEL_STAT_BAND = 15 then s.panelRefuse 0x04
  else if k = 3 && !s.rectOk then s.panelRefuse 0x06
  else if (k = 3 || k = 4) && s.on R.PANEL_STAT_DIRTY then s.panelRefuse 0x03
  else if k ≠ 1 && !s.on R.PANEL_STAT_CLEARED then s.panelRefuse 0x08
  else if k = 4 then
    if s.panel.mordDue then s.panelRefuse 0x21
    else { s with panel := { s.panel with mordDue := true } }.mordantNext
  else if s.panel.request.isSome then s.panelRefuse 0x21
  else if s.panel.main.isSome then { s with panel := { s.panel with request := some k } }.showPanel
  else s.startMain k (!s.on R.PANEL_STAT_CLEARED)

/-- The mordant area's registers are legal (R460). -/
def State.mordantOk (s : State) : Bool :=
  let x := s.rd R.PANEL_MPOS_X
  let y := s.rd R.PANEL_MPOS_Y
  let w := s.rd R.PANEL_MSIZE_W
  let h := s.rd R.PANEL_MSIZE_H
  let fg := s.rd R.PANEL_MCTL_FG
  let bg := s.rd R.PANEL_MCTL_BG
  x % 8 = 0 && w % 8 = 0 && 64 ≤ w && w ≤ 200 && h % 8 = 0 && 32 ≤ h && h ≤ 96
    && x + w ≤ s.panelW && y + h ≤ s.panelH && fg ≠ bg
    && (List.range 8).all fun b => [4 * fg + bg, 4 * bg + fg, 5 * fg, 5 * bg].all fun e => s.waveFrames b e ≤ 24

/-- A write of PANEL_MPOS, PANEL_MSIZE or PANEL_MCTL (R460): only while EN is 0, but for the write that clears EN alone. -/
def State.mordantWrite (s : State) (a : Nat) (v : Word) : WRes :=
  let t := s.plainWrite a v
  if s.on R.PANEL_MCTL_EN then
    if a = R.PANEL_MCTL && t.rd R.PANEL_MCTL_FG = s.rd R.PANEL_MCTL_FG && t.rd R.PANEL_MCTL_BG = s.rd R.PANEL_MCTL_BG then
      accept (if t.on R.PANEL_MCTL_EN then t else { t with panel := { t.panel with mordDue := false } })
    else refuse .mode s
  else if !t.mordantOk then refuse .range s
  else if t.on R.PANEL_MCTL_EN then accept { t with panel := { t.panel with mordDue := true } }.mordantNext
  else accept t

/-- The words of the host plane and of the mordant bitmap. -/
def State.planeWords (s : State) : Nat := s.panelW * s.panelH / 16
def State.bitmapWords (s : State) : Nat := s.bitmapRow * s.rd R.PANEL_MSIZE_H

/-- The next word address, wrapping to 0 after the last. -/
def wrapNext (n size : Nat) : Nat := if n + 1 < size then n + 1 else 0

/-- A read of PANEL_WDATA or PANEL_MWDATA by a requester advances its address (R445, R460). -/
def State.panelData (s : State) (r : Req) (mordant : Bool) : Word × State :=
  let f := s.bf r (if mordant then R.PANEL_MWADDR_WORD else R.PANEL_WADDR_WORD)
  let n := s.rd f
  let size := if mordant then s.bitmapWords else s.planeWords
  (SMap.get (fun _ => 0) (if mordant then s.panel.bitmap else s.panel.hostPlane) n, s.wr f (wrapNext n size))

/-- A write of PANEL_WDATA or PANEL_MWDATA. -/
def State.panelPut (s : State) (r : Req) (mordant : Bool) (v : Word) : State :=
  let n := s.rd (s.bf r (if mordant then R.PANEL_MWADDR_WORD else R.PANEL_WADDR_WORD))
  let s1 := (s.panelData r mordant).2
  if mordant then { s1 with panel := { s1.panel with bitmap := SMap.set (fun _ => 0) n v s1.panel.bitmap } }
  else { s1 with panel := { s1.panel with hostPlane := SMap.set (fun _ => 0) n v s1.panel.hostPlane } }

/-- A write to the PANEL page by the host or a management session (R464). -/
def State.panelWrite (s : State) (r : Req) (a : Nat) (v : Word) : WRes :=
  if a = R.PANEL_VCOM then if 2500 < bitsOf v 11 0 then refuse .range s else accept (s.plainWrite a v)
  else if a = R.PANEL_LIGHT then accept (s.plainWrite a v).panelLight
  else if a = R.PANEL_CMD then accept (s.panelCmd v)
  else if a = R.PANEL_WADDR then
    if s.planeWords ≤ bitsOf v 14 0 then refuse .range s else accept (s.wr (s.bf r R.PANEL_WADDR_WORD) (bitsOf v 14 0))
  else if a = R.PANEL_MWADDR then
    if 671 < bitsOf v 9 0 then refuse .range s else accept (s.wr (s.bf r R.PANEL_MWADDR_WORD) (bitsOf v 9 0))
  else if a = R.PANEL_WDATA then accept (s.panelPut r false v)
  else if a = R.PANEL_MWDATA then accept (s.panelPut r true v)
  else if a = R.PANEL_MPOS || a = R.PANEL_MSIZE || a = R.PANEL_MCTL then s.mordantWrite a v
  else accept (s.plainWrite a v)

end Sys2Proof.Machine
end

