-- ==== Sys2Proof/Machine/Dio.lean ====
section
/-!
DEFINITION. Machine/Dio.lean: the local 24 V inputs and outputs (12 R425 to R443).
-/

namespace Sys2Proof.Machine

/-- A mask with bit n set or cleared. -/
def maskSet (m n : Nat) (b : Bool) : Nat := if b then m ||| 2 ^ n else m &&& (m ^^^ 2 ^ n)

/-! ### Inputs -/

/-- DI_CHANGE (R429): a local input changes its raw level. -/
def execDiChange (n : Fin 32) (level : Bool) (s : State) : Out :=
  .next { s with dio := { s.dio with raw := maskSet s.dio.raw n.val level } }

/-- INPUT_FILTER (R429): the raw level has been held for the filter time and becomes the filtered value. -/
def execInputFilter (n : Fin 32) (s : State) : Out :=
  .next (if s.pgEn 0x70 then
      { s with dio := { s.dio with filt := maskSet s.dio.filt n.val (s.dio.raw.testBit n.val) } }
    else s)

/-- WIRE_BREAK (R430): with detection on, the input's current has stayed below the threshold for 100 ms. -/
def execWireBreak (n : Fin 32) (s : State) : Out :=
  let k := n.val
  .next (if s.pgEn 0x70 && (s.rd R.DIO_WBEN_EN).testBit k && !(s.rd R.DIO_WB_PRESENT).testBit k then
      ((s.wr ⟨R.DIO_WB, k, k⟩ 1).wr ⟨R.DIO_WBLATCH, k, k⟩ 1).raise (Ev.dioWireBreak.at 0 k) k
    else s)

/-- WIRE_OK (R430): the current has stayed at or above the threshold for 100 ms. -/
def execWireOk (n : Fin 32) (s : State) : Out :=
  let k := n.val
  .next (if s.pgEn 0x70 && (s.rd R.DIO_WB_PRESENT).testBit k then (s.wr ⟨R.DIO_WB, k, k⟩ 0).raise (Ev.dioWireOk.at 0 k) k else s)

/-! ### Output channels -/

/-- The group supply of a channel is present (R439). -/
def State.grpSupplied (s : State) (ch : Nat) : Bool := if ch < 8 then s.on R.DIO_STAT_GRPA else s.on R.DIO_STAT_GRPB

/-- A channel is latched off by a fault (R437). -/
def State.latchedOff (s : State) (ch : Nat) : Bool :=
  (s.rd R.DIO_OUTFLT_OL).testBit ch || (s.rd R.DIO_OUTFLT_OT).testBit ch

/-- A leg serves the channel: leg 1, or leg 2 in its place, and the channel has not failed (R440, R441). -/
def State.legServes (s : State) (ch : Nat) : Bool :=
  !(s.rd R.DIO_LEGS_FAILED).testBit ch && (!s.dio.leg1.testBit ch || (s.rd R.DIO_LEGS_SPARE).testBit ch)

/-- The channel waits to restart after a trip. -/
def State.trippedOff (s : State) (ch : Nat) : Bool := s.dio.tripped.any fun t => t.ch = ch

/-- The channel conducts now. -/
def State.conducts (s : State) (ch : Nat) : Bool :=
  s.dio.out.testBit ch && !s.trippedOff ch && !s.latchedOff ch && s.legServes ch && s.grpSupplied ch

/-- Retries left of a channel (R435). -/
def State.retriesLeft (s : State) (ch : Nat) : Nat :=
  ((s.dio.retries.find? fun r => r.1 = ch).map Prod.snd).getD (s.rd R.DIO_RETRY_COUNT)

/-- The state in which a channel has n retries left, or with none the full count. -/
def State.setRetries (s : State) (ch : Nat) (n : Option Nat) : State :=
  let rest := s.dio.retries.filter fun r => r.1 ≠ ch
  { s with dio := { s.dio with retries := match n with | some k => rest ++ [(ch, k)] | none => rest } }

/-- The programmed safe state of the outputs as a mask (R433): ON, or HOLD with the value last driven from an image, which
means OFF in a channel that has driven none and in a pair unit that is not active. -/
def State.safeMask (s : State) : Nat :=
  (List.range 16).foldl (fun m n =>
    let v := match bitsOf (s.reg R.DIO_SAFE) (2 * n + 1) (2 * n) with
      | 1 => true
      | 2 => s.dio.imageSeen.testBit n && s.dio.imageVal.testBit n && (!s.paired || s.active)
      | _ => false
    maskSet m n v) 0

/-- The local output word of the output image (R428). -/
def State.outputWord (s : State) : Nat :=
  ofBytes ((List.range 2).map fun i => SMap.get (fun _ => 0) s.exec.outImage (s.rd R.DIO_MAP_QOFS + i))

/-- The outputs follow the image (R432, R428, R50): active in RUN, with an image of RUN frozen, QEN set, and the supply
there. -/
def State.followsImage (s : State) : Bool := s.active && s.exec.imaged && s.on R.DIO_MAP_QEN && !s.sys.latch

/-- The outputs take a command mask (R432): what each channel is driven with is its command unless it is latched off, waits
to restart, or no leg serves it. An output that is switched on reports no open wire (R438). -/
def State.drive (s : State) (cmd : Nat) : State :=
  let on := (List.range 16).foldl (fun m n =>
    maskSet m n (cmd.testBit n && !s.latchedOff n && !s.trippedOff n && s.legServes n)) 0
  let s := { s with dio := { s.dio with out := on } }
  s.wr R.DIO_OWFLT_OPEN (s.rd R.DIO_OWFLT_OPEN &&& (0xFFFF - on))

/-- The outputs take a command mask at a latch instant, which DIO_OUT.DRIVEN shows. -/
def State.driveLatch (s : State) (cmd : Nat) : State :=
  let s := s.drive cmd
  s.wr R.DIO_OUT_DRIVEN s.dio.out

/-- A latched-off channel is released with a full retry count (R437). -/
def State.releaseChannel (s : State) (n : Nat) : State :=
  ((s.wr ⟨R.DIO_OUTFLT, n, n⟩ 0).wr ⟨R.DIO_OUTFLT, n + 16, n + 16⟩ 0).setRetries n none

/-- With AUTOCLR set, a latch instant that commands 0 releases a latched-off channel (R437). -/
def State.autoClear (s : State) (cmd : Nat) : State :=
  if s.on R.DIO_CTL_AUTOCLR then
    (List.range 16).foldl (fun s n => if s.latchedOff n && !cmd.testBit n then s.releaseChannel n else s) s
  else s

/-- The outputs apply their command at a latch instant (R432 to R434, R437). -/
def State.dioApply (s : State) : State :=
  if s.mode = 0 || s.mode = 1 || s.mode = 6 then s.wr R.DIO_STAT_DRIVING 0 |>.driveLatch 0
  else if s.followsImage then
    let w := s.outputWord
    let s := s.autoClear w
    let s := { s with dio := { s.dio with imageVal := w, imageSeen := 0xFFFF } }
    let s := (s.wr R.DIO_STAT_DRIVING 1).driveLatch w
    if s.on R.DIO_STAT_SAFE then
      (List.range 16).foldl (fun s n => s.raise (Ev.dioSafeLeft.at 0 n) n) (s.wr R.DIO_STAT_SAFE 0)
    else s
  else ((s.wr R.DIO_STAT_DRIVING 0).autoClear s.safeMask).driveLatch s.safeMask

/-- The outputs leave the image for their programmed safe state at once: at the supply-fail latch (01 R50) and on entry to
PARK, which has no latch instants (R432). Outputs that INIT and RECOVERY hold off stay off. -/
def State.dioSafe (s : State) : State :=
  if !s.pgEn 0x70 || s.mode = 0 || s.mode = 1 || s.mode = 6 then s
  else (s.wr R.DIO_STAT_DRIVING 0).drive s.safeMask

/-- Every output is off: the module logic has stopped (01 R50). -/
def State.dioOff (s : State) : State := (s.wr R.DIO_STAT_DRIVING 0).drive 0

/-- The local input range as the module captures it (R427). -/
def State.localRange (s : State) : List Byte :=
  let fault := s.rd R.DIO_OUTFLT_OL ||| s.rd R.DIO_OUTFLT_OT ||| s.rd R.DIO_OWFLT_OPEN ||| s.rd R.DIO_LEGS_FAILED
    ||| s.dio.leg1 ||| s.dio.leg2
  let st := s.rd R.DIO_STAT_GRPA + 2 * s.rd R.DIO_STAT_GRPB + 4 * s.rd R.DIO_STAT_SAFE
    + (if s.rd R.DIO_LEGS_SPARE = 0 then 0 else 8)
  toBytes 4 (s.rd R.DIO_IN_VALUE &&& (0xFFFFFFFF - s.rd R.DIO_WB_PRESENT)) ++ toBytes 4 (s.rd R.DIO_WB_PRESENT)
    ++ toBytes 2 fault ++ toBytes 2 (s.rd R.DIO_OUT_READBACK) ++ [BitVec.ofNat 8 st, 0, 0, 0]

/-- The latch instant at the local I/O (R300, R431, R432): outputs applied, inputs sampled and the status captured. `pins`
are the outputs whose pin is above 12 V; `synced` says that the module's synchronisation lets it sample. -/
def State.dioLatch (s : State) (pins : Nat) (synced : Bool) : State :=
  if !s.pgEn 0x70 then s
  else
    let s := s.dioApply.wr R.DIO_OUT_READBACK pins
    let s := if synced then s.wr R.DIO_IN_VALUE s.dio.filt else s
    { s with dio := { s.dio with captured := s.localRange } }

/-- The local input range enters the input image at input complete (R425, R428). -/
def State.dioInputs (s : State) : State :=
  if s.pgEn 0x70 && s.on R.DIO_MAP_IEN then s.setBytes (iBase + s.rd R.DIO_MAP_IOFS) s.dio.captured else s

/-! ### Diagnostics -/

/-- A trip (R435, R436): the channel switches off; it waits to restart while a retry remains, else it is latched off. -/
def State.trip (s : State) (ch : Nat) (ot : Bool) (temp : Nat) : State :=
  let left := s.retriesLeft ch
  let data := left * 0x100 + ch
  let s := if ot then s.raise (Ev.dioOvertemp.at 0 ch) (temp % 256 * 0x10000 + data)
    else s.raise (Ev.dioOverload.at 0 ch) data
  let s := { s with dio := { s.dio with out := maskSet s.dio.out ch false } }
  if left = 0 then
    let s := s.wr ⟨R.DIO_OUTFLT, if ot then ch + 16 else ch, if ot then ch + 16 else ch⟩ 1
    s.raise (Ev.dioOverloadLatched.at 0 ch) ch
  else { s with dio := { s.dio with tripped :=
           (s.dio.tripped.filter fun t => t.ch ≠ ch) ++ [⟨ch, ot, false, false⟩] } }

/-- A trip counts for a channel that conducts, or that the present latch instant has switched off (R439). -/
def State.canTrip (s : State) (ch : Nat) : Bool :=
  s.pgEn 0x70 && s.grpSupplied ch && s.legServes ch && !s.latchedOff ch && !s.trippedOff ch

/-- OVERLOAD (R435): the channel has been in current limit for the trip time. -/
def execOverload (ch : Fin 16) (s : State) : Out :=
  .next (if s.canTrip ch.val then s.trip ch.val false 0 else s)

/-- OVERTEMP (R436): a channel over-temperature trip at a temperature in degrees C. -/
def execOvertemp (ch : Fin 16) (temp : Nat) (s : State) : Out :=
  .next (if s.canTrip ch.val then s.trip ch.val true temp else s)

/-- The state in which a trip is t. -/
def State.setTrip (s : State) (t : Trip) : State :=
  { s with dio := { s.dio with tripped := s.dio.tripped.map fun u => if u.ch = t.ch then t else u } }

/-- What the image or the safe state commands a channel to now. -/
def State.commanded (s : State) (ch : Nat) : Bool :=
  if s.on R.DIO_STAT_SAFE then s.safeMask.testBit ch
  else if s.on R.DIO_STAT_DRIVING then s.dio.imageVal.testBit ch
  else if s.mode = 0 || s.mode = 1 || s.mode = 6 then false else s.safeMask.testBit ch

/-- The channel of a trip whose waits are over switches on again if it is still commanded on, which uses one retry. -/
def State.restart (s : State) (t : Trip) : State :=
  if !t.timed || (t.ot && !t.cooled) then s.setTrip t
  else
    let n := s.retriesLeft t.ch
    let s := { s with dio := { s.dio with tripped := s.dio.tripped.filter fun u => u.ch ≠ t.ch } }
    if s.commanded t.ch then
      let s := s.setRetries t.ch (some (n - 1))
      { s with dio := { s.dio with out := maskSet s.dio.out t.ch true } }
    else s

/-- OUTPUT_RESTART (R435): 100 ms after the trip; none while the block is disabled (03 R103). -/
def execOutputRestart (ch : Fin 16) (s : State) : Out :=
  .next (if !s.pgEn 0x70 then s else match s.dio.tripped.find? fun t => t.ch = ch.val with
    | some t => s.restart { t with timed := true }
    | none => s)

/-- RESTART_TEMPERATURE (R436): the channel has cooled to the restart temperature. -/
def execRestartTemperature (ch : Fin 16) (s : State) : Out :=
  .next (if !s.pgEn 0x70 then s else match s.dio.tripped.find? fun t => t.ch = ch.val with
    | some t => s.restart { t with cooled := true }
    | none => s)

/-- RETRY_RESET (R435): the channel has been on for 1 s without a trip. -/
def execRetryReset (ch : Fin 16) (s : State) : Out :=
  .next (if s.pgEn 0x70 && s.conducts ch.val then s.setRetries ch.val none else s)

/-- OPEN_WIRE (R438): with the test on, the off channel's pin has stayed above 6 V for 50 ms. -/
def execOpenWire (ch : Fin 16) (s : State) : Out :=
  let n := ch.val
  .next (if s.pgEn 0x70 && (s.rd R.DIO_OWEN_EN).testBit n && !s.dio.out.testBit n && s.grpSupplied n
      && !(s.rd R.DIO_OWFLT_OPEN).testBit n then
      (s.wr ⟨R.DIO_OWFLT, n, n⟩ 1).raise (Ev.dioOpenWire.at 0 n) n
    else s)

/-- OPEN_WIRE_CLEARED (R438): the off channel's pin has stayed below 6 V for 50 ms. -/
def execOpenWireCleared (ch : Fin 16) (s : State) : Out :=
  let n := ch.val
  .next (if s.pgEn 0x70 && (s.rd R.DIO_OWFLT_OPEN).testBit n then
      (s.wr ⟨R.DIO_OWFLT, n, n⟩ 0).raise (Ev.dioOpenWireCleared.at 0 n) n
    else s)

/-- The block takes note of the supply of group A (0) or B (1) (R439). -/
def State.showSupply (s : State) (g : Nat) : State :=
  let f := if g = 0 then R.DIO_STAT_GRPA else R.DIO_STAT_GRPB
  let present := s.dio.supply.testBit g
  if s.on f = present then s
  else
    let s := s.wrb f present
    let s := if present then s
      else s.wr R.DIO_OWFLT_OPEN (s.rd R.DIO_OWFLT_OPEN &&& (if g = 0 then 0xFF00 else 0x00FF))
    s.raise (Ev.dioGroupSupply.at 0 (8 * g)) (present.toNat * 0x100 + 8 * g)

/-- GROUP_SUPPLY (R439): the supply of group A (0) or B (1) becomes present or absent; a disabled block takes note of it when
it is enabled again (03 R103). -/
def execGroupSupply (g : Fin 2) (present : Bool) (s : State) : Out :=
  let s := { s with dio := { s.dio with supply := maskSet s.dio.supply g.val present } }
  .next (if s.pgEn 0x70 then s.showSupply g.val else s)

/-! ### Legs -/

/-- Leg 2 takes the place of a failed leg 1 (R441). -/
def State.spareLeg (s : State) (ch : Nat) : State :=
  let s := { s with dio := { s.dio with sparing := maskSet s.dio.sparing ch false } }
  let s := s.wr ⟨R.DIO_LEGS, ch + 16, ch + 16⟩ 1
  (s.raise (Ev.dioLegSpared.at 0 ch) ch).substitution 6 ch

/-- LEG_TEST (R440, R441): a test of a channel's legs. `res` names a failed leg (0 or 1) and whether it conducts while off; it is
isolated. A channel that failed through leg 2 is tried again after a reset, and its leg 2 is not counted twice. -/
def execLegTest (ch : Fin 16) (res : Option (Fin 2 × Bool)) (s : State) : Out :=
  let n := ch.val
  match res with
  | none => .next s
  | some (leg, stuck) =>
    let known := if leg.val = 0 then s.dio.leg1 else s.dio.leg2
    if !s.pgEn 0x70 || known.testBit n && (leg.val = 0 || (s.rd R.DIO_LEGS_FAILED).testBit n) then .next s
    else
      let s := s.raise (Ev.dioLegFault.at 0 n) (stuck.toNat * 0x200 + leg.val * 0x100 + n)
      let spare := (s.rd R.DIO_LEGS_SPARE).testBit n
      if leg.val = 0 then
        let s := { s with dio := { s.dio with leg1 := maskSet s.dio.leg1 n true } }
        .next (if spare || s.dio.leg2.testBit n then s.wr ⟨R.DIO_LEGS, n, n⟩ 1
          else if s.on R.DIO_CTL_LEGSPARE then { s with dio := { s.dio with sparing := maskSet s.dio.sparing n true } }
          else s)
      else
        let s := { s with dio := { s.dio with leg2 := maskSet s.dio.leg2 n true } }
        let s := if spare || known.testBit n then s else s.spareFall 6 (s.spareFree 6 - 1)
        .next (s.wr ⟨R.DIO_LEGS, n, n⟩ 1)

/-- LEG_SPARED (R441): within 1 ms of the isolation of leg 1, leg 2 takes its place. -/
def execLegSpared (ch : Fin 16) (s : State) : Out :=
  .next (if s.pgEn 0x70 && s.dio.sparing.testBit ch.val then s.spareLeg ch.val else s)

/-- DIO_CMD (R441). -/
def State.dioCmd (s : State) (v : Word) : State :=
  let ch := bitsOf v 11 8
  if bitsOf v 31 16 ≠ 0xD10C || bitsOf v 7 0 ≠ 1 then s
  else if (s.rd R.DIO_LEGS_SPARE).testBit ch || !s.dio.leg1.testBit ch || (s.rd R.DIO_LEGS_FAILED).testBit ch then
    s.wr R.DIO_STAT_LASTRSN 0x0C
  else (s.wr R.DIO_STAT_LASTRSN 0).spareLeg ch

/-- SURGE (R443): a clamp current counts a surge of a pin group. -/
def execSurge (g : Fin 8) (s : State) : Out :=
  let f := R.DIO_SURGE0_COUNT.off (4 * g.val)
  let s := s.inc f
  .next (s.raise Ev.dioSurge (s.rd f * 0x10000 + g.val * 0x20))

/-- SAFE_ENTERED (R434): the logic-silence timer expires and every output goes to its safe state. The timer runs while the
outputs follow the image. -/
def execSafeEntered (s : State) : Out :=
  .next (if s.pgEn 0x70 && s.on R.DIO_STAT_DRIVING && !s.on R.DIO_STAT_SAFE then
      let s := (s.wr R.DIO_STAT_SAFE 1).inc R.DIO_SILCNT_COUNT
      let s := s.drive s.safeMask
      (List.range 16).foldl (fun s n =>
        s.raise (Ev.dioSafeEntered.at 0 n) (bitsOf (s.reg R.DIO_SAFE) (2 * n + 1) (2 * n) * 0x100 + n)) s
    else s)

/-! ### Writes of the page -/

/-- A write to the DIO page (R425, R426); `overlaps` says whether a range of the I area meets an I-slot range or status byte of
the slot table in force or staged. -/
def State.dioWrite (s : State) (overlaps : Nat → Nat → Bool) (a : Nat) (v : Word) : WRes :=
  if a = R.DIO_MAP then
    let i := bitsOf v 14 0
    if s.mode ≠ 2 then refuse .mode s
    else if i % 4 ≠ 0 || bitsOf v 30 16 % 4 ≠ 0 || 0x7FF0 < i || overlaps i 16 then refuse .range s
    else accept (s.plainWrite a v)
  else if a = R.DIO_SILENCE then
    if bitsOf v 9 0 = 0 || 1000 < bitsOf v 9 0 then refuse .range s else accept (s.plainWrite a v)
  else if a = R.DIO_SAFE then
    if (List.range 16).any fun n => bitsOf v (2 * n + 1) (2 * n) = 3 then refuse .range s else accept (s.plainWrite a v)
  else if R.DIO_IFILT0 ≤ a && a < R.DIO_IFILT0 + 16 then
    if (List.range 8).any fun n => 6 < bitsOf v (4 * n + 3) (4 * n) then refuse .range s else accept (s.plainWrite a v)
  else if a = R.DIO_WBEN then
    let s := s.plainWrite a v
    accept (s.wr R.DIO_WB_PRESENT (s.rd R.DIO_WB_PRESENT &&& v.toNat))
  else if a = R.DIO_OWEN then
    let s := s.plainWrite a v
    accept (s.wr R.DIO_OWFLT_OPEN (s.rd R.DIO_OWFLT_OPEN &&& v.toNat))
  else if a = R.DIO_OUTFLT then
    let s1 := s.plainWrite a v
    accept ((List.range 16).foldl (fun t n => if s.latchedOff n && !s1.latchedOff n then t.setRetries n none else t) s1)
  else if a = R.DIO_CMD then accept (s.dioCmd v)
  else accept (s.plainWrite a v)

end Sys2Proof.Machine
end

