-- ==== Sys2Proof/Machine/Floor.lean ====
section
/-!
DEFINITION. Machine/Floor.lean: the service floors (02 R72 to R76).
-/

namespace Sys2Proof.Machine

/-- The bit of an element in SYS_FLOOR. -/
def floorBit : FloorElem → Nat
  | .rom => 0 | .marshal => 1 | .hostPort => 2 | .eth1 => 3 | .radio => 4
  | .pll => 16 | .core => 17 | .sram => 18 | .evtCox => 19 | .retain => 20 | .io => 21 | .loop => 22

/-- The element is working. -/
def State.works (s : State) (e : FloorElem) : Bool := (s.reg R.SYS_FLOOR).getLsbD (floorBit e)

/-- The state in which an element's bit is b. -/
def State.setWorks (s : State) (e : FloorElem) (b : Bool) : State := s.wrb ⟨R.SYS_FLOOR, floorBit e, floorBit e⟩ b

/-- The loaded program uses loops. -/
def State.usesLoops (s : State) : Bool :=
  match s.prog with
  | some p => !p.loopData.isEmpty
  | none => false

/-- The reason of the first element that the control floor misses, in the order of R73. R91 names no reason for the retain
element: DESIGN CHOICE, log entry 163. -/
def State.floorMissing (s : State) : Option Nat :=
  if !s.works .pll then some 0x05
  else if !s.works .core then some 0x06
  else if !s.works .sram then some 0x07
  else if !s.works .evtCox then some 0x08
  else if !s.works .retain then some 0x0B
  else if !s.works .io then some 0x0A
  else if s.usesLoops && !s.works .loop then some 0x09
  else none

/-- The diagnostic floor is met (R72). -/
def State.diagMet (s : State) : Bool := s.works .rom && s.works .marshal && (s.works .hostPort || s.works .eth1 || s.works .radio)

/-- DIAG and CONTROL follow the elements. -/
def State.evalFloor (s : State) : State :=
  let met := s.diagMet
  (s.wrb R.SYS_FLOOR_DIAG met).wrb R.SYS_FLOOR_CONTROL (met && s.floorMissing.isNone)

/-- An element changes state once the floors have been evaluated (R74, R76): FLOOR_CHANGE; in RUN and TRACK the loss of the
control floor asks for STOP with the reason of the element. -/
def State.floorElement (s : State) (e : FloorElem) (b : Bool) : State :=
  if s.sys.stage < 7 || s.works e = b then s
  else
    let had := s.on R.SYS_FLOOR_CONTROL
    let s := (s.setWorks e b).evalFloor
    let s := s.raise Ev.sysFloorChange (s.reg R.SYS_FLOOR).toNat
    if had && !s.on R.SYS_FLOOR_CONTROL && (s.mode = 3 || s.mode = 4) then s.askStop (s.floorMissing.getD 0) else s

/-- An enabled task is pinned to a logical core (02 R73, R76). -/
def State.pinned (s : State) (l : Nat) : Bool :=
  (List.range 64).any fun t => s.taskEnabled t && s.taskCore t = l

/-- A core works, and so does the core of every logical core that enabled tasks are pinned to (R76, 16 R517). -/
def State.coresWork (s : State) : Bool :=
  ((List.range 5).any fun c => !(s.core c).failed) &&
    (List.range 4).all fun l => !s.pinned l || !(s.core (s.physOf l)).failed

/-- A block of the program lies in a bank of main SRAM (10 R372). -/
def Program.inBank (p : Program) (b : Nat) : Bool :=
  p.blocks.any fun x => decide (x.base < 0x200000 * (b + 1)) && decide (0x200000 * b < x.base + x.data.length)

/-- Every bank of main SRAM that holds the loaded program works, or its replacement does (R73). -/
def State.banksWork (s : State) : Bool :=
  (List.range 16).all fun b => !(s.prog.any fun p => p.inBank b) || s.on (R.MEM_BANK_OK.off (4 * b))

/-- The floors as the program and the task configuration that now stand have them (R73, R76): which cores and banks are needed
and whether loops are used follow the program in force. -/
def State.floorNow (s : State) : State := ((s.floorElement .core s.coresWork).floorElement .sram s.banksWork).evalFloor

end Sys2Proof.Machine
end

