-- ==== Sys2Proof/Machine/Retain.lean ====
section
/-!
DEFINITION. Machine/Retain.lean: retain storage (10 R383 to R395), hold-up (10 R396, R397),
and the memories' repairs (10 R369 to R374).
-/

namespace Sys2Proof.Machine

/-! ### Generations -/

/-- The content of a shadow slot. -/
def State.slot (s : State) (n : Nat) : Option Generation := if n = 0 then s.memory.slot0 else s.memory.slot1

/-- The state in which a shadow slot holds g. -/
def State.setSlot (s : State) (n : Nat) (g : Option Generation) : State :=
  if n = 0 then { s with memory := { s.memory with slot0 := g } }
  else { s with memory := { s.memory with slot1 := g } }

/-- The slot holds a committed generation (R383), with its number. -/
def State.committedGen (s : State) (n : Nat) : Option Nat :=
  match s.slot n with
  | some g => if g.committed && g.crcOk && !g.spoiled then some g.gen else none
  | none => none

/-- The slot of the newest committed generation (R383). -/
def State.newestSlot (s : State) : Option Nat :=
  match s.committedGen 0, s.committedGen 1 with
  | some a, some b => if a < b then some 1 else some 0
  | some _, none => some 0
  | none, some _ => some 1
  | none, none => none

/-- The GEN of the next store: 1 above the highest record, so that no number serves twice (R383, R385). -/
def State.nextGen (s : State) : Nat :=
  max (((s.slot 0).map fun g => g.gen).getD 0) (((s.slot 1).map fun g => g.gen).getD 0) + 1

/-- The slot a store writes: never the one that holds the newest committed generation (R384). -/
def State.storeSlot (s : State) : Nat :=
  match s.newestSlot with
  | some 0 => 1
  | _ => 0

/-- The content of retain memory as every write applied so far has left it: a write that waits for publication is an applied
word of the retain die (R381), the host's too, but in a pair, whose units apply the host's at one admission (04 R139). -/
def State.retainNow (s : State) : List Host.Cell :=
  let mem := overlay (fun _ => 0) s.mem s.exec.engineWrites
  let mem := (List.range 8).foldl (fun (m : List Host.Cell) l =>
    (SMap.get (fun _ => []) s.exec.shared l).reverse.foldl (fun m w => SMap.set (fun _ => 0) w.addr w.val m) m) mem
  let mem := if s.paired then mem else overlay (fun _ => 0) mem s.exec.hostWrites
  mem.filter fun c => 0x02000000 ≤ c.1 && c.1 < 0x02800000

/-- The snapshot edge (R386): the record reads BEGUN and the generation is what every write applied before has made. -/
def State.snapshot (s : State) : State :=
  match s.memory.store with
  | some st =>
    if st.taken then s
    else
      let g : Generation := {
        committed := false, crcOk := true, gen := s.nextGen,
        snapStroke := if s.mode = 3 || s.mode = 4 then s.extStroke else 0,
        caltime := if s.on R.RTC_STAT_VALID then s.rd R.RTC_SECCNT_COUNT else 0xFFFFFFFF,
        cause := st.cause, progSig := s.memory.retainSig, content := s.retainNow, ledger := s.memory.ledger }
      let s := s.setSlot st.slot (some g)
      { s with memory := { s.memory with store := some { st with taken := true } } }
  | none => s

/-- A store begins with a cause (R384), its snapshot still to come. -/
def State.beginStore (s : State) (cause : Nat) : State :=
  { s.wr R.RETAIN_STAT_STORING 1 with memory := { s.memory with
      store := some ⟨s.storeSlot, cause, false, none⟩ } }

/-- STORE_REFUSED with a reason (R387). -/
def State.storeRefuse (s : State) (rsn : Nat) : State :=
  (s.wr R.RETAIN_STAT_LASTRSN rsn).raise Ev.retainStoreRefused rsn

/-- RETAIN_CMD (R387). -/
def State.retainCmd (s : State) (v : Word) : State :=
  if bitsOf v 31 16 ≠ 0x4E56 then s.storeRefuse 0x22
  else if bitsOf v 7 0 ≠ 1 || s.mode = 0 || s.mode = 1 || !s.recalled then s.storeRefuse 0x20
  else if s.on R.RETAIN_STAT_STORING then s.storeRefuse 0x21
  else if s.mode = 4 then s.storeRefuse 0x23
  else (s.wr R.RETAIN_STAT_LASTRSN 0).beginStore 1

/-- In a pair the active unit names the stroke after its next output cutoff as the snapshot stroke (R387). -/
def State.storeCutoff (s : State) : State :=
  match s.memory.store with
  | some st =>
    if s.paired && !st.taken && st.atStroke = none && s.mode = 3 then
      { s with memory := { s.memory with store := some { st with atStroke := some (s.extStroke + 1) } } }
    else s
  | none => s

/-- The standby stores at the stroke that the active unit named (R387). -/
def State.storeAgreed (s : State) (stroke : Nat) : State :=
  if s.on R.RETAIN_STAT_STORING || !s.recalled then s
  else
    let s := s.beginStore 1
    { s with memory := { s.memory with store := s.memory.store.map fun st => { st with atStroke := some stroke } } }

/-- A stroke start may be the snapshot edge of a commanded store (R386). -/
def State.storeBoundary (s : State) : State :=
  match s.memory.store with
  | some st =>
    if st.cause = 1 then
      match st.atStroke with
      | some n => if n ≤ s.extStroke then s.snapshot else s
      | none => if s.paired && s.mode = 3 then s else s.snapshot
    else s
  | none => s

/-- The latch edge (R386, R388, R389): a store in progress restarts in its slot, else one begins; none is made before
recall is complete. -/
def State.supplyStore (s : State) : State :=
  if !s.recalled then s
  else
    match s.memory.store with
    | some st =>
      let s := s.wr R.RETAIN_STAT_LASTRSN 0x25
      let s := { s with memory := { s.memory with store := some ⟨st.slot, 2, false, none⟩ } }
      s.snapshot
    | none => (s.beginStore 2).snapshot

/-- STORE_DONE (R385): every bank has copied and the record reads COMMITTED. Operands: the duration in us and HOLDUP in mV. -/
def State.storeDone (s : State) (us mv : Nat) : State :=
  match s.memory.store with
  | some st =>
    match st.taken, s.slot st.slot with
    | true, some g =>
      let s := s.setSlot st.slot (some { g with committed := true })
      let s := { s with memory := { s.memory with store := none } }
      let s := ((s.wr R.RETAIN_STAT_STORING 0).wr R.RETAIN_STAT_STORE_INCOMPLETE 0)
      let s := s.wr R.RETAIN_STAT_GENDAMAGED 0
      let s := (s.wr R.RETAIN_STAT_SLOT st.slot).wr R.RETAIN_GEN_GEN g.gen
      let s := s.wr R.RETAIN_SNAPSTROKE_STROKE g.snapStroke
      let s := (s.wr R.RETAIN_LASTSTORE_US (min us 0xFFFF)).wr R.RETAIN_LASTSTORE_MV (min mv 0xFFFF)
      let s := s.inc (if st.slot = 0 then R.RETAIN_STORECNT0_COUNT else R.RETAIN_STORECNT1_COUNT)
      s.raise Ev.retainStoreDone g.gen
    | _, _ => s
  | none => s

/-- STORE_DONE: a store commits. With the store made at the supply-fail latch the module shuts down, and its outputs are off
(01 R50, 02 R63). -/
def execStoreDone (us mv : Nat) (s : State) : Out :=
  let t := s.storeDone us mv
  .next (if s.sys.latch && s.memory.store.isSome && t.memory.store.isNone then t.dioOff else t)

/-- HUREADY (R396): HOLDUP has reached its ready voltage. -/
def execHuready (s : State) : Out := .next (s.wr R.RETAIN_STAT_HUREADY 1)

/-- HOLDUP_MEASURE (R397): the capacitance measured in uF, and the energy from 17.5 V to 12 V; no measurement is made after the
supply-fail latch (01 R45). -/
def execHoldupMeasure (uf : Nat) (s : State) : Out :=
  if s.sys.latch then .next s else
  let uj := uf * 81125 / 1000
  let s := (s.wr R.RETAIN_HUCAP_UF (min uf 0xFFFF)).wr R.RETAIN_HUENERGY_UJ (min uj 0xFFFFFF)
  let s := (s.wrb R.RETAIN_STAT_HULOW (uj < 90000)).wrb R.RETAIN_STAT_HUCRIT (uj < 61200)
  let s := if uj < 90000 then s.raise Ev.retainHoldupLow (min uf 0xFFFF) else s
  .next (if uj < 61200 then s.raise Ev.retainHoldupCrit (min uf 0xFFFF) else s)

/-! ### Recall -/

/-- The retain SRAM takes a content. -/
def State.putRetain (s : State) (content : List Host.Cell) : State :=
  let rest := s.mem.filter fun c => c.1 < 0x02000000 || 0x02800000 ≤ c.1
  { s with mem := overlay (fun _ => 0) rest (content.filter fun c => 0x02000000 ≤ c.1 && c.1 < 0x02800000) }

/-- A generation is recalled (R390). -/
def State.recallFrom (s : State) (n : Nat) (g : Generation) : State :=
  let s := s.putRetain g.content
  let s := { s with memory := { s.memory with ledger := g.ledger, retainSig := g.progSig } }
  let s := (s.wr R.RETAIN_STAT_RECALLED 1).wr R.RETAIN_STAT_VALID 1
  let s := (s.wr R.RETAIN_STAT_SLOT n).wr R.RETAIN_GEN_GEN g.gen
  s.wr R.RETAIN_SNAPSTROKE_STROKE g.snapStroke

/-- STORE_INCOMPLETE (R390): the slot not recalled holds a record that reads BEGUN or fails its CRC, newer than the recalled
one. -/
def State.checkIncomplete (s : State) (n gen : Nat) : State :=
  match s.slot (1 - n) with
  | some o =>
    if (!o.committed || !o.crcOk) && gen < o.gen then
      (s.wr R.RETAIN_STAT_STORE_INCOMPLETE 1).raise Ev.retainStoreIncomplete o.gen
    else s.wr R.RETAIN_STAT_STORE_INCOMPLETE 0
  | none => s.wr R.RETAIN_STAT_STORE_INCOMPLETE 0

/-- Recall of the newest committed generation whose words are all correctable (R390); `ue n` says that slot n holds an
uncorrectable word. -/
def State.recallRun (s : State) (ue : Nat → Bool) : State :=
  let bad (s : State) (n : Nat) : State := s.setSlot n ((s.slot n).map fun g => { g with spoiled := true })
  let none' (s : State) : State :=
    let s := { s.putRetain [] with memory := { s.memory with ledger := [], retainSig := [] } }
    let s := ((s.wr R.RETAIN_STAT_RECALLED 1).wr R.RETAIN_STAT_VALID 0).wr R.RETAIN_STAT_FALLBACK 0
    s.raise Ev.retainLedgerLost 0
  match s.newestSlot with
  | none => none' s
  | some n =>
    if !ue n then
      match s.slot n with
      | some g =>
        let s := ((s.recallFrom n g).wr R.RETAIN_STAT_FALLBACK 0).raise Ev.retainRecallDone g.gen
        s.checkIncomplete n g.gen
      | none => none' s
    else
      let s := bad s n
      match s.committedGen (1 - n), s.slot (1 - n) with
      | some _, some g =>
        if ue (1 - n) then none' (bad s (1 - n))
        else
          let s := ((s.recallFrom (1 - n) g).wr R.RETAIN_STAT_FALLBACK 1).raise Ev.retainRecallFallback g.gen
          s.checkIncomplete (1 - n) g.gen
      | _, _ => none' s

/-- RECALL_DONE (R390): recall completes. Operands: the slots whose commit record fails its CRC, and the slots that hold an
uncorrectable word. Recall follows PLL lock after a power-on or supply-return reset, or a failed check of R61 (02 R64, R61);
there is none otherwise, nor after the supply-fail latch (R389). -/
def execRecallDone (crcBad ue : List (Fin 2)) (s : State) : Out :=
  if s.recalled || s.sys.retainDue ≠ 1 || s.sys.stage < 4 || s.sys.latch then .next s
  else
    let fresh (s : State) (n : Fin 2) : State :=
      s.setSlot n.val ((s.slot n.val).map fun g => { g with crcOk := g.crcOk && !crcBad.contains n, spoiled := false })
    let t := (([0, 1] : List (Fin 2)).foldl fresh s).recallRun fun n => ue.any fun x => x.val = n
    .next ({ t with sys := { t.sys with retainDue := 0 } }.floorElement .retain true)

/-- The registers show the newest committed generation. -/
def State.showNewest (s : State) : State :=
  match s.newestSlot with
  | some n =>
    match s.slot n with
    | some g => ((s.wr R.RETAIN_STAT_SLOT n).wr R.RETAIN_GEN_GEN g.gen).wr R.RETAIN_SNAPSTROKE_STROKE g.snapStroke
    | none => s
  | none => s

/-- RETAIN_CHECK (02 R61): the code check of the retain SRAM completes, after a reset that kept VIN24. When every word passes,
the content counts as recalled and keeps its validity; otherwise a recall follows. A check that the supply-fail latch fell into
is completed, and the store is made only when it passed (R389). -/
def execRetainCheck (pass : Bool) (s : State) : Out :=
  if s.recalled || s.sys.retainDue ≠ 2 || s.sys.stage < 4 then .next s
  else if !pass then .next { s with sys := { s.sys with retainDue := 1 } }
  else
    let s := { s with sys := { s.sys with retainDue := 0 } }
    let s := ((s.wr R.RETAIN_STAT_RECALLED 1).wr R.SYS_STAT_RETAIN_KEPT 1).showNewest
    .next (if s.sys.latch then s.supplyStore else s.floorElement .retain true)

/-! ### Background activities -/

/-- The memory a selection names. -/
def memSel : MemSel → MemKind
  | .main => .main | .loop => .loop | .dram => .dram | .retain => .retain

/-- An uncorrectable word of DRAM stays in place; what holds it fails when its owner reads it (R368, R370). -/
def State.dramLost (s : State) (h : DramHolder) : State :=
  { s with memory := { s.memory with dramBad := h :: s.memory.dramBad.filter fun x => x ≠ h } }

/-- SCRUB (01 R42, R43, 10 R368 to R371, R378): a reserved cycle of a background activity. None runs after the supply-fail
latch (01 R45). -/
def execScrub (op : ScrubOp) (s : State) : Out :=
  if s.sys.latch then .next s
  else match op with
  | .word m off e ms holder =>
    let k := memSel m
    let e := if k = .main || k = .retain then s.decoded (if k = .retain then 0x02000000 + off else off) e else e
    let s := s.noteWord k 1 off e
    let s := match holder with
      | some h => if k = .dram && !eccOk e then s.dramLost h else s
      | none => s
    .next (match ms with
      | some n => if k = .retain then s else s.wr (R.MEM_SCRUBMS_MS.off (0x20 * k.index)) (min n 0xFFFFFFFF)
      | none => s)
  | .wear life mib busy => .next (s.flashWear life mib busy)
  | .flashError part => .next (s.raise Ev.flashReadError (part % 16))

/-- MAIN_SCRUB_LATE (01 R44): a background activity has not completed a pass within its completion interval. -/
def execMainScrubLate (op : LateOp) (s : State) : Out :=
  .next (match op with
    | .main b => s.raise Ev.memMainScrubLate (b % 32)
    | .loop => s.raise Ev.memLoopScrubLate 0
    | .dram => s.raise Ev.memDramScrubLate 0
    | .margin b => s.raise Ev.retainMarginLate (b % 8)
    | .wear h => s.raise Ev.flashWearLate (min h 0xFFFFFFFF))

/-- CORRECTED_WRITE_BACK (R369): the corrected word is written back to its place. -/
def execCorrectedWriteBack (m : MemSel) (off : Nat) (s : State) : Out :=
  .next { s with memory := { s.memory with
    writeBack := s.memory.writeBack.filter fun k => k != ((memSel m).index, off / 32 * 32) } }

/-- A copy reads words of main SRAM (R368, R370): what its decoder finds is noted, and an uncorrectable source word is
written as a poisoned one. -/
def State.copyWords (s : State) (words : List (Nat × Ecc)) : State :=
  words.foldl (fun s w =>
    let e := s.decoded w.1 w.2
    let s := s.noteWord .main 2 w.1 e
    if eccOk e || s.memory.poison.contains (w.1 / 32) then s
    else { s with memory := { s.memory with poison := s.memory.poison ++ [w.1 / 32] } }) s

/-- ROW_REPLACED (R373): a row with a hard error has been copied to a free spare row of its bank and mapped. Operands: the
bank in service, the row, and the words of the row that did not read clean, by byte offset in main SRAM. -/
def execRowReplaced (bank row : Nat) (words : List (Nat × Ecc)) (s : State) : Out :=
  let free := s.rd (R.MEM_BANK_ROWSFREE.off (4 * bank))
  if s.memory.rowCopy.contains (bank, row) && 0 < free then
    let s := s.copyWords words
    let s := { s with memory := { s.memory with rowCopy := s.memory.rowCopy.filter fun k => k != (bank, row) } }
    let s := (s.wr (R.MEM_BANK_ROWSFREE.off (4 * bank)) (free - 1)).inc (R.MEM_BANK_ROWSUSED.off (4 * bank))
    let s := s.raise Ev.memRowReplaced (bank * 0x200000 + row)
    .next (s.substitution 2 (bank * 512 + row))
  else .next s

/-- BANK_SPARED (R374): the copy to the spare bank completes and the mapping switches. Operand: the words that did not read
clean, by byte offset in main SRAM. -/
def execBankSpared (words : List (Nat × Ecc)) (s : State) : Out :=
  match s.memory.bankCopy with
  | some b =>
    let s := s.copyWords words
    let s := { s with memory := { s.memory with bankCopy := none, rowCopy := s.memory.rowCopy.filter fun k => k.1 != b } }
    let s := (s.wr (R.MEM_BANK_SERVES.off 64) b).wr (R.MEM_BANK_OK.off (4 * b)) 1
    .next ((s.raise Ev.memBankSpared b).substitution 1 b).floorNow
  | none => .next s

/-- The pages of a retain bank: its number, the spare pages free. -/
def State.spareRetain (s : State) (page : Nat) : State :=
  let b := page / 0x100000 % 8
  let s := s.wr (R.RETAIN_BANK_PAGESFREE.off (4 * b)) (s.rd (R.RETAIN_BANK_PAGESFREE.off (4 * b)) - 1)
  let s := s.inc (R.RETAIN_BANK_PAGESUSED.off (4 * b))
  (s.raise Ev.retainPageReplaced page).substitution 3 page

/-- MARGIN_READ (R393 to R395): a page of a shadow slot is read at the tightened threshold. Operands: the slot, the page's
address, whether the two reads differ, and how the normal read decoded. A slot that a store is writing is skipped. -/
def execMarginRead (slot : Fin 2) (page : Nat) (differs : Bool) (e : Ecc) (s : State) : Out :=
  let n := slot.val
  let page := 0x02000000 + page % 0x800000 / 0x100 * 0x100
  if s.sys.latch || s.memory.store.any (fun st => st.taken && st.slot = n) then .next s
  else
    let s := s.noteWord .retain 1 (page - 0x02000000) e
    if !eccOk e then
      .next (if s.newestSlot = some n then (s.wr R.RETAIN_STAT_GENDAMAGED 1).raise Ev.retainGenDamaged page else s)
    else if !differs then
      .next { s with memory := { s.memory with weak := s.memory.weak.filter fun k => k != (n, page) } }
    else if s.memory.weak.contains (n, page) && 0 < s.rd (R.RETAIN_BANK_PAGESFREE.off (4 * (page / 0x100000 % 8))) then
      .next ({ s with memory := { s.memory with weak := s.memory.weak.filter fun k => k.2 != page } }.spareRetain page)
    else
      let s := if s.memory.weak.contains (n, page) then s
        else { s with memory := { s.memory with weak := s.memory.weak ++ [(n, page)] } }
      .next ((s.inc R.RETAIN_WEAKCNT_COUNT).raise Ev.retainWeakRestored page)

end Sys2Proof.Machine
end

