-- ==== Sys2Proof/Machine/Marshal.lean ====
section
/-!
DEFINITION. Machine/Marshal.lean: the mailbox, signed operator commands, management sessions and telemetry (16 R502 to R512,
17 R545, R547).
-/

namespace Sys2Proof.Machine

/-! ### Operator keys -/

/-- A key identifier (17 R545): the first 8 bytes of the SHAKE256 output over the public key. -/
def keyId (pub : List Byte) : List Byte := Config.shake256 pub 8

/-- The operator key with an identifier and a right (17 R545). -/
def State.operatorKey (s : State) (id : List Byte) (right : Nat) : Option OpKey :=
  (s.sec.keys.find? fun k => keyId k.2.pub = id && k.2.rights.testBit right).map Prod.snd

/-- The rights of R545. -/
def rightClear : Nat := 0
def rightRecovery : Nat := 1
def rightManage : Nat := 2
def rightContent : Nat := 3
def rightProgram : Nat := 4
def rightKeyadmin : Nat := 5

/-! ### Outcomes -/

/-- The bytes of an ML-DSA-65 signature (R508). -/
def sigLen : Nat := 3309

/-- LEN of a signed command without arguments (R508). -/
def signedLen : Nat := 28 + sigLen

/-- A pending command. -/
def State.mbxPending (s : State) (id : Nat) : Option MbxCmd := s.mbx.cmds.find? fun c => c.id = id

/-- A command reaches its outcome (R505, R507): CMD_DONE is raised and its ledger entry is free again. -/
def State.mbxOutcome (s : State) (c : MbxCmd) (outcome reason : Nat) (late : Bool) (resp : List Byte) : State :=
  let m := s.mbx
  let x : MbxResult := ⟨c.id, outcome, late, reason, resp, resp.length⟩
  let results := (x :: m.results.filter fun (y : MbxResult) => y.id != c.id).take 4096
  let s := { s with mbx := { m with cmds := m.cmds.filter fun (y : MbxCmd) => y.id != c.id, results := results } }
  (s.ledgerDrop .mbx 0 c.id).raise Ev.mbxCmdDone (c.id % 65536 * 0x10000 + outcome * 0x1000 + reason)

/-- Every command without an outcome fails with a reason (R503, 01 R48). -/
def State.mbxFailAll (s : State) (reason : Nat) : State :=
  s.mbx.cmds.foldl (fun s c => s.mbxOutcome c 2 reason false []) s

/-! ### Submission -/

/-- The commands of R506: signed, and whether a mode and a requester may give it. -/
def mbxKnown (code : Nat) : Bool := [0x01, 0x10, 0x11, 0x20, 0x21, 0x30].contains code
def mbxSigned (code : Nat) : Bool := code = 0x10 || code = 0x11
def State.mbxMode (s : State) (r : Req) (code : Nat) : Bool :=
  match code with
  | 0x10 => s.mode = 2 || s.mode = 7
  | 0x11 => s.mode ≠ 0 && s.mode ≠ 1
  | 0x30 => decide (r = .host)
  | _ => true

/-- The payload bytes a requester has written. -/
def State.mbxWritten (s : State) (r : Req) : List Byte := SMap.get (fun _ => []) s.mbx.wdata (s.bank r)

/-- The state in which a requester's payload is b. -/
def State.setMbxWritten (s : State) (r : Req) (b : List Byte) : State :=
  { s with mbx := { s.mbx with wdata := SMap.set (fun _ => []) (s.bank r) b s.mbx.wdata } }

/-- A refusal with a reason in the requester's MBX_SUBSTAT. -/
def State.mbxRefuse (s : State) (r : Req) (reason : Nat) : State := s.wr (s.bf r R.MBX_SUBSTAT_LASTRSN) reason

/-- MBX_SUBMIT SUBMIT (R505, R506). The order of the checks is the model's (log entry 22). -/
def State.mbxSubmit (s : State) (r : Req) : State :=
  let code := s.rd (s.bf r R.MBX_CMDHDR_CODE)
  let len := s.rd (s.bf r R.MBX_CMDHDR_LEN)
  let p := s.mbxWritten r
  if !mbxKnown code then s.mbxRefuse r 0x06
  else if p.length ≠ len || (mbxSigned code && len ≠ signedLen) then s.mbxRefuse r 0x05
  else if !s.mbxMode r code then s.mbxRefuse r 0x04
  else if !s.ledgerFree .mbx then s.mbxRefuse r 0x21
  else
    let id := (s.mbx.nextId + 1) % 65536
    let s := (s.mbxRefuse r 0).setMbxWritten r []
    let s := (s.wr (s.bf r R.MBX_SUBSTAT_CMDID) id).ledgerAdd .mbx 0 id
    { s with mbx := { s.mbx with nextId := id, cmds := s.mbx.cmds ++ [⟨id, s.bank r, code, p⟩] } }

/-- MBX_SUBMIT CANCEL (R507): a command that has an outcome, or none, is refused with STATE. -/
def State.mbxCancel (s : State) (r : Req) : State :=
  match s.mbxPending (s.rd (s.bf r R.MBX_SEL_CMDID)) with
  | some c => (s.mbxRefuse r 0).mbxOutcome c 2 0x07 false []
  | none => s.mbxRefuse r 0x0C

/-- A write to the MBX page. -/
def State.mbxWrite (s : State) (r : Req) (a : Nat) (v : Word) : WRes :=
  if !hostSide r then refuse .requester s
  else if a = R.MBX_CMDHDR then
    if 4096 < bitsOf v 12 0 then refuse .range s
    else accept ((s.setReg (s.bk r a) (v &&& 0xFF001FFF)).setMbxWritten r [])
  else if a = R.MBX_DEADLINE then
    if bitsOf v 15 0 = 0 then refuse .range s else accept (s.setReg (s.bk r a) (v &&& 0xFFFF))
  else if a = R.MBX_WDATA then
    let len := s.rd (s.bf r R.MBX_CMDHDR_LEN)
    let p := s.mbxWritten r
    if len ≤ p.length then refuse .range s
    else accept (s.setMbxWritten r ((p ++ toBytes 4 v.toNat).take len))
  else if a = R.MBX_SUBMIT then
    accept (if bitsOf v 31 16 ≠ 0x3B0C then s.mbxRefuse r 0x22
      else match bitsOf v 7 0 with
        | 1 => s.mbxSubmit r
        | 2 => s.mbxCancel r
        | _ => s)
  else if a = R.MBX_SEL then accept (s.setReg (s.bk r a) (v &&& 0xFFFF))
  else accept s

/-- The outcome that MBX_RSTAT shows of a command: none kept reads UNKNOWN (11 R398). -/
def State.mbxResult (s : State) (id : Nat) : MbxResult :=
  match s.mbxPending id with
  | some _ => ⟨id, 0, false, 0, [], 0⟩
  | none => (s.mbx.results.find? fun x => x.id = id).getD ⟨id, 15, false, 0, [], 0⟩

/-- What MBX_SUBSTAT, MBX_RSTAT and MBX_MSTAT read. -/
def State.mbxRead (s : State) (r : Req) (a : Nat) : Option Word :=
  if a = R.MBX_SUBSTAT then
    some (bitsSet (s.reg (s.bk r a)) 6 0 s.mbx.cmds.length)
  else if a = R.MBX_RSTAT then
    let x := s.mbxResult (s.rd (s.bf r R.MBX_SEL_CMDID))
    some (BitVec.ofNat 32 (x.outcome * 0x10000000 + x.late.toNat * 0x8000000 + x.reason * 0x10000 + x.rlen % 8192))
  else if a = R.MBX_MSTAT then some (bitsSet (s.reg a) 10 8 s.mbx.sessions.length)
  else none

/-- A read of MBX_RDATA: the next 4 response bytes of the selected command, which the read consumes. -/
def State.mbxTakeData (s : State) (r : Req) : Word × State :=
  let id := s.rd (s.bf r R.MBX_SEL_CMDID)
  let x := s.mbxResult id
  let (w, s) := s.nextWord x.resp
  (w, { s with mbx := { s.mbx with results := s.mbx.results.map fun y =>
        if y.id = id then { y with resp := y.resp.drop 4 } else y } })

/-- A read of MBX_NONCE0 (R508): a fresh nonce, of 128 free bits, for the reading requester. -/
def State.mbxNonce (s : State) (r : Req) : Word × State :=
  let n := s.free.toNat + 2 ^ 64 * s.used.free.toNat
  let s := s.used.used
  let s := (List.range 4).foldl (fun s i => s.setReg (s.bk r (R.MBX_NONCE0 + 4 * i)) (BitVec.ofNat 32 (n / 2 ^ (32 * i)))) s
  (s.reg (s.bk r R.MBX_NONCE0),
    { s with mbx := { s.mbx with nonces := s.bank r :: s.mbx.nonces.filter fun b => b != s.bank r } })

/-- The nonce of a bank, and its being spent. -/
def State.nonceOf (s : State) (bank : Nat) : List Byte :=
  (List.range 4).flatMap fun i => toBytes 4 (s.reg (R.MBX_NONCE0 + 4 * i + 0x100000 * bank)).toNat
def State.spendNonce (s : State) (bank : Nat) : State :=
  { s with mbx := { s.mbx with nonces := s.mbx.nonces.filter fun b => b != bank } }

/-- NONCE_EXPIRY (R508): 600 s have passed. -/
def execNonceExpiry (r : Req) (s : State) : Out := .next (s.spendNonce (s.bank r))

/-! ### Carrying commands out -/

/-- The verification of a signed command (R509, 17 R545): a reason, or 0; the nonce is consumed, and the result recorded on
ES233. -/
def State.mbxVerify (s : State) (c : MbxCmd) (right : Nat) : Nat × State :=
  let p := c.payload
  let nonce := (p.drop 4).take 16
  let id := (p.drop 20).take 8
  let msg := p.take (p.length - sigLen)
  let sig := p.drop (p.length - sigLen)
  let valid := s.mbx.nonces.contains c.bank && s.nonceOf c.bank = nonce
  let signed := ofBytes (p.take 4) = c.code && (match s.operatorKey id right with
    | some k => Config.mldsaVerify k.pub msg sig
    | none => false)
  let reason := if !valid then 0x03 else if !signed then 0x02 else 0
  let s := s.spendNonce c.bank
  (reason, s.raise (if reason = 0 then Ev.mbxSignedOk else Ev.mbxSignedFailed) (c.code * 0x100 + reason)
    (id ++ nonce.take 8))

/-- The Marshal takes up the oldest pending command, when it is one of a code (R505), and does f. -/
def State.mbxTake (s : State) (code : Nat) (f : MbxCmd → State → State) : State :=
  match s.mbx.cmds with
  | c :: _ => if c.code = code then f c s else s
  | [] => s

/-- ECHO (R506). Operand of this and the next rows: the deadline passes between taking up and completion (R507). -/
def execEcho (late : Bool) (s : State) : Out := .next (s.mbxTake 0x01 fun c s => s.mbxOutcome c 1 0 late c.payload)

/-- SENSOR_SNAPSHOT (R506, R511). -/
def execSensorSnapshot (late : Bool) (s : State) : Out :=
  .next (s.mbxTake 0x20 fun c s => s.mbxOutcome c 1 0 late
    ((List.range 20).flatMap fun n => toBytes 4 (s.reg (R.MBX_SENSOR + 4 * n)).toNat))

/-- SPARE_REPORT (R506). -/
def execSpareReport (late : Bool) (s : State) : Out :=
  .next (s.mbxTake 0x21 fun c s => s.mbxOutcome c 1 0 late
    ((List.range 7).flatMap fun k => toBytes 4 (s.reg (R.SPARE_AVAIL + 8 * k)).toNat ++
      toBytes 4 (s.reg (R.SPARE_SUBST + 8 * k)).toNat))

/-- LOG_CLEAR (R509, R523). -/
def execLogClear (late : Bool) (s : State) : Out :=
  .next (s.mbxTake 0x11 fun c s =>
    let (reason, s) := s.mbxVerify c rightClear
    if reason ≠ 0 then s.mbxOutcome c 2 reason false []
    else (s.clearLog ((c.payload.drop 20).take 8 ++ (c.payload.drop 4).take 8)).mbxOutcome c 1 0 late [])

/-- DEADLINE (R507): the deadline of a command that has not begun expires. -/
def execDeadline (id : Fin 65536) (s : State) : Out :=
  .next (match s.mbxPending id.val with
    | some c => (s.mbxOutcome c 2 0x01 false []).raise Ev.mbxDeadline (c.id % 65536 * 0x10000)
    | none => s)

/-! ### Management sessions -/

/-- A session closes (R503, 17 R547). -/
def State.closeSession (s : State) (x : MgmtSession) : State :=
  let s := { s with mbx := { s.mbx with sessions := s.mbx.sessions.filter fun y => y.n != x.n } }
  s.raise Ev.mbxSessionClosed (x.n + x.radio.toNat * 16)

/-- Every session closes. -/
def State.closeSessions (s : State) : State := s.mbx.sessions.foldl State.closeSession s

/-- CLOSE_SESSIONS (R506). -/
def execCloseSessions (late : Bool) (s : State) : Out :=
  .next (s.mbxTake 0x30 fun c s => s.closeSessions.mbxOutcome c 1 0 late [])

/-- SESSION_OPEN (17 R547, 16 R504): the client's answer to the Marshal's nonce, which is a free value. -/
def execSessionOpen (radio : Bool) (id sig : List Byte) (s : State) : Out :=
  let nonce := toBytes 8 s.free.toNat ++ toBytes 8 s.used.free.toNat
  let s := s.used.used
  let msg := nonce ++ toBytes 6 Config.unitMac.toNat ++ toBytes 1 radio.toNat
  let ok := match s.operatorKey id rightManage with
    | some k => Config.mldsaVerify k.pub msg sig
    | none => false
  let n := (List.range 4).find? fun n => s.mbx.sessions.all fun x => x.n ≠ n
  .next (match ok, n with
    | true, some n =>
      let x : MgmtSession := ⟨n, radio, none⟩
      let s := { s with mbx := { s.mbx with sessions := s.mbx.sessions ++ [x] } }
      let s := (s.spendNonce (s.bank (.mgmt n))).setMbxWritten (.mgmt n) []
      s.raise Ev.mbxSessionOpen (n + radio.toNat * 16)
    | _, _ => s.raise Ev.mbxAuthRefused (radio.toNat * 16))

/-- MANAGEMENT_MESSAGE (17 R547): a message of a session arrives with its sequence number; a gap closes the session. -/
def execManagementMessage (n : Fin 4) (seq : BitVec 32) (s : State) : Out :=
  .next (match s.mbx.sessions.find? fun x => x.n = n.val with
    | none => s
    | some x =>
      if (match x.seq with | none => true | some q => seq.toNat = (q + 1) % 4294967296) then
        { s with mbx := { s.mbx with sessions := s.mbx.sessions.map fun y =>
            if y.n = x.n then { y with seq := some seq.toNat } else y } }
      else s.closeSession x)

/-- MARSHAL_RESTART (R503). -/
def execMarshalRestart (s : State) : Out :=
  let s := (s.mbxFailAll 0x09).closeSessions.inc R.MBX_MSTAT_RESTARTS
  .next (s.raise Ev.mbxMarshalRestart (s.rd R.MBX_MSTAT_RESTARTS))

/-! ### Telemetry -/

/-- A reading in 0.1 degrees C as whole degrees (log entry 23: rounded down), in 8 bits of two's complement. -/
def degrees (t : Int) : Int := max (-128) (min (Int.fdiv t 10) 127)
def degreeByte (t : Int) : Nat := unsigned 8 (degrees t)

/-- The hottest of the junctions that answered, with its sensor number. -/
def hottest : Nat → List (Option Int) → Option (Nat × Int)
  | _, [] => none
  | n, x :: t =>
    match x, hottest (n + 1) t with
    | some v, some (m, w) => if v < w then some (m, w) else some (n, v)
    | some v, none => some (n, v)
    | none, r => r

/-- JUNCTION_TRIP, JUNCTION_COOLED and the protective stop (R512, 02 R85). -/
def State.junctions (s : State) (js : List (Option Int)) : State :=
  let s := (List.range 9).foldl (fun s n =>
    match js.getD n none with
    | some v =>
      let s := if 1250 ≤ v && (s.mode = 3 || s.mode = 4 || s.mode = 5) && !s.sys.stopReqs.contains 0x0D then s.askStop 0x0D
        else s
      if 1250 ≤ v && !s.mbx.tripped.testBit n then
        let s := { s with mbx := { s.mbx with tripped := s.mbx.tripped ||| 2 ^ n } }
        s.raise Ev.mbxJunctionTrip (n * 0x100 + degreeByte v)
      else s
    | none => s) s
  match hottest 0 (js.take 9) with
  | some (n, v) =>
    if s.mbx.tripped ≠ 0 && v < 1150 && (js.take 9).all Option.isSome then
      { s with mbx := { s.mbx with tripped := 0 } }.raise Ev.mbxJunctionCooled (n * 0x100 + degreeByte v)
    else s
  | none => s

/-- BOARD_HIGH and BOARD_NORMAL (R512). -/
def State.board (s : State) (v : Int) : State :=
  if 1000 ≤ v && !s.mbx.boardHigh then
    { s with mbx := { s.mbx with boardHigh := true } }.raise Ev.mbxBoardHigh (degreeByte v)
  else if v ≤ 950 && s.mbx.boardHigh then
    { s with mbx := { s.mbx with boardHigh := false } }.raise Ev.mbxBoardNormal (degreeByte v)
  else s

/-- A sensor's entry after a sweep (R510): a sensor that did not answer keeps its value. -/
def State.setSensor (s : State) (sweep n : Nat) (x : Option Int) : State :=
  let f := R.MBX_SENSOR_VALUE.off (4 * n)
  let s := match x with | some v => s.wrInt f v | none => s
  (s.wr (R.MBX_SENSOR_SWEEP.off (4 * n)) sweep).wrb (R.MBX_SENSOR_VALID.off (4 * n)) x.isSome

/-- A voltage in mV in a field of 16 bits. -/
def mvOf (x : Option Int) (old : Nat) : Nat :=
  match x with | some v => min v.toNat 0xFFFF | none => old

/-- The energy metered since the previous sweep (R510, 03 R107, 06 PWR page): PG_ENERGY of each metered page in uJ, and of
the whole module in nJ over an interval in us. -/
def State.meter (s : State) (nj us : Nat) (pages : List (Nat × Nat)) : State :=
  let s := pages.foldl (fun s p => if p.1 < 0x80 then s.setReg (hdr p.1 0x024) (s.reg (hdr p.1 0x024) + BitVec.ofNat 32 p.2) else s) s
  let rest := s.pwr.energyRest + nj
  let s := { s with pwr := { s.pwr with energy := s.pwr.energy + rest / 1000, energyRest := rest % 1000 } }
  let s := s.setReg (hdr 0x02 0x024) (BitVec.ofNat 32 s.pwr.energy)
  if us = 0 then s else s.wr R.PWR_PAVG_MW (min (nj / us) 0xFFFF)

/-- TELEMETRY_SWEEP (R510 to R512): the readings of sensors 0 to 19 (none: it did not answer), the module's energy since
the previous sweep in nJ, the interval in us, and the energy of each metered page in uJ. None completes after the
supply-fail latch (01 R45). -/
def execTelemetrySweep (sensors : List (Option Int)) (nj us : Nat) (pages : List (Nat × Nat)) (s : State) : Out :=
  if s.sys.latch then .next s
  else
    let x (n : Nat) : Option Int := sensors.getD n none
    let s := s.incWrap R.MBX_SWEEP_COUNT
    let s := (List.range 20).foldl (fun s n => s.setSensor (s.rd R.MBX_SWEEP_COUNT) n (x n)) s
    let s := s.meter nj us pages
    let hot := hottest 0 (sensors.take 9)
    let s := match hot with
      | some (_, v) => s.wr R.PWR_TEMP_TJMAX (degreeByte v)
      | none => s
    let s := match x 9 with
      | some v => (s.wr R.PWR_TEMP_TBOARD (degreeByte v)).board v
      | none => s
    let s := s.wr R.PWR_SUPPLY_VIN24 (mvOf (x 11) (s.rd R.PWR_SUPPLY_VIN24))
    let s := s.wr R.PWR_SUPPLY_HOLDUP (mvOf (x 12) (s.rd R.PWR_SUPPLY_HOLDUP))
    let s := s.wr R.PWR_VOUT_VOUTA (mvOf (x 13) (s.rd R.PWR_VOUT_VOUTA))
    let s := s.wr R.PWR_VOUT_VOUTB (mvOf (x 14) (s.rd R.PWR_VOUT_VOUTB))
    let s := s.junctions sensors
    let s := match x (if s.on R.PANEL_CFG_TSRC then 9 else 10) with
      | some v => s.panelTemp v
      | none => s
    let s := match x 15 with
      | some v => (s.wr R.RTC_VBAT_MV (min v.toNat 0xFFFF)).vbat v.toNat
      | none => s
    .next (s.coxSweep nj (match hot with | some (_, v) => degrees v | none => s.cox.tj))

/-- SWEEP_LATE (R512). -/
def execSweepLate (ms : Nat) (s : State) : Out := .next (s.raise Ev.mbxSweepLate (min ms 0xFFFF))

end Sys2Proof.Machine
end

