-- ==== Sys2Proof/Machine/Update.lean ====
section
/-!
DEFINITION. Machine/Update.lean: update regions and their slots, loading an image, activation and version floors, the
program target and the UPD page (17 R526 to R541).
-/

namespace Sys2Proof.Machine

/-! ### Regions and slots -/

/-- An update region by its code. -/
def State.region (s : State) (n : Nat) : UpdRegion :=
  ((s.upd.regions.find? fun r => r.1 = n).map Prod.snd).getD {}

/-- The state in which a region is r. -/
def State.setRegion (s : State) (n : Nat) (r : UpdRegion) : State :=
  let l := if s.upd.regions.any fun x => x.1 = n then
      s.upd.regions.map fun x => if x.1 = n then (n, r) else x
    else s.upd.regions ++ [(n, r)]
  { s with upd := { s.upd with regions := l } }

/-- The region codes of R526 and the program target. -/
def regionCodes : List Nat := [1, 2, 3, 4, 5]
def regionKnown (n : Nat) : Bool := regionCodes.contains n || n = 8

/-- A slot of a region: A, or B. -/
def UpdRegion.slot (r : UpdRegion) (b : Bool) : UpdSlot := if b then r.b else r.a
def UpdRegion.setSlot (r : UpdRegion) (b : Bool) (x : UpdSlot) : UpdRegion := if b then { r with b := x } else { r with a := x }

/-- The STAGED slot of a region. -/
def UpdRegion.staged (r : UpdRegion) : Option Bool :=
  if r.a.state = 2 then some false else if r.b.state = 2 then some true else none

/-- The slot an image is written to (R527, and in RECOVERY R541). -/
def State.targetSlot (s : State) (r : UpdRegion) : Bool :=
  if s.mode = 0 then
    if r.a.state ≠ 1 && r.b.state ≠ 1 then false
    else if r.a.state ≠ 1 then false
    else if r.b.state ≠ 1 then true
    else !r.activeB
  else !r.activeB

/-- The partition of a region's slot A, and its size in bytes (10 R377); slot B's is the next. -/
def regionPart (n : Nat) : Nat := if n = 8 then 10 else 2 * (n - 1)
def regionSize (n : Nat) : Nat :=
  0x100000 * (match n with | 1 => 4 | 2 => 64 | 3 => 8 | 4 => 16 | 5 => 16 | _ => 64)

/-- An update of the region is open (R530). -/
def UpdRegion.isOpen (r : UpdRegion) : Bool := r.state = 1 || r.state = 2 || r.state = 3

/-- DATA of the UPD page's events: low 28 bits of a number with the region. -/
def updData (n v : Nat) : Nat := v % 0x10000000 * 16 + n

/-! ### Refusals and failures -/

/-- A command on a region is refused with a reason; the update goes on. -/
def State.updRefuse (s : State) (n reason : Nat) : State :=
  (s.setRegion n { s.region n with reason := reason }).raise Ev.updRefused (reason * 0x100 + n)

/-- An open update is refused (R531, R532): its slot stays INVALID. -/
def State.updReject (s : State) (n reason : Nat) : State :=
  (s.setRegion n { s.region n with state := 5, reason := reason }).raise Ev.updRefused (reason * 0x100 + n)

/-- An open update fails (R533). -/
def State.updFail (s : State) (n reason : Nat) : State :=
  if (s.region n).isOpen then
    (s.setRegion n { s.region n with state := 5, reason := reason }).raise Ev.updFailed (reason * 0x100 + n)
  else s

/-- Every open update fails: a change of role (R533), a block reset. -/
def State.updFailAll (s : State) (reason : Nat) : State := (regionCodes ++ [8]).foldl (fun s n => s.updFail n reason) s

/-- A reset ends open updates; they are reported at the next start (R533). UPD_STAT starts again. -/
def State.updReset (s : State) : State :=
  let ended := (regionCodes ++ [8]).filter fun n => (s.region n).isOpen
  { s with upd := { s.upd with
      failed := s.upd.failed ++ ended,
      regions := s.upd.regions.map fun x => (x.1, { x.2 with state := 0, reason := 0, image := [] }) } }

/-- What a reset ended is reported (R533). -/
def State.updReport (s : State) : State :=
  let ended := s.upd.failed
  let s := { s with upd := { s.upd with failed := [] } }
  ended.foldl (fun s n =>
    (s.setRegion n { s.region n with state := 5, reason := 0x0E }).raise Ev.updFailed (0x0E00 + n)) s

/-! ### The header -/

/-- The bytes of the image header (R528). -/
def headerLen : Nat := 3584

/-- A little-endian field of the header. -/
def hdrField (h : List Byte) (off size : Nat) : Nat := ofBytes ((h.drop off).take size)

/-- The public key that a header names, if the region permits it (R526, R531). -/
def State.imageKey (s : State) (n : Nat) (id : List Byte) : Option (List Byte) :=
  let vendor := if n = 8 then none else Config.vendorKeys.find? fun k => keyId k = id
  match vendor with
  | some k => some k
  | none =>
    if n = 8 then (s.operatorKey id rightProgram).map fun k => k.pub
    else if n = 4 || n = 5 then (s.operatorKey id rightContent).map fun k => k.pub
    else none

/-- The check of a header: the first reason that applies, or 0 (R531). -/
def State.headerCheck (s : State) (n : Nat) (h : List Byte) : Nat :=
  let prof := s.rd R.SEC_PROFILE_PROF
  if hdrField h 0 4 ≠ 0x37484452 || hdrField h 4 2 ≠ 1 || hdrField h 7 1 ≠ 0 || hdrField h 96 160 ≠ 0 ||
      hdrField h 3565 19 ≠ 0 || hdrField h 8 4 < hdrField h 28 4 then 0x01
  else if hdrField h 6 1 ≠ n then 0x03
  else if hdrField h 12 2 ≠ 0x4870 || prof < hdrField h 14 1 || hdrField h 15 1 < prof then 0x04
  else if n ≠ 8 && hdrField h 8 4 < (s.region n).floor then 0x05
  else if regionSize n < headerLen + hdrField h 16 4 then 0x06
  else match s.imageKey n ((h.drop 20).take 8) with
  | none => 0x07
  | some k => if Config.mldsaVerify k (h.take 256) ((h.drop 256).take sigLen) then 0 else 0x08

/-! ### Loading an image -/

/-- OPEN (R529, R530, R540, R541). -/
def State.updOpen (s : State) (n bank : Nat) : State :=
  let r := s.region n
  let busy := if s.mode = 0 then (regionCodes ++ [8]).any fun m => (s.region m).isOpen else r.isOpen
  if s.mode = 1 || s.mode = 7 || (n = 8 && s.mode ≠ 2) then s.updRefuse n 0x02
  else if busy then s.updRefuse n 0x21
  else
    let t := s.targetSlot r
    let old := r.staged.map fun b => (r.slot b).version
    let r := match r.staged with
      | some b => r.setSlot b {}
      | none => r
    let r := if n = 8 then r else r.setSlot t {}
    let s := s.setRegion n { r with state := 1, reason := 0, image := [], owner := bank }
    let s := s.raise Ev.updOpened n
    match old with
    | some v => s.raise Ev.updSuperseded (updData n v)
    | none => s

/-- Image bytes arrive (R531): the header is checked when its last byte has arrived, and with a refusal no payload byte is
taken. -/
def State.updTake (s : State) (n : Nat) (b : List Byte) : State :=
  let r := s.region n
  let img := r.image ++ b
  if r.state = 1 && headerLen ≤ img.length then
    let e := s.headerCheck n (img.take headerLen)
    if e = 0 then s.setRegion n { r with image := img, state := 2 }
    else (s.setRegion n { r with image := img.take headerLen }).updReject n e
  else s.setRegion n { r with image := img }

/-- A write of UPD_WDATA by a bank (R529, R531). After a refusal or a failure nothing of it is taken, and UPD_STAT.REASON keeps what
ended the update. -/
def State.updWdata (s : State) (n bank : Nat) (v : Word) : State :=
  let r := s.region n
  if (r.state = 1 || r.state = 2) && r.owner = bank then s.updTake n (toBytes 4 v.toNat)
  else if r.state = 5 && r.owner = bank then s else s.updRefuse n 0x0B

/-- FINISH (R532): the length, then the digest; a program image only in STOP (R540). -/
def State.updFinish (s : State) (n bank : Nat) : State :=
  let r := s.region n
  if (r.state ≠ 1 && r.state ≠ 2) || r.owner ≠ bank then s.updRefuse n 0x0B
  else if n = 8 && s.mode ≠ 2 then s.updRefuse n 0x02
  else if r.state = 1 || r.image.length ≠ headerLen + hdrField r.image 16 4 then s.updReject n 0x0A
  else if Config.shake256 (r.image.drop headerLen) 64 ≠ (r.image.drop 32).take 64 then s.updReject n 0x09
  else s.setRegion n { r with state := 3 }

/-- ABORT (R533). -/
def State.updAbort (s : State) (n bank : Nat) : State :=
  let r := s.region n
  if r.isOpen && r.owner = bank then s.updFail n 0x0D else s.updRefuse n 0x0B

/-- UNSTAGE (R534). -/
def State.updUnstage (s : State) (n : Nat) : State :=
  let r := s.region n
  match r.staged with
  | some b => s.setRegion n { r.setSlot b {} with state := if r.state = 4 then 0 else r.state, reason := 0 }
  | none => s.updRefuse n 0x0B

/-- The slot that an image makes (R528). -/
def imageSlot (img : List Byte) (state : Nat) : UpdSlot :=
  { state := state, version := hdrField img 8 4, pmin := hdrField img 14 1, pmax := hdrField img 15 1,
    newFloor := hdrField img 28 4, digest := (img.drop 32).take 64, payload := img.drop headerLen }

/-! ### The program -/

/-- A program passes the checks of R213 and of 04 R586. -/
def State.programOk (s : State) (p : Program) : Bool :=
  p.formOk && (p.ofKind 1).all p.codeOk && p.tasks.all s.taskEntryOk && p.tasks.all p.taskCodeOk &&
    (p.ofKind 5).all fun b => s.loopConfigOk b.data

/-- The bytes of a program, with edit transactions applied, are loaded into main SRAM and checked (R540, 02 R64, 04 R161,
R169): 0, or the reason of 02 R91. The program signature is the digest of the bytes, so only a canonical form has it. -/
def State.loadBytes (s : State) (b : List Byte) (txs : List EditTx) : Nat × State :=
  match parseProgram b with
  | none => (0x04, s)
  | some p =>
    let q := txs.foldl Program.edited p
    if p.bytes ≠ b || !s.programOk q then (0x04, s) else (0, s.loadProgram q)

/-- The final writes are complete (R532, R540): the slot is STAGED, or the program target's copies are written and the program
is in force; a program image whose module has left STOP meanwhile fails with MODE. `bad` names the flash blocks whose write
fails in turn. -/
def State.updStaged (s : State) (n : Nat) (bad : List Nat) : State :=
  let r := s.region n
  if r.state ≠ 3 then s
  else
    let img := r.image
    let t := s.targetSlot r
    let part := regionPart n
    if n = 8 && s.mode ≠ 2 then s.updFail n 0x02
    else if n = 8 then
      let (ok, s) := s.flashWrite part bad
      if !ok then s.updFail n 0x0C
      else
        let x := imageSlot img 1
        let s := s.setRegion n { r with a := x, activeB := false }
        let (ok, s) := s.flashWrite (part + 1) []
        if !ok then s.updFail n 0x0C
        else
          let s := { s with edit := { s.edit with flash := [] } }
          let (rsn, s) := s.loadBytes x.payload []
          if rsn = 0 then
            ((s.setRegion n { s.region n with b := x, state := 4, reason := 0 }).raise Ev.updStaged (updData n x.version)).floorNow
          else
            let s := s.setRegion n { s.region n with b := x, state := 5, reason := 0 }
            { (s.setReg R.SYS_STOPRSN (BitVec.ofNat 32 rsn)) with prog := none, sys := { s.sys with loadRsn := rsn } }.floorNow
    else
      let (ok, s) := s.flashWrite (part + t.toNat) bad
      if !ok then s.updFail n 0x0C
      else
        let x := imageSlot img 2
        let s := s.setRegion n { r.setSlot t x with state := 4, reason := 0 }
        s.raise Ev.updStaged (updData n x.version)

/-- STAGED (R532, R540): the final writes and the read-back of a region are complete. -/
def execStaged (n : Fin 16) (bad : List Nat) (s : State) : Out := .next (s.updStaged n.val bad)

/-- UPD_TIMEOUT (R533): 600 s without a write to UPD_WDATA. -/
def execUpdTimeout (n : Fin 16) (s : State) : Out :=
  .next (if (s.region n.val).state = 1 || (s.region n.val).state = 2 then s.updFail n.val 0x11 else s)

/-! ### Activation and floors -/

/-- The region starts (R535, R536): `ok b` says whether a slot passes the verification of 02 R64. Answers the slot it starts
from and whether that is the preferred slot; none when neither slot passes. -/
def State.updBoot (s : State) (n : Nat) (ok : Bool → Bool) : Option (Bool × Bool) × State :=
  let r := s.region n
  let good (b : Bool) : Bool := ok b && r.floor ≤ (r.slot b).version
  match r.staged with
  | some b =>
    if good b && (r.slot b).attempts < 3 then
      (some (b, true), s.setRegion n (r.setSlot b { r.slot b with attempts := (r.slot b).attempts + 1 }))
    else
      let v := (r.slot b).version
      let s := (s.setRegion n (r.setSlot b {})).raise Ev.updRollback (updData n v)
      if (r.slot (!b)).state = 1 && good (!b) then (some (!b, false), s) else (none, s)
  | none =>
    let b := r.activeB
    if (r.slot b).state = 1 && good b then (some (b, true), s)
    else if (r.slot (!b)).state = 1 && good (!b) then (some (!b, false), s)
    else (none, s)

/-- A STAGED slot becomes the active slot, and its floor is raised (R536 to R538). -/
def State.updActivate (s : State) (n : Nat) : State :=
  let r := s.region n
  match r.staged with
  | none => s
  | some b =>
    let x := r.slot b
    let r := { r.setSlot b { x with state := 1, attempts := 0 } with activeB := b }
    let s := (s.setRegion n r).raise Ev.updActivated (updData n x.version)
    if x.newFloor ≤ r.floor then s
    else if r.raises = 0 then s.raise Ev.updFloorExhausted n
    else
      let o := r.slot (!b)
      let r := { r with floor := x.newFloor, raises := r.raises - 1 }
      let r := if o.version < x.newFloor then r.setSlot (!b) {} else r
      (s.setRegion n r).raise Ev.updFloorRaised (updData n x.newFloor)

/-! ### The UPD page -/

/-- The region that a requester's UPD_SEL selects. -/
def State.updSel (s : State) (r : Req) : Nat := s.rd (s.bf r R.UPD_SEL_REGION)

/-- UPD_CMD: true when it makes a reset (R544). -/
def State.updCmd (s : State) (r : Req) (v : Word) : Bool × State :=
  let n := s.updSel r
  if bitsOf v 31 16 ≠ 0x0DA7 then (false, s.updRefuse n 0x22)
  else match bitsOf v 7 0 with
  | 1 => (false, s.updOpen n (s.bank r))
  | 2 => (false, s.updFinish n (s.bank r))
  | 3 => (false, s.updAbort n (s.bank r))
  | 4 => (false, s.updUnstage n)
  | 5 => if s.mode = 0 then (true, s) else (false, s.updRefuse n 0x02)
  | _ => (false, s)

/-- A write to the UPD page: true when it makes a reset. -/
def State.updWrite (s : State) (r : Req) (a : Nat) (v : Word) : Bool × WRes :=
  if isCore r then (false, refuse .requester s)
  else if a = R.UPD_SEL then
    (false, if regionKnown (bitsOf v 3 0) then accept (s.setReg (s.bk r a) (v &&& 0xF)) else refuse .range s)
  else if a = R.UPD_CMD then
    let (rst, s) := s.updCmd r v
    (rst, accept s)
  else if a = R.UPD_WDATA then (false, accept (s.updWdata (s.updSel r) (s.bank r) v))
  else (false, accept s)

/-- UPD_STAT.PCT: before the header is known, 0 (log entry 24). -/
def UpdRegion.pct (r : UpdRegion) : Nat :=
  if r.image.length < headerLen then 0
  else min (100 * r.image.length / (headerLen + hdrField r.image 16 4)) 100

/-- UPD_STAT of a region. -/
def UpdRegion.stat (r : UpdRegion) : Nat := r.state * 0x10000000 + r.reason * 0x10000 + r.pct * 0x100

/-- What the registers of the UPD page read of the region a requester selects. -/
def State.updRead (s : State) (q : Req) (a : Nat) : Option Word :=
  let n := s.updSel q
  let r := s.region n
  let w (v : Nat) : Option Word := some (BitVec.ofNat 32 v)
  if a = R.UPD_STAT then w r.stat
  else if a = R.UPD_COUNT then w r.image.length
  else if a = R.UPD_SLOTS then
    let att := match r.staged with | some b => (r.slot b).attempts | none => 0
    w (att % 4 * 64 + r.b.state * 16 + r.a.state * 4 + r.activeB.toNat)
  else if a = R.UPD_VERA then w r.a.version
  else if a = R.UPD_VERB then w r.b.version
  else if a = R.UPD_FLOOR then w (if n = 8 then 0 else r.floor)
  else if a = R.UPD_RAISES then w r.raises
  else none

end Sys2Proof.Machine
end

