-- ==== Sys2Proof/Machine/Security.lean ====
section
/-!
DEFINITION. Machine/Security.lean: operator keys, identity, attestation and the compatibility profile: the SEC page (17 R545 to
R551).
-/

namespace Sys2Proof.Machine

/-! ### Keys -/

/-- The key in a slot. -/
def State.keyAt (s : State) (n : Nat) : Option OpKey := (s.sec.keys.find? fun k => k.1 = n).map Prod.snd

/-- The state in which a key slot holds k. -/
def State.setKey (s : State) (n : Nat) (k : Option OpKey) : State :=
  let rest := s.sec.keys.filter fun x => x.1 ≠ n
  { s with sec := { s.sec with keys := rest ++ (k.map fun k => (n, k)).toList } }

/-- Some key holds KEYADMIN. -/
def State.hasAdmin (s : State) : Bool := s.sec.keys.any fun k => k.2.rights.testBit rightKeyadmin

/-- A key command is refused (R546). -/
def State.keyRefuse (s : State) (n reason : Nat) : State :=
  (s.wr R.SEC_KSTAT_LASTRSN reason).raise Ev.secKeyRefused (reason * 0x100 + n)

/-- The bytes that words written for n bytes hold: whole words, up to the limit of SEC_KWDATA. -/
def keyDataLen (n : Nat) : Nat := min ((n + 3) / 4 * 4) 5277

/-- The authorisation of a key command over its first `body` bytes (R546): a reason, or 0; the nonce is spent. -/
def State.keyAuth (s : State) (r : Req) (body : Nat) : Nat × State :=
  let b := s.bank r
  let d := s.sec.kdata
  let ok := match s.operatorKey ((d.drop body).take 8) rightKeyadmin with
    | some k => Config.mldsaVerify k.pub (d.take (body + 8) ++ s.nonceOf b) ((d.drop (body + 8)).take sigLen)
    | none => false
  let valid := s.mbx.nonces.contains b
  (if !valid then 0x03 else if !ok then 0x08 else 0, s.spendNonce b)

/-- ENROLL (R546): key slot, rights and public key. -/
def State.keyEnroll (s : State) (r : Req) : State :=
  let d := s.sec.kdata
  let n := hdrField d 0 4 % 8
  let free := r = .host && !s.hasAdmin
  let body := 1960
  let put (s : State) : State :=
    let k : OpKey := ⟨hdrField d 4 4 % 64, (d.drop 8).take 1952⟩
    ((s.setKey n (some k)).wr R.SEC_KSTAT_LASTRSN 0).raise Ev.secKeyEnrolled n
  if s.mode ≠ 2 then s.keyRefuse n 0x02
  else if free && (d.length = keyDataLen body || d.length = keyDataLen (body + 8 + sigLen)) then put s
  else if d.length ≠ keyDataLen (body + 8 + sigLen) then s.keyRefuse n 0x05
  else
    let (e, s) := s.keyAuth r body
    if e = 0 then put s else s.keyRefuse n e

/-- REVOKE (R546). -/
def State.keyRevoke (s : State) (r : Req) : State :=
  let d := s.sec.kdata
  let n := hdrField d 0 4 % 8
  let body := 4
  if s.mode ≠ 2 then s.keyRefuse n 0x02
  else if d.length ≠ keyDataLen (body + 8 + sigLen) then s.keyRefuse n 0x05
  else
    let (e, s) := s.keyAuth r body
    if e ≠ 0 then s.keyRefuse n e
    else
      let t := s.setKey n none
      if s.hasAdmin && !t.hasAdmin then s.keyRefuse n 0x12
      else (t.wr R.SEC_KSTAT_LASTRSN 0).raise Ev.secKeyRevoked n

/-- SEC_KCMD: any other key is ignored. -/
def State.keyCmd (s : State) (r : Req) (v : Word) : State :=
  if bitsOf v 31 16 ≠ 0x6E4B then s
  else match bitsOf v 7 0 with
  | 1 => { s.wr R.SEC_KSTAT_LASTRSN 0 with sec := { s.sec with kdata := [] } }
  | 2 => s.keyEnroll r
  | 3 => s.keyRevoke r
  | _ => s

/-! ### Attestation -/

/-- A region's part of the report (R549). -/
def UpdRegion.report (r : UpdRegion) : List Byte :=
  let x := r.slot r.activeB
  toBytes 4 x.version ++ toBytes 4 r.floor ++ toBytes 4 (r.activeB.toNat + 2 * r.staged.isSome.toNat) ++ toBytes 4 0 ++
    (x.digest ++ List.replicate 32 0).take 32

/-- The highest compatibility profile supported (R550). -/
def maxProfile : Nat := min (1 + Config.moreProfiles.toNat) 255

/-- The signed part of the attestation report (R549). -/
def State.report (s : State) : List Byte :=
  toBytes 4 0x52545441 ++ toBytes 2 1 ++ toBytes 2 0 ++ toBytes 8 Config.serial.toNat ++ s.getSig R.SEC_ATTNONCE0 ++
    toBytes 4 (maxProfile * 0x100 + s.rd R.SEC_PROFILE_PROF) ++ toBytes 4 Config.stepping.toNat ++
    toBytes 4 (s.rd R.MBX_BOOTCNT_COUNT) ++
    toBytes 4 (s.rd R.SYS_STRAP_ROLE * 0x10000 + s.pairState * 0x100 + s.mode) ++
    toBytes 4 (if s.on R.RTC_STAT_VALID then s.rd R.RTC_SECCNT_COUNT else 0xFFFFFFFF) ++ toBytes 4 0 ++
    (regionCodes.flatMap fun n => (s.region n).report) ++ s.getSig R.EDIT_PROGSIG0 ++
    (Config.romDigest ++ List.replicate 32 0).take 32 ++ toBytes 8 0

/-- Bytes padded with 0 to a length. -/
def padTo (n : Nat) (b : List Byte) : List Byte := (b ++ List.replicate n 0).take n

/-- The identity certificate (R548). -/
def certificate : List Byte :=
  toBytes 8 Config.serial.toNat ++ toBytes 2 0x4870 ++ toBytes 4 Config.madeOn.toNat ++ padTo 8 (keyId Config.devicePub) ++
    padTo 8 Config.certKeyId ++ List.replicate 34 0 ++ padTo 1952 Config.devicePub ++ padTo sigLen Config.certSignature

/-- The bytes of a result: 1 the report with its signature, 2 the identity certificate (R548, R549). -/
def State.attestBytes (s : State) (kind : Nat) : List Byte :=
  if kind = 1 then s.report ++ padTo sigLen (Config.mldsaSign s.report) else certificate

/-- A requester's attestation buffer. -/
def State.attest (s : State) (r : Req) : Option Attest := (s.sec.attest.find? fun x => x.1 = s.bank r).map Prod.snd

/-- The state in which a requester's attestation buffer is x. -/
def State.setAttest (s : State) (r : Req) (x : Option Attest) : State :=
  let rest := s.sec.attest.filter fun y => y.1 ≠ s.bank r
  { s with sec := { s.sec with attest := rest ++ (x.map fun x => (s.bank r, x)).toList } }

/-- SEC_ATTCMD (R549): any other key is ignored; while a result is built or read it is refused with BUSY. -/
def State.attestCmd (s : State) (r : Req) (v : Word) : State :=
  let code := bitsOf v 7 0
  if bitsOf v 31 16 ≠ 0xA77E || (code ≠ 1 && code ≠ 2) then s
  else if (s.attest r).isSome then s.wr R.SEC_KSTAT_LASTRSN 0x21
  else
    let x : Attest := ⟨code, false, s.attestBytes code⟩
    s.setAttest r (some x)

/-- REPORT_DONE (R549): a requester's result is complete. -/
def execReportDone (r : Req) (s : State) : Out :=
  .next (match s.attest r with
    | some x => if x.ready then s else (s.setAttest r (some { x with ready := true })).raise Ev.secReportDone (x.kind - 1)
    | none => s)

/-- A read of SEC_ATTDATA (R549): the next 4 bytes, and IDLE after the last word. -/
def State.attestTake (s : State) (r : Req) : Word × State :=
  match s.attest r with
  | some x =>
    if !x.ready then (0, s)
    else
      let rest := x.data.drop 4
      let (w, s) := s.nextWord x.data
      (w, s.setAttest r (if rest.isEmpty then none else some { x with data := rest }))
  | none => (0, s)

/-! ### The SEC page -/

/-- SEC_PROFSEL (R551). -/
def State.profileWrite (s : State) (v : Word) : WRes :=
  let p := bitsOf v 7 0
  let fits := regionCodes.all fun n =>
    let x := (s.region n).slot (s.region n).activeB
    x.pmin ≤ p && p ≤ x.pmax
  if s.mode ≠ 2 then refuse .mode s
  else if p = 0 || maxProfile < p || !fits then refuse .range s
  else accept ((s.setReg R.SEC_PROFSEL (BitVec.ofNat 32 p)).raise Ev.secProfileSet p)

/-- A write to the SEC page. -/
def State.secWrite (s : State) (r : Req) (a : Nat) (v : Word) : WRes :=
  if isCore r then refuse .requester s
  else if a = R.SEC_PROFSEL then s.profileWrite v
  else if a = R.SEC_ATTCMD then accept (s.attestCmd r v)
  else if a = R.SEC_KSEL then accept (s.setReg (s.bk r a) (v &&& 7))
  else if a = R.SEC_KCMD then if hostSide r then accept (s.keyCmd r v) else refuse .requester s
  else if a = R.SEC_KWDATA then
    accept { s with sec := { s.sec with kdata := (s.sec.kdata ++ toBytes 4 v.toNat).take 5277 } }
  else accept (s.plainWrite a v)

/-- What the registers of the SEC page read. -/
def State.secRead (s : State) (r : Req) (a : Nat) : Option Word :=
  let w (v : Nat) : Option Word := some (BitVec.ofNat 32 v)
  let key := s.keyAt (s.rd (s.bf r R.SEC_KSEL_SLOT))
  let id := match key with | some k => ofBytes (padTo 8 (keyId k.pub)) | none => 0
  if a = R.SEC_SERIALLO then w Config.serial.toNat
  else if a = R.SEC_SERIALHI then w (Config.serial.toNat / 2 ^ 32)
  else if a = R.SEC_PROFILE then w (0x48700000 + maxProfile * 0x100 + s.rd R.SEC_PROFILE_PROF)
  else if a = R.SEC_STEPPING then some Config.stepping
  else if a = R.SEC_ATTSTAT then
    match s.attest r with
    | some x => w ((if x.ready then 2 else 1) * 0x10000000 + (if x.ready then (if x.kind = 1 then 3693 else 5325) else 0))
    | none => w 0
  else if a = R.SEC_KINFO then w (match key with | some k => 0x80000000 + k.rights | none => 0)
  else if a = R.SEC_KIDLO then w id
  else if a = R.SEC_KIDHI then w (id / 2 ^ 32)
  else if a = R.SEC_KSTAT then some (bitsSet (s.reg a) 12 0 s.sec.kdata.length)
  else none

end Sys2Proof.Machine
end

