-- ==== Sys2Proof/Machine/Clk.lean ====
section
/-!
DEFINITION. Machine/Clk.lean: clock sources and selectors (14 R465 to R478) and the watchdog's count (14 R479 to R486).
-/

namespace Sys2Proof.Machine

/-! ### Clock sources -/

/-- The ready flag of a source (R465). -/
def State.ready (s : State) (src : Nat) : Bool := (s.rd R.CLK_READY_READY).testBit src

/-- A measurement of the frequency counter ends (R478). -/
def State.fmcEnd (s : State) (outcome reason : Nat) : State :=
  let s := (s.wr R.FMC_STAT_OUTCOME outcome).wr R.FMC_STAT_REASON reason
  s.raise Ev.clkFmcDone (outcome * 0x10000000 + reason * 0x10000)

/-- A measurement runs. -/
def State.fmcRuns (s : State) : Bool := s.rd R.FMC_STAT_OUTCOME = 1

/-- A running measurement sees a source lose its flag (R478). -/
def State.fmcLost (s : State) (src : Nat) : State :=
  if !s.fmcRuns then s
  else if s.rd R.FMC_CTL_REF = src then s.fmcEnd 3 0x30
  else if s.rd R.FMC_CTL_MEAS = src then s.wr R.FMC_STAT_MEASLOST 1
  else s

/-- A source's ready flag takes a value (R465): a change raises READY_CHANGE. -/
def State.setReady (s : State) (src : Nat) (b : Bool) : State :=
  if s.ready src = b then s
  else
    let s := s.wrb ⟨R.CLK_READY, src, src⟩ b
    let s := s.raise Ev.clkReadyChange (src * 0x100 + b.toNat)
    if b then s else s.fmcLost src

/-- The source code of a PLL reference: REFCLK, BUSREFA, BUSREFB (R465, R466). -/
def refSource (ref : Nat) : Nat := match ref with | 0 => 1 | 1 => 3 | _ => 4

/-- The PLL-derived domains have their ready flags while the PLL output runs (R465). -/
def State.showPll (s : State) (run : Bool) : State :=
  let s := s.wrb R.CLK_STAT_RUN run
  let s := [5, 6, 7, 8, 9, 10].foldl (fun s n => s.setReady n run) s
  s.wrb R.CLK_STAT_MARREF (!run)

/-- The PLL coasts (R469): COAST sets, LOCK clears. -/
def State.coast (s : State) : State :=
  let s := ((s.wr R.CLK_STAT_COAST 1).wr R.CLK_STAT_LOCK 0).inc R.CLK_LOSSCNT_COASTS
  s.raise Ev.clkCoastStart 0

/-- The clock controller chooses a new reference while the PLL coasts (R470): the first ready one other than the one lost,
recovered references only with SYS_RSTCFG.BUSREF. -/
def State.fallback (s : State) (lost : Nat) : State :=
  let refs := if s.on R.SYS_RSTCFG_BUSREF then [0, 1, 2] else [0]
  match refs.find? fun r => r ≠ lost && s.ready (refSource r) with
  | some r =>
    let s := (s.wr R.CLK_SEL_PLLREF r).wr R.CLK_STAT_PLLREF r
    let s := { s.inc R.CLK_LOSSCNT_FALLBACKS with clk := { s.clk with switching := false } }
    s.raise Ev.clkRefFallback r
  | none => s

/-- SWITCH_REFUSED of a selector and a source, with CLK_STAT.LASTRSN NOT_READY (R472). -/
def State.switchRefused (s : State) (sel src : Nat) : State :=
  (s.wr R.CLK_STAT_LASTRSN 0x07).raise Ev.clkSwitchRefused (sel * 0x100 + src)

/-- SWITCH_DONE (R473). -/
def State.switchDone (s : State) (sel src : Nat) : State := s.raise Ev.clkSwitchDone (sel * 0x100 + src)

/-! ### CLKOUT and the frequency-measuring counter -/

/-- The frequency of a source in Hz with the PLL locked (R465, R467). -/
def State.sourceHz (s : State) (src : Nat) : Nat :=
  match src with
  | 0 => 32000 | 1 => 25000000 | 2 => 32768 | 3 => 25000000 | 4 => 25000000
  | 5 => (match s.pstate with | 0 => 1000000000 | 1 => 500000000 | _ => 250000000)
  | 6 => 500000000 | 7 => 250000000 | 8 => 125000000 | 9 => 100000000 | 10 => 80000000
  | _ => if s.on R.CLK_STAT_MARREF then 25000000 else 50000000

/-- A write of CLK_OUTCTL (R472, R476). -/
def State.clkoutWrite (s : State) (v : Word) : WRes :=
  let src := bitsOf v 19 16
  if 11 < src then refuse .range s
  else if src ≠ s.rd R.CLK_OUTCTL_SRC && !s.ready src then refuse .range (s.switchRefused 2 src)
  else if 125000000 * (bitsOf v 11 0 + 1) < s.sourceHz src then refuse .range s
  else
    let old := s.rd R.CLK_OUTCTL_SRC
    let s := s.plainWrite R.CLK_OUTCTL v
    let s := if old = src then s else s.switchDone 2 src
    accept (s.raise Ev.clkClkoutSet
      (bitsOf v 31 31 * 0x80000000 + src * 0x10000 + bitsOf v 11 0))

/-- FMC_CMD (R477, R478). -/
def State.fmcCmd (s : State) (v : Word) : WRes :=
  if bitsOf v 31 16 ≠ 0xF3C0 then accept s
  else match bitsOf v 7 0 with
  | 1 =>
    if s.fmcRuns then accept (s.wr R.FMC_STAT_REASON 0x21)
    else if !s.ready (s.rd R.FMC_CTL_MEAS) then
      refuse .range ((s.wr R.FMC_STAT_REASON 0x07).switchRefused 3 (s.rd R.FMC_CTL_MEAS))
    else if !s.ready (s.rd R.FMC_CTL_REF) then
      refuse .range ((s.wr R.FMC_STAT_REASON 0x07).switchRefused 4 (s.rd R.FMC_CTL_REF))
    else accept (((s.wr R.FMC_STAT_OUTCOME 1).wr R.FMC_STAT_REASON 0).wr R.FMC_STAT_MEASLOST 0)
  | 2 => accept (if s.fmcRuns then s.fmcEnd 4 0 else s)
  | _ => accept s

/-- FMC_DONE (R477): the gate completes with a count. -/
def execFmcDone (count : Nat) (s : State) : Out :=
  .next (if s.fmcRuns then (s.wr R.FMC_COUNT_COUNT (min count 0xFFFFFFFF)).fmcEnd 2 0 else s)

/-- FMC_TIMEOUT (R478). -/
def execFmcTimeout (s : State) : Out := .next (if s.fmcRuns then s.fmcEnd 3 0x31 else s)

/-! ### The watchdog -/

/-- The watchdog counts: enabled, in RUN or TRACK, before the supply-fail latch (R479, 02 R62). -/
def State.wdtCounting (s : State) : Bool :=
  s.on R.WDT_CTL_EN && s.pgEn 0x06 && (s.mode = 3 || s.mode = 4) && !s.sys.latch

/-- A new window: count 0 and no check-ins (R481, R483). -/
def State.wdtWindow (s : State) : State :=
  let s := ((s.wr R.WDT_COUNT_COUNT 0).wr R.WDT_CIN0_TASKS 0).wr R.WDT_CIN1_TASKS 0
  { s with wdt := { s.wdt with twice := 0 } }

/-- Entry into RUN or TRACK: a window with stage 0 (R479). -/
def State.wdtStart (s : State) : State :=
  let s := s.wdtWindow.wr R.WDT_STAT_STAGE 0
  { s with wdt := { s.wdt with svc := 0 } }

/-- A restart clears the counts of WDT_STAT ("since restart"). -/
def State.wdtRestart (s : State) : State :=
  (((s.wr R.WDT_STAT_STRAY 0).wr R.WDT_STAT_BADKEY 0).wr R.WDT_STAT_WARNS 0).wr R.WDT_STAT_LASTSVC 0

/-- One tick of the timebase in which nothing is commanded (01 R15): the model's meaning of a step that finds no command
waiting (log entry 3). A watchdog on the timebase counts it (R480). -/
def State.tick (s : State) : State :=
  let s := { s with tb := s.tb + 1 }
  if s.wdtCounting && !s.on R.WDT_STAT_FROZEN && !s.on R.WDT_CTL_CLKSEL && s.rd R.WDT_COUNT_COUNT < s.rd R.WDT_PERIOD_TICKS
  then s.incWrap R.WDT_COUNT_COUNT else s

/-- The expected set, and the tasks checked in, as masks of 64 tasks (R482). -/
def State.wdtExpect (s : State) : Nat := s.rd64 R.WDT_EXPECT0
def State.wdtCheckins (s : State) : Nat := s.rd64 R.WDT_CIN0

/-- The check-ins are complete (R482). -/
def State.wdtComplete (s : State) : Bool :=
  (List.range 64).all fun t => !s.wdtExpect.testBit t || (s.wdtCheckins.testBit t && !s.wdt.twice.testBit t)

/-- The lowest task of a mask, or 0xFF. -/
def lowestTask (m : Nat) : Nat := ((List.range 64).find? fun t => m.testBit t).getD 0xFF

/-- A core checks a task in (R482). -/
def State.wdtCheckin (s : State) (t : Nat) : State :=
  if !s.wdtExpect.testBit t then (s.inc R.WDT_STAT_STRAY).raise Ev.wdtStrayCheckin t
  else if s.wdtCheckins.testBit t then
    { s with wdt := { s.wdt with twice := s.wdt.twice ||| 2 ^ t } }
  else s.wr ⟨R.WDT_CIN0 + 4 * (t / 32), t % 32, t % 32⟩ 1

/-- The evidence of an entry into stage 1 (R484). -/
def State.wdtEvidence (s : State) (cause : Nat) : State :=
  let s := s.wr R.WDT_EVCAUSE_STAGE1 cause
  let s := s.setReg R.WDT_EVSTROKE (BitVec.ofNat 32 s.stroke)
  let s := s.wr64 R.WDT_EVSVCLO s.wdt.svc
  (List.range 4).foldl (fun s l =>
    let k := s.core (s.physOf l)
    let f : Fld := ⟨R.WDT_EVTASK, 8 * l + 7, 8 * l⟩
    match k.fgRun, k.bgRun with
    | some r, _ => (s.setReg (R.WDT_EVPC0 + 4 * l) k.fg.pc).wr f (128 + r.task)
    | none, some r => (s.setReg (R.WDT_EVPC0 + 4 * l) k.bg.pc).wr f (128 + r.task)
    | none, none => (s.setReg (R.WDT_EVPC0 + 4 * l) 0xFFFFFFFF).wr f 0) s

/-- An expiry (R483): stage 1 is entered, or in stage 1 a watchdog reset is due (true). -/
def State.wdtExpiry (s : State) (cause : Nat) : Bool × State :=
  if s.rd R.WDT_STAT_STAGE = 0 then
    let s := (s.wdtEvidence cause).inc R.WDT_STAT_WARNS
    let s := (s.wr R.WDT_STAT_STAGE 1).raise Ev.wdtWarn (s.stroke % 0x1000000 * 0x100 + cause)
    (false, s.wdtWindow)
  else
    let s := s.wr R.WDT_EVCAUSE_STAGE2 cause
    (true, { s with wdt := { s.wdt with stage2 := some cause } })

/-- A write of WDT_SERVICE (R481): true when a watchdog reset is due. -/
def State.wdtService (s : State) (v : Word) : Bool × State :=
  if v ≠ 0x0000A5C3 then (false, s.inc R.WDT_STAT_BADKEY)
  else if !s.wdtCounting then (false, s)
  else
    let n := s.rd R.WDT_COUNT_COUNT
    if n < s.rd R.WDT_OPEN_TICKS then (s.wr R.WDT_STAT_LASTSVC 2).wdtExpiry 2
    else if s.rd R.WDT_PERIOD_TICKS ≤ n then (s.wr R.WDT_STAT_LASTSVC 4).wdtExpiry 1
    else if s.wdtComplete then
      let s := ((s.wr R.WDT_STAT_LASTSVC 1).wr R.WDT_STAT_STAGE 0).wdtWindow
      (false, { s with wdt := { s.wdt with svc := s.tb.toNat } })
    else
      let missing := s.wdtExpect - (s.wdtExpect &&& s.wdtCheckins)
      (false, (s.wr R.WDT_STAT_LASTSVC 3).raise Ev.wdtIncomplete
        (lowestTask s.wdt.twice * 0x100 + lowestTask missing))

/-- The bits set in a word. -/
def popCount (v : Word) : Nat := ((List.range 32).filter fun i => v.getLsbD i).length

/-- A write of the watchdog's configuration (R479, R480, R482, R472); CFG_CHANGED when it changes one. -/
def State.wdtCfgWrite (s : State) (a : Nat) (v : Word) : WRes :=
  let old := s.reg a
  let put (s : State) : WRes :=
    let s := s.plainWrite a v
    if s.reg a = old then accept s
    else accept (s.raise Ev.wdtCfgChanged (s.reg R.WDT_CTL).toNat)
  if s.mode ≠ 2 then refuse .mode s
  else if a = R.WDT_CTL then
    let src := if v.getLsbD 1 then 0 else 8
    if v.getLsbD 1 = old.getLsbD 1 then put s
    else if s.ready src then put (s.switchDone 1 src)
    else refuse .range (s.switchRefused 1 src)
  else if a = R.WDT_PERIOD then
    if v.toNat < 16 || v.toNat ≤ s.rd R.WDT_OPEN_TICKS then refuse .range s else put s
  else if a = R.WDT_OPEN then
    if v = 0 || s.rd R.WDT_PERIOD_TICKS ≤ v.toNat then refuse .range s else put s
  else
    let other := if a = R.WDT_EXPECT0 then R.WDT_EXPECT1 else R.WDT_EXPECT0
    if 32 < popCount v + popCount (s.reg other) then refuse .range s else put s

end Sys2Proof.Machine
end

