-- ==== Sys2Proof/Machine/Net.lean ====
section
/-!
DEFINITION. Machine/Net.lean: the network engine: items, sessions, the internal switch, time of day (11 R398 to R413).
-/

namespace Sys2Proof.Machine

/-! ### What the three blocks share (R398 to R400) -/

/-- The unit may submit and transmit: solo, Umpire, or the active unit of a pair (R400). -/
def State.owner (s : State) : Bool := s.pairState < 2

/-- A command or a configuration write of a unit that does not own the media (R400): LASTRSN says NOT_ACTIVE; a program's
store in TRACK is not carried out. -/
def State.notActive (s : State) (r : Req) (lastrsn : Fld) : State :=
  if isCore r && s.mode = 4 then s else s.wr (s.bf r lastrsn) 6

/-- OUTCOME, REASON and the remaining bits of an item's status, of the latest 4096 items of the page (R398). -/
def itemStatus (nextId id : Nat) (pending : Option Nat) (results : List ItemRes) : Nat × Nat × Nat :=
  if 4096 ≤ (nextId + 65535 - id) % 65536 then (15, 0, 0)
  else match pending with
  | some aux => (0, 0, aux)
  | none =>
    match results.find? fun x => x.id = id with
    | some x => (x.outcome, x.reason, x.aux)
    | none => (15, 0, 0)

/-- A value in w bits of two's complement, limited to their range. -/
def twos (w : Nat) (v : Int) : Nat :=
  let h : Int := (2 ^ (w - 1) : Nat)
  ((min (max v (-h)) (h - 1)) % (2 * h)).toNat

/-- Part of a latent fault is exercised by an item the active unit completes (09 R358). -/
def State.netExercised (s : State) : State :=
  if s.pairState = 1 then { s with pair := { s.pair with latentNet := 0 } } else s

/-! ### Sessions -/

/-- The owner of a word of DRAM that was uncorrectable has read it and lost what held it (10 R368). -/
def State.dramRead (s : State) (h : DramHolder) : State :=
  { s with memory := { s.memory with dramBad := s.memory.dramBad.filter fun x => x ≠ h } }

/-- A session's record. -/
def State.nsess (s : State) (k : Nat) : NetSess := SMap.get (fun _ => {}) s.net.sess k

/-- The state in which session k's record is q. -/
def State.setNsess (s : State) (k : Nat) (q : NetSess) : State :=
  { s with net := { s.net with sess := SMap.set (fun _ => {}) k q s.net.sess } }

/-- A field of a SESS register, for session k (03 R98). -/
def sessFld (f : Fld) (k : Nat) : Fld := f.off (0x1000 * (k / 16) + 0xF0 * (k % 16))

/-- SESS_STAT.STATE: 0 CLOSED, 1 OPENING, 2 LISTEN, 3 ESTABLISHED, 4 OPEN, 5 CLOSING. -/
def State.sessState (s : State) (k : Nat) : Nat := s.rd (sessFld R.SESS_STAT_STATE k)

/-- SESS_CTL.KIND: 1 TCP connect, 2 TCP listen, 3 UDP. -/
def State.sessKind (s : State) (k : Nat) : Nat := s.rd (sessFld R.SESS_CTL_KIND k)

/-- The network engine works: enabled, in a unit that owns the service address, outside PARK, INIT and RECOVERY. -/
def State.netOn (s : State) : Bool := s.pgEn 0x50 && s.owner && 2 ≤ s.mode && s.mode ≠ 7 && !s.sys.latch

/-- A port is enabled and its link is up. -/
def State.ethUp (s : State) (eth2 : Bool) : Bool :=
  if eth2 then s.on R.NET_CFG_ETH2EN && s.on R.NET_STAT_ETH2 else s.on R.NET_CFG_ETH1EN && s.on R.NET_STAT_ETH1

/-- A frame of the module's own is dropped and counted (R401, R402). -/
def State.dropFrame (s : State) : State := s.inc R.NET_CNT_DROP_COUNT

/-- A condition of session k (11 "SESS pages"). -/
def sessCond (k code : Nat) : Cond := ⟨0x58 + k / 16, k % 16, 112 + k / 4, code⟩

/-- A session changes its state: LASTRSN and STATE_CHANGE. -/
def State.setSess (s : State) (k st reason : Nat) : State :=
  let s := (s.wr (sessFld R.SESS_STAT_STATE k) st).wr (sessFld R.SESS_STAT_LASTRSN k) reason
  s.raise (sessCond k 1) (reason * 0x10000 + st * 0x100 + k)

/-- The ports a session sends at: its own, or with BRIDGE set whichever the switch has learned. -/
def State.sessPorts (s : State) (k : Nat) : Nat :=
  if s.on R.NET_CFG_BRIDGE then 3 else if s.on (sessFld R.SESS_CTL_IF k) then 2 else 1

/-- The network engine serves session k. -/
def State.sessOn (s : State) (k : Nat) : Bool := s.netOn && s.pgEn (0x58 + k / 16)

/-- A packet from a port may belong to session k. -/
def State.sessHears (s : State) (k : Nat) (e : EthFrom) : Bool :=
  (s.on R.NET_CFG_BRIDGE || s.on (sessFld R.SESS_CTL_IF k) == e.eth2) && s.on (sessFld R.SESS_CTL_IPV6 k) == e.v6 &&
  s.pgEn (0x58 + k / 16)

/-- SESS_RADDR as a number. -/
def State.sessRaddr (s : State) (k : Nat) : Nat :=
  (List.range 4).foldl (fun n i => n + s.rd ((sessFld R.SESS_RADDR0_ADDR k).off (4 * i)) * 2 ^ (32 * i)) 0

/-- The peer of a session is recorded, in SESS_PEER too. -/
def State.setPeerAddr (s : State) (k src port : Nat) : State :=
  let s := s.setNsess k { s.nsess k with peer := src, port := port }
  let s := (List.range 4).foldl (fun s i => s.wr ((sessFld R.SESS_PEER0_ADDR k).off (4 * i)) (src / 2 ^ (32 * i))) s
  s.wr (sessFld R.SESS_PEERPORT_PORT k) port

/-- A session's sequence and acknowledgement state is mirrored (09 R361). -/
def State.mirrorSess (s : State) (k : Nat) : State :=
  let q := s.nsess k
  s.mirror (.net k) 0 (.session [s.sessState k, q.peer, q.port, q.lport, q.passive.toNat, q.una, q.flight, q.part, q.rcv,
    q.wnd, q.mss, q.cwnd, q.ssthresh, q.closing.toNat, q.finSent.toNat])

/-- The items of a session, in submission order. -/
def State.sessItems (s : State) (k : Nat) : List NetItem := s.net.items.filter fun i => i.sess = k

/-- An item reaches its outcome (R407): it leaves the queue and the ledger, and ITEM_DONE is raised. -/
def State.netEnd (s : State) (i : NetItem) (outcome reason : Nat) : State :=
  let s := { s with net := { s.net with items := s.net.items.filter (fun x => x.id ≠ i.id),
                                        results := ((⟨i.id, outcome, reason, i.sess⟩ : ItemRes) :: s.net.results).take 4096 } }
  let s := (((s.dramRead (.item (.net i.sess) i.id)).ledgerDrop .net i.sess i.id).mirrorForget (.net i.sess) i.id).mirror (.net i.sess) i.id (.ended outcome reason)
  let s := s.wr (sessFld R.SESS_STAT_PENDING i.sess) (s.sessItems i.sess).length
  let s := if outcome = 1 then s.netExercised else s
  s.raise (sessCond i.sess 2) (i.id * 0x10000 + outcome * 0x1000 + reason % 16 * 0x100 + i.sess)

/-- An item's first byte is about to be sent. -/
def State.netBegin (s : State) (i : NetItem) : State :=
  { s.ledgerStart .net i.sess i.id with net := { s.net with items := s.net.items.map fun x =>
      if x.id = i.id then { x with begun := true } else x } }

/-- Every item of a session ends for the session's sake: possibly delivered where begun, failed otherwise. -/
def State.sessFail (s : State) (k reason : Nat) : State :=
  (s.sessItems k).foldl (fun s i => s.netEnd i (if i.begun then 3 else 2) reason) s

/-! ### TCP -/

/-- The bytes of a session's items, from the oldest that is not acknowledged. -/
def State.stream (s : State) (k : Nat) : List Byte :=
  ((s.sessItems k).flatMap fun i => i.data).drop (s.nsess k).part

/-- The item that holds the n-th byte of a list of items, and its bytes from there on. -/
def itemAt : List NetItem → Nat → Option (NetItem × Nat)
  | [], _ => none
  | i :: t, n => if n < i.data.length then some (i, i.data.length - n) else itemAt t (n - i.data.length)

/-- The C-tag that a session sends with (11 R401, SESS_VLAN). -/
def State.sessTag (s : State) (k : Nat) : Option Nat :=
  if s.on (sessFld R.SESS_VLAN_TAGGED k) then some (s.rd (sessFld R.SESS_VLAN_PCP k) * 0x2000 + s.rd (sessFld R.SESS_VLAN_VID k))
  else none

/-- A segment goes out: sequence number, flags, data; it acknowledges what was received and advertises the free space of the
receive buffer (R408). -/
def State.sendSeg (s : State) (k seq : Nat) (syn acks fin rst : Bool) (data : List Byte) : State :=
  let q := s.nsess k
  let mss := if syn then some (if s.on (sessFld R.SESS_CTL_IPV6 k) then 1440 else 1460) else none
  s.out (.eth (s.sessPorts k) (.tcp q.peer (s.sessTag k)
    ⟨q.lport, q.port, seq % 2 ^ 32, if acks then q.rcv else 0, syn, acks, fin, rst, 65536 - q.rx.length, mss, data⟩))

/-- The oldest segment that is not acknowledged is sent again: a SYN while opening, data, or the FIN. -/
def State.resend (s : State) (k : Nat) : State :=
  let q := s.nsess k
  if s.sessState k = 1 then s.sendSeg k q.una true q.passive false false []
  else if 0 < q.flight then
    let n := match itemAt (s.sessItems k) q.part with | some (_, n) => n | none => 0
    s.sendSeg k q.una false true false false ((s.stream k).take (min (min q.mss q.flight) n))
  else if q.finSent then s.sendSeg k q.una false true true false [] else s

/-- Segments are sent as far as the peer's window, the congestion window and the acknowledgement of STARTED allow (R406, RFC
5681, 09 R361); after the last submitted byte of a session that CLOSE ended, the FIN. -/
def State.tcpPush (s : State) (k : Nat) : Nat → State
  | 0 => s
  | n + 1 =>
    let q := s.nsess k
    let rest := (s.stream k).drop q.flight
    match itemAt (s.sessItems k) (q.part + q.flight) with
    | none =>
      if q.closing && !q.finSent then
        let s := (s.setNsess k { q with finSent := true }).mirrorSess k
        s.sendSeg k (q.una + q.flight) false true true false []
      else s
    | some (i, m) =>
      let len := min (min q.mss m) (min q.cwnd q.wnd - q.flight)
      if len = 0 then s
      else
        let (ok, s) := if i.begun then (true, s) else s.startGate (.net k) i.id
        if !ok then s
        else
          let s := if i.begun then s else s.netBegin i
          let timed := match q.timed with
            | some t => some t
            | none => some (q.acked + q.flight + len, s.tb.toNat)
          let s := (s.setNsess k { q with flight := q.flight + len, timed := timed }).mirrorSess k
          (s.sendSeg k (q.una + q.flight) false true false false (rest.take len)).tcpPush k n

/-- The datagram at the head of a UDP session's items goes to the MAC when none is in transmission. A session open to any
source sends to the latest datagram's source (log entry 26). -/
def State.udpPush (s : State) (k : Nat) : State :=
  match s.sessItems k with
  | [] => if s.sessState k = 5 then s.setSess k 0 0 else s
  | i :: _ =>
    if i.begun then s
    else
      let (ok, s) := s.startGate (.net k) i.id
      if !ok then s
      else
        let q := s.nsess k
        let peer := if s.sessRaddr k = 0 then q.peer else s.sessRaddr k
        let port := if s.rd (sessFld R.SESS_RPORT_PORT k) = 0 then q.port else s.rd (sessFld R.SESS_RPORT_PORT k)
        (s.netBegin i).out (.eth (s.sessPorts k) (.udp peer (s.sessTag k) q.lport port i.data))

/-- The items at the head of a session whose payload reads uncorrectable from DRAM fail (10 R368); their reason is no code of
NET_ITSTAT and is free (log entry 191). -/
def State.netLost (s : State) (k : Nat) : State :=
  ((s.sessItems k).takeWhile fun i => !i.begun && s.memory.dramBad.contains (.item (.net k) i.id)).foldl
    (fun s i => s.used.netEnd i 2 (s.free.toNat % 256)) s

/-- A session sends what it may. -/
def State.netPush (s : State) (k : Nat) : State :=
  if !s.sessOn k then s
  else
  let s := s.netLost k
  if s.sessKind k = 3 then (if s.sessState k = 4 || s.sessState k = 5 then s.udpPush k else s)
  else if s.sessState k = 3 || s.sessState k = 5 then s.tcpPush k ((s.stream k).length + 1) else s

/-- A session closes, by RST where it is aborted (R405, R407, R411). -/
def State.sessClose (s : State) (k reason : Nat) (rst : Bool) : State :=
  let st := s.sessState k
  if st = 0 then s
  else
    let q := s.nsess k
    let s := if rst && s.sessKind k ≠ 3 && st ≠ 2 then s.sendSeg k (q.una + q.flight) false true false true [] else s
    let s := s.setNsess k { q with flight := 0, part := 0, timed := none, closing := false, finSent := false }
    (s.setSess k 0 reason).mirrorSess k

/-- A session is aborted: its items end as at the retransmission limit (R407). -/
def State.sessAbort (s : State) (k reason : Nat) (rst : Bool) : State := (s.sessFail k reason).sessClose k reason rst

/-- Every session closes and its items end with a reason (R407, R411). -/
def State.netCloseAll (s : State) (reason : Nat) : State :=
  (List.range 128).foldl (fun s k => s.sessAbort k reason true) s

/-- The bytes an acknowledgement covers leave the stream, and items whose last byte it covers complete. -/
def State.tcpAcked (s : State) (k n : Nat) : State :=
  let q := s.nsess k
  let s := s.setNsess k { q with part := q.part + n, flight := q.flight - n, una := (q.una + n) % 2 ^ 32,
                                 acked := q.acked + n }
  let s := s.wr (sessFld R.SESS_TXBYTES_COUNT k) (s.rd (sessFld R.SESS_TXBYTES_COUNT k) + n)
  (s.sessItems k).foldl (fun s i =>
    let q := s.nsess k
    if (s.sessItems k).head?.map NetItem.id = some i.id && i.data.length ≤ q.part then
      (s.netEnd i 1 0).setNsess k { q with part := q.part - i.data.length }
    else s) s

/-- A round trip was measured, in us (RFC 6298 with the limits of R401): SESS_RTT and the RTO. -/
def State.rttSample (s : State) (k r : Nat) : State :=
  let q := s.nsess k
  let old := s.rd (sessFld R.SESS_RTT_US k)
  let (srtt, var) :=
    if old = 0 && q.rttvar = 0 then (r, r / 2)
    else ((7 * old + r) / 8, (3 * q.rttvar + (max old r - min old r)) / 4)
  (s.setNsess k { q with rttvar := var, rto := min (max (srtt + max 1 (4 * var)) 200000) 60000000 }).wr
    (sessFld R.SESS_RTT_US k) srtt

/-- What an acknowledgement number does (RFC 5681): new data acknowledged, or a duplicate. -/
def State.tcpAck (s : State) (k : Nat) (g : TcpSeg) : State :=
  let q := s.nsess k
  let n := (g.ack + 2 ^ 32 - q.una) % 2 ^ 32
  if n = 0 then
    if g.data.isEmpty && 0 < q.flight && g.wnd = q.wnd then
      let d := q.dups + 1
      let cut := max (q.flight / 2) (2 * q.mss)
      if d = 3 then (s.setNsess k { q with dups := d, ssthresh := cut, cwnd := cut + 3 * q.mss, timed := none }).resend k
      else s.setNsess k { q with dups := d, cwnd := if 3 < d then q.cwnd + q.mss else q.cwnd }
    else s.setNsess k { q with wnd := g.wnd }
  else if n ≤ q.flight + q.finSent.toNat then
    let cwnd := if 3 ≤ q.dups then q.ssthresh
      else if q.cwnd < q.ssthresh then q.cwnd + min n q.mss else q.cwnd + max 1 (q.mss * q.mss / max 1 q.cwnd)
    let sample := match q.timed with | some (e, t) => if e ≤ q.acked + n then some t else none | none => none
    let s := s.setNsess k { q with wnd := g.wnd, cwnd := cwnd, dups := 0, tries := 0,
                                   timed := if sample.isSome then none else q.timed }
    let s := match sample with | some t => s.rttSample k ((s.tb.toNat - t) * 8 / 1000) | none => s
    let fin := q.flight < n
    let s := s.tcpAcked k (min n q.flight)
    if fin then
      let q := s.nsess k
      (s.setNsess k { q with una := (q.una + 1) % 2 ^ 32, finSent := false }).sessClose k 0 false
    else s
  else s

/-- Received bytes in order enter the receive buffer as far as they fit (R408): mirrored first, then acknowledged (R409). -/
def State.tcpData (s : State) (k : Nat) (data : List Byte) : State :=
  let q := s.nsess k
  let d := data.take (65536 - q.rx.length)
  if d.isEmpty then s
  else
    let s := s.setNsess k { q with rx := q.rx ++ d, rcv := (q.rcv + d.length) % 2 ^ 32 }
    let s := (s.mirror (.net k) 0 (.received q.peer q.port d)).mirrorSess k
    let s := s.wr (sessFld R.SESS_RXAVAIL_BYTES k) (q.rx.length + d.length)
    let s := s.wr (sessFld R.SESS_RXBYTES_COUNT k) (s.rd (sessFld R.SESS_RXBYTES_COUNT k) + d.length)
    if q.rx.isEmpty then s.raise (sessCond k 3) k else s

/-- A session that CLOSE, or the peer's FIN, ends: the FIN follows the submitted items. -/
def State.sessClosing (s : State) (k : Nat) : State :=
  ((s.setNsess k { s.nsess k with closing := true }).setSess k 5 0).netPush k

/-- A segment of an existing connection. -/
def State.tcpSegRx (s : State) (k : Nat) (g : TcpSeg) : State :=
  let q := s.nsess k
  if s.sessState k = 1 then
    if g.acks && g.ack ≠ (q.una + 1) % 2 ^ 32 then s
    else if g.rst then (if g.acks || q.passive then s.sessAbort k 2 false else s)
    else if !g.acks || (!q.passive && !g.syn) then s
    else
      let mss := min (if s.on (sessFld R.SESS_CTL_IPV6 k) then 1440 else 1460) (g.mss.getD q.mss)
      let iw := if 2190 < mss then 2 * mss else if 1095 < mss then 3 * mss else 4 * mss
      let rcv := if q.passive then q.rcv else (g.seq + 1) % 2 ^ 32
      let s := s.setNsess k { q with una := (q.una + 1) % 2 ^ 32, rcv := rcv, wnd := g.wnd, mss := mss, cwnd := iw, tries := 0 }
      let s := (s.setSess k 3 0).mirrorSess k
      if q.passive then s else s.sendSeg k (q.una + 1) false true false false []
  else if g.rst then (if g.seq = q.rcv then s.sessAbort k 2 false else s)
  else
    let s := if g.acks then s.tcpAck k g else s
    if s.sessState k = 0 then s
    else
      let inOrder := g.seq = (s.nsess k).rcv
      let s := if inOrder then s.tcpData k g.data else s
      let whole := (s.nsess k).rcv = (g.seq + g.data.length) % 2 ^ 32
      let fin := g.fin && inOrder && whole
      let s := if fin then s.setNsess k { s.nsess k with rcv := ((s.nsess k).rcv + 1) % 2 ^ 32 } else s
      let s := if g.data.isEmpty && !g.fin then s
        else let q := s.nsess k; s.sendSeg k (q.una + q.flight) false true false false []
      let s := if fin && s.sessState k = 3 then s.sessClosing k else s
      s.netPush k

/-- The lowest-numbered session for which p holds. -/
def findSess (p : Nat → Bool) : Option Nat := (List.range 128).find? p

/-- A SYN from a new peer: the lowest-numbered listen context that matches takes it, and otherwise it is answered with RST
(R405). -/
def State.synRx (s : State) (e : EthFrom) (g : TcpSeg) : State :=
  let takes (k : Nat) : Bool := s.sessState k = 2 && s.sessHears k e && (s.nsess k).lport = g.dport &&
    (s.sessRaddr k = 0 || s.sessRaddr k = e.src)
  match findSess takes with
  | some k =>
    let iss := s.free.toNat % 2 ^ 32
    let q : NetSess := { s.nsess k with passive := true, una := iss, rcv := (g.seq + 1) % 2 ^ 32, wnd := g.wnd,
                                        mss := g.mss.getD (if e.v6 then 1220 else 536) }
    let s := ((s.used.setNsess k q).setPeerAddr k e.src g.sport).setSess k 1 0
    (s.mirrorSess k).sendSeg k iss true true false false []
  | none =>
    s.out (.eth (if e.eth2 then 2 else 1) (.tcp e.src none
      ⟨g.dport, g.sport, 0, (g.seq + 1 + g.data.length) % 2 ^ 32, false, true, false, true, 0, none, []⟩))

/-- TCP_SEGMENT: a segment for the service address arrives. -/
def State.tcpRx (s : State) (e : EthFrom) (g : TcpSeg) : State :=
  if !s.netOn || !s.ethUp e.eth2 then s
  else if e.unfit then s.dropFrame
  else
    let mine (k : Nat) : Bool := (s.sessState k = 1 || s.sessState k = 3 || s.sessState k = 5) && s.sessKind k ≠ 3 &&
      s.sessHears k e && (s.nsess k).lport = g.dport && (s.nsess k).peer = e.src && (s.nsess k).port = g.sport
    match findSess mine with
    | some k => s.tcpSegRx k g
    | none => if g.syn && !g.acks && !g.rst then s.synRx e g else s.dropFrame

/-- UDP_DATAGRAM: queued for the lowest-numbered session that matches, dropped and counted when 64 wait (R408). -/
def State.udpRx (s : State) (e : EthFrom) (sport dport : Nat) (data : List Byte) : State :=
  if !s.netOn || !s.ethUp e.eth2 then s
  else if e.unfit then s.dropFrame
  else
    let rport (k : Nat) : Nat := s.rd (sessFld R.SESS_RPORT_PORT k)
    let takes (k : Nat) : Bool := s.sessState k = 4 && s.sessHears k e && (s.nsess k).lport = dport &&
      (s.sessRaddr k = 0 || s.sessRaddr k = e.src) && (rport k = 0 || rport k = sport)
    match findSess takes with
    | none => s.dropFrame
    | some k =>
      let q := s.nsess k
      if 64 ≤ q.dgrams.length then (s.inc (sessFld R.SESS_DROP_COUNT k)).raise (sessCond k 4) (0x10000 + k)
      else
        let s := s.mirror (.net k) 0 (.received e.src sport data)
        let s := s.setNsess k { q with dgrams := q.dgrams ++ [⟨e.src, sport, data⟩] }
        let s := (s.setPeerAddr k e.src sport).wr (sessFld R.SESS_RXAVAIL_BYTES k) (q.dgrams.length + 1)
        let s := s.wr (sessFld R.SESS_RXBYTES_COUNT k) (s.rd (sessFld R.SESS_RXBYTES_COUNT k) + data.length)
        if q.dgrams.isEmpty then s.raise (sessCond k 3) k else s

/-- RETRANSMISSION_TIMEOUT (R401, R407): at the limit of 8 the session is aborted; else the RTO doubles and the oldest segment
is resent. -/
def State.tcpTimeout (s : State) (k : Nat) : State :=
  let q := s.nsess k
  let waits := s.sessKind k ≠ 3 && (s.sessState k = 1 || 0 < q.flight || q.finSent)
  if !s.sessOn k || !waits then s
  else if 8 ≤ q.tries then s.sessAbort k 5 true
  else
    (s.setNsess k { q with tries := q.tries + 1, rto := min (2 * q.rto) 60000000, cwnd := q.mss, timed := none,
                           ssthresh := max (q.flight / 2) (2 * q.mss) }).resend k

/-- TXTMO_EXPIRY (R407): unsent, the item fails; a TCP item in flight is possibly delivered and aborts its session. -/
def State.netExpired (s : State) (id : Nat) : State :=
  match s.net.items.find? fun i => i.id = id with
  | none => s
  | some i =>
    if !i.begun then (s.netEnd i 2 1).netPush i.sess
    else if s.sessKind i.sess = 3 then s
    else
      let s1 := (s.sessItems i.sess).foldl (fun p x =>
        if x.id = id then (true, p.2.netEnd x 3 1)
        else (p.1, p.2.netEnd x (if x.begun && !p.1 then 3 else 2) 3)) (false, s)
      s1.2.sessClose i.sess 1 true

/-- DATAGRAM_SENT: the datagram's last byte has left the MAC. -/
def State.datagramSent (s : State) (id : Nat) : State :=
  match s.net.items.find? fun i => i.id = id && i.begun with
  | some i =>
    if s.sessKind i.sess ≠ 3 then s
    else
      let c := sessFld R.SESS_TXBYTES_COUNT i.sess
      ((s.wr c (s.rd c + i.data.length)).netEnd i 1 0).netPush i.sess
  | none => s

/-- NO_ROUTE (R407): unsent items of the session fail, and a connection that is opening closes. -/
def State.noRoute (s : State) (k : Nat) : State :=
  if !s.sessOn k || s.sessState k = 0 || s.sessState k = 2 then s
  else
    let s := (s.sessItems k).foldl (fun s i => if i.begun then s else s.netEnd i 2 8) s
    if s.sessState k = 1 then s.sessClose k 8 false else s

/-- KEEPALIVE (R401): an idle connection is probed. -/
def State.keepalive (s : State) (k : Nat) : State :=
  let q := s.nsess k
  if s.sessOn k && s.sessState k = 3 && s.on (sessFld R.SESS_CTL_KEEPALIVE k) && q.flight = 0 then
    s.sendSeg k (q.una + 2 ^ 32 - 1) false true false false []
  else s

/-! ### The commands of the NET and SESS pages -/

/-- A refused or accepted submission: NET_TXSTAT.LASTRSN. -/
def State.netReason (s : State) (r : Req) (n : Nat) : State := s.wr (s.bf r R.NET_TXSTAT_LASTRSN) n

/-- A requester's payload bytes. -/
def State.netWdata (s : State) (k : Nat) : List Byte := SMap.get (fun _ => []) s.net.wdata k

/-- NET_TXCMD SUBMIT (R398, R399, R406, R407). -/
def State.netSubmit (s : State) (r : Req) : State :=
  let b := s.bank r
  let k := s.rd (s.bf r R.NET_TXCFG_SESS)
  let len := s.rd (s.bf r R.NET_TXCFG_LEN)
  let data := s.netWdata b
  let udpMax := if s.on (sessFld R.SESS_CTL_IPV6 k) then 1452 else 1472
  if !s.owner then s.notActive r R.NET_TXSTAT_LASTRSN
  else if s.sessState k ≠ 3 && s.sessState k ≠ 4 then s.netReason r 0x0B
  else if len = 0 || data.length < len || (s.sessKind k = 3 && udpMax < len) then s.netReason r 5
  else if !s.ledgerFree .net then s.netReason r 4
  else
    let i : NetItem := ⟨s.net.nextId, k, data.take len, false⟩
    let s := (s.netReason r 0).wr (s.bf r R.NET_TXSTAT_ITEMID) i.id
    let s := { s with net := { s.net with items := s.net.items ++ [i], nextId := (i.id + 1) % 65536,
                                          wdata := SMap.set (fun _ => []) b [] s.net.wdata } }
    let s := (s.ledgerAdd .net k i.id).mirror (.net k) i.id (.accepted [s.rd R.NET_TXTMO_MS] i.data)
    (s.wr (sessFld R.SESS_STAT_PENDING k) (s.sessItems k).length).netPush k

/-- A free local port from 49152 (R405): which one the spec leaves open. -/
def State.freePort (s : State) : Nat :=
  let used (p : Nat) : Bool := (List.range 128).any fun k => s.sessState k ≠ 0 && (s.nsess k).lport = p
  let cand (i : Nat) : Nat := 49152 + (s.free.toNat + i) % 16384
  (((List.range 128).map cand).find? fun p => !used p).getD 49152

/-- SESS_CMD OPEN (R405): only while CLOSED. -/
def State.sessOpen (s : State) (k : Nat) : State :=
  if !s.owner || s.sessState k ≠ 0 || s.sessKind k = 0 then s
  else
    let any := s.rd (sessFld R.SESS_CTL_LPORT k) = 0
    let lport := if any then s.freePort else s.rd (sessFld R.SESS_CTL_LPORT k)
    let s := if any then s.used else s
    let iss := s.free.toNat % 2 ^ 32
    let v6 := s.on (sessFld R.SESS_CTL_IPV6 k)
    let q : NetSess := { lport := lport, una := iss, mss := if v6 then 1220 else 536 }
    let s := (s.setNsess k q).wr (sessFld R.SESS_RXAVAIL_BYTES k) 0
    match s.sessKind k with
    | 1 =>
      let s := ((s.used.setPeerAddr k (s.sessRaddr k) (s.rd (sessFld R.SESS_RPORT_PORT k))).setSess k 1 0).mirrorSess k
      s.sendSeg k iss true false false false []
    | 2 => (s.setSess k 2 0).mirrorSess k
    | _ => (s.setSess k 4 0).mirrorSess k

/-- SESS_CMD CLOSE (R405): after every submitted item the FIN; a listening or opening context closes at once. -/
def State.sessCmdClose (s : State) (k : Nat) : State :=
  if !s.owner then s
  else match s.sessState k with
  | 1 => s.sessClose k 0 true
  | 2 => s.sessClose k 0 false
  | 3 => s.sessClosing k
  | 4 => s.sessClosing k
  | _ => s

/-- SESS_CMD ABORT: RST at once. -/
def State.sessCmdAbort (s : State) (k : Nat) : State := if s.owner then s.sessAbort k 4 true else s

/-- The next datagram of session k is opened. -/
def State.openDgram (s : State) (k : Nat) : State :=
  let q := s.nsess k
  match q.dgrams with
  | [] => s.setNsess k { q with opened := [] }
  | d :: t => (s.setNsess k { q with dgrams := t, opened := d.data }).wr (sessFld R.SESS_RXAVAIL_BYTES k) t.length

/-- The received data of session k reads uncorrectable from DRAM (10 R368): a datagram is dropped and counted; a TCP session is
aborted, with a free reason (log entry 191). -/
def State.rxLost (s : State) (k : Nat) : State :=
  let s := s.dramRead (.received k)
  if s.sessKind k = 3 then
    ((s.openDgram k).setNsess k { (s.openDgram k).nsess k with opened := [] }).inc (sessFld R.SESS_DROP_COUNT k)
      |>.raise (sessCond k 4) (0x10000 + k)
  else
    let s := s.used.sessAbort k (s.free.toNat % 256) s.owner
    (s.setNsess k { s.nsess k with rx := [] }).wr (sessFld R.SESS_RXAVAIL_BYTES k) 0

/-- NET_RXINFO (R408): opens the selected session's next datagram, which a host's read mirrors (R409), or reports the TCP bytes
available. -/
def State.netRxinfo (s : State) (r : Req) : Word × State :=
  let k := s.rd (s.bf r R.NET_RXSEL_SESS)
  let q := s.nsess k
  let put (v : Nat) (s : State) : Word × State := (BitVec.ofNat 32 v, s.setReg (s.bk r R.NET_RXINFO) (BitVec.ofNat 32 v))
  if s.memory.dramBad.contains (.received k) then put 0 (s.rxLost k)
  else if s.sessKind k = 3 then
    let v := match q.dgrams with | [] => 0 | d :: _ => d.port * 0x10000 + d.data.length
    let s := s.openDgram k
    put v (if isCore r then s else s.mirror (.net k) 0 .opened)
  else put (min q.rx.length 0xFFFF) s

/-- NET_RXDATA (R408, R409): the next 4 bytes, which the read consumes; a host's read is mirrored, and TCP advertises the space
again when it has grown to a segment. -/
def State.netRxdata (s : State) (r : Req) : Word × State :=
  let k := s.rd (s.bf r R.NET_RXSEL_SESS)
  let q := s.nsess k
  let mir (s : State) : State := if isCore r then s else s.mirror (.net k) 0 (.read 4)
  if s.memory.dramBad.contains (.received k) then (0, s.rxLost k)
  else if s.sessKind k = 3 then
    let (w, s) := s.nextWord q.opened
    (w, mir (s.setNsess k { q with opened := q.opened.drop 4 }))
  else
    let (w, s) := s.nextWord q.rx
    let rx := q.rx.drop 4
    let s := mir ((s.setNsess k { q with rx := rx }).wr (sessFld R.SESS_RXAVAIL_BYTES k) rx.length)
    let grown := 65536 - q.rx.length < q.mss && q.mss ≤ 65536 - rx.length
    (w, if grown && s.owner && s.sessState k = 3 then s.sendSeg k (q.una + q.flight) false true false false [] else s)

/-- A read of NET_ITSTAT (R398). -/
def State.netItstat (s : State) (r : Req) : Word :=
  let id := s.rd (s.bf r R.NET_ITSEL_ITEMID)
  let pend := (s.net.items.find? fun i => i.id = id).map fun i => i.sess
  let (o, n, k) := itemStatus s.net.nextId id pend s.net.results
  BitVec.ofNat 32 (o * 0x10000000 + n * 0x10000 + k)

/-! ### Ports, addresses and the switch (R401 to R404) -/

/-- A port's speed changes in NET_STAT: LINK_CHANGE. -/
def State.ethSpeed (s : State) (eth2 : Bool) (speed : Nat) : State :=
  let f := if eth2 then R.NET_STAT_ETH2 else R.NET_STAT_ETH1
  if s.rd f = speed then s
  else
    let s := s.wr f speed
    s.raise Ev.netLinkChange (0x80 + s.rd R.NET_STAT_ETH2 * 4 + s.rd R.NET_STAT_ETH1)

/-- ETH_LINK_CHANGE: a port's link state and speed (0 down, 1 100 Mb/s, 2 1000 Mb/s). -/
def State.ethLink (s : State) (eth2 : Bool) (speed : Nat) : State :=
  let en := if eth2 then s.on R.NET_CFG_ETH2EN else s.on R.NET_CFG_ETH1EN
  if !s.pgEn 0x50 || !en then s else s.ethSpeed eth2 speed

/-- A port that is not enabled shows no speed (log entry 201). -/
def State.ethOff (s : State) (eth2 : Bool) : State :=
  let en := if eth2 then s.on R.NET_CFG_ETH2EN else s.on R.NET_CFG_ETH1EN
  if en then s else s.ethSpeed eth2 0

/-- NET_IP6 as a number. -/
def State.netIp6 (s : State) : Nat :=
  (List.range 4).foldl (fun n i => n + (s.reg (R.NET_IP6_0 + 4 * i)).toNat * 2 ^ (32 * i)) 0

/-- The unit answers for an address at a port (R403): the service address in a solo or active unit, the unit address always;
in PARK only the address of the Marshal's management sessions, on ETH1 (R411). -/
def State.answersFor (s : State) (eth2 : Bool) (t : ArpTarget) : Bool :=
  let unit : Bool := match t with
    | .ip4 a => a.toNat ≠ 0 && a.toNat = s.rd R.NET_UIP4_ADDR
    | .ip6 _ => false
    | .linkLocal u => u
  let service : Bool := match t with
    | .ip4 a => a.toNat ≠ 0 && a.toNat = s.rd R.NET_IP4_ADDR
    | .ip6 a => a.toNat ≠ 0 && a.toNat = s.netIp6
    | .linkLocal u => !u
  let parked := s.mode = 7
  s.pgEn 0x50 && s.ethUp eth2 && 2 ≤ s.mode && !(parked && eth2) &&
    (unit && !(parked && !s.paired) || service && s.owner && !(parked && s.paired))

/-- ARP: an ARP request or a Neighbour Solicitation for the module's address is answered. -/
def State.arpRx (s : State) (eth2 : Bool) (t : ArpTarget) : State :=
  if s.answersFor eth2 t then s.out (.eth (if eth2 then 2 else 1) (.arpReply t)) else s

/-- ECHO_REQUEST: an echo request for the module's address is answered (R401). -/
def State.echoRx (s : State) (e : EthFrom) (t : ArpTarget) (data : List Byte) : State :=
  if !s.answersFor e.eth2 t then s
  else if e.unfit then s.dropFrame
  else s.out (.eth (if e.eth2 then 2 else 1) (.echoReply e.src t data))

/-- ANNOUNCED: one of the three announcements after entry to ACTIVE (R404), on each interface in service. -/
def State.announced (s : State) : State :=
  match s.net.announce with
  | some n =>
    if !s.netOn || s.pairState ≠ 1 then s
    else
      let ports := (s.ethUp false).toNat + 2 * (s.ethUp true).toNat
      let s := { s with net := { s.net with announce := if n < 2 then some (n + 1) else none } }
      (s.out (.eth ports (.announce n))).raise Ev.netAnnounced (0x80 + n)
  | none => s

/-- The service MAC: byte 0 in bits 7..0. -/
def State.serviceMac (s : State) : Nat := (s.reg R.NET_MACLO).toNat + s.rd R.NET_MACHI_MAC * 2 ^ 32

/-- The switch learns the source of a frame; a full table takes no new address (log entry 27). -/
def State.learn (s : State) (mac : BitVec 48) (eth2 : Bool) : State :=
  let l := s.net.learned
  if l.any fun x => x.mac = mac then
    { s with net := { s.net with learned := l.map fun x => if x.mac = mac then { x with eth2 := eth2 } else x } }
  else if l.length < 1024 && mac.toNat % 2 = 0 then { s with net := { s.net with learned := l ++ [⟨mac, eth2⟩] } }
  else s

/-- BRIDGED_FRAME (R401, R402): a frame no session, PTP receiver or Marshal claims. Too long or with stacked tags it is dropped
and counted; for the module's MAC too; with BRIDGE set it is learned from and forwarded or flooded to the other port. -/
def State.bridgeRx (s : State) (eth2 : Bool) (dst src : BitVec 48) (len tags : Nat) : State :=
  if !s.pgEn 0x50 || !s.ethUp eth2 || s.mode < 2 || s.mode = 7 then s
  else if 1522 < len || 1 < tags then s.dropFrame
  else
    let mine := dst.toNat = Config.unitMac.toNat || (s.owner && dst.toNat = s.serviceMac)
    if !s.on R.NET_CFG_BRIDGE then (if mine then s.dropFrame else s)
    else
      let s := s.learn src eth2
      if mine then s.dropFrame
      else match s.net.learned.find? fun x => x.mac = dst with
      | some x => if x.eth2 = eth2 || !s.ethUp (!eth2) then s else s.out (.eth (if eth2 then 1 else 2) (.forward dst src len))
      | none => if s.ethUp (!eth2) then s.out (.eth (if eth2 then 1 else 2) (.forward dst src len)) else s

/-- ADDRESS_AGEING: a learned address leaves the table (R402). -/
def State.ageOut (s : State) (mac : BitVec 48) : State :=
  { s with net := { s.net with learned := s.net.learned.filter fun x => x.mac ≠ mac } }

/-! ### Time of day (R412, R413) -/

/-- The mapping's part of the rate at a tick, in ns. -/
def ratePart (ticks : Nat) (ppb : Int) : Int := ticks * 8 * ppb / 1000000000

/-- Time of day at a tick, in ns. -/
def State.todAt (s : State) (ticks : Nat) : Int :=
  signed 64 (s.rd64 (R.NET_TODOFSLO + 0x6000000)) + ticks * 8 + ratePart ticks (s.rdInt R.NET_TODRATE_PPB.live)

/-- The PTP receiver runs (R413). -/
def State.ptpOn (s : State) : Bool := s.netOn && s.on R.NET_TODCTL_EN

/-- NET_TODSTAT.STATE changes: TOD_STATE. -/
def State.setTod (s : State) (n : Nat) : State :=
  if s.rd R.NET_TODSTAT_STATE = n then s else (s.wr R.NET_TODSTAT_STATE n).raise Ev.netTodState (0x80 + n)

/-- The values of the best master clock algorithm, in its order (IEEE 1588-2019). -/
def ptpRank (m : PtpAnnounce) : List Nat := [m.prio1, m.cls, m.accuracy, m.variance, m.prio2, m.identity, m.steps]

/-- The better of two time transmitters: the first value that differs decides. -/
def ptpBetter : List Nat → List Nat → Bool
  | a :: t, b :: u => if a = b then ptpBetter t u else a < b
  | _, _ => false

/-- The time transmitter selected. -/
def State.ptpMaster (s : State) : Option PtpAnnounce :=
  s.net.masters.foldl (fun b m => match b with
    | some x => if ptpBetter (ptpRank m) (ptpRank x) then some m else some x
    | none => some m) none

/-- ANNOUNCE: the transmitter's values are noted, in the domain of NET_TODCTL. -/
def State.announceRx (s : State) (m : PtpAnnounce) : State :=
  if !s.ptpOn || m.domain ≠ s.rd R.NET_TODCTL_DOMAIN then s
  else { s with net := { s.net with masters := s.net.masters.filter (fun x => x.identity ≠ m.identity) ++ [m] } }

/-- The offset of a Sync (arrival tick, origin in ns) is measured: above 1 ms NET_TODOFS is stepped; else the rate is slewed by
at most 200 ppm, to a value the spec leaves to the module, with the offset continued so that time of day does not jump (log
entry 28). LOCKED after 16 consecutive Sync messages within 1 us. -/
def State.todMeasure (s : State) (ticks : Nat) (origin : Int) : State :=
  let forward := s.todAt ticks - origin
  let off := forward - s.net.pathDelay
  let s := s.wrInt R.NET_TODSTAT_OFFSET off
  let ofs := R.NET_TODOFSLO + 0x6000000
  let n := if off.natAbs ≤ 1000 then min (s.net.within + 1) 16 else 0
  let s :=
    if 1000000 < off.natAbs then
      let s := s.wr64 ofs (unsigned 64 (signed 64 (s.rd64 ofs) - off))
      let s := { s with net := { s.net with within := n, forward := forward - off } }
      s.raise Ev.netTodStep (0x80 + 0x100 * twos 24 (Int.tdiv (-off) 1000))
    else
      let rate : Int := (s.free.toNat % 400001 : Nat) - 200000
      let base := s.todAt ticks - ticks * 8 - ratePart ticks rate
      let s := { s.used with net := { s.net with within := n, forward := forward } }
      (s.wr64 ofs (unsigned 64 base)).wrInt R.NET_TODRATE_PPB.live rate
  if n = 16 then s.setTod 1 else if n = 0 || s.rd R.NET_TODSTAT_STATE = 2 then s.setTod 0 else s

/-- A Delay_Req follows each measured Sync (log entry 28). -/
def State.sendDelayReq (s : State) (domain seq : Nat) : State :=
  { s with net := { s.net with delayReq := some (seq, s.tb.toNat) } }.out (.eth 3 (.delayReq domain seq))

/-- The message comes from the selected time transmitter. -/
def State.ptpFrom (s : State) (identity domain : Nat) : Bool :=
  s.ptpOn && domain = s.rd R.NET_TODCTL_DOMAIN && s.ptpMaster.map PtpAnnounce.identity = some identity

/-- SYNC: a one-step Sync is measured at once; a two-step Sync waits for its Follow_Up. -/
def State.syncRx (s : State) (identity domain seq : Nat) (twoStep : Bool) (origin : Int) : State :=
  if !s.ptpFrom identity domain then s
  else if twoStep then { s with net := { s.net with twoStep := some (identity, seq, s.tb.toNat) } }
  else (s.todMeasure s.tb.toNat origin).sendDelayReq domain seq

/-- FOLLOW_UP: the precise origin time of a two-step Sync. -/
def State.followUpRx (s : State) (identity domain seq : Nat) (origin : Int) : State :=
  match s.net.twoStep with
  | some (i, q, t) =>
    if !s.ptpFrom identity domain || i ≠ identity || q ≠ seq then s
    else
      let s := { s with net := { s.net with twoStep := none } }
      (s.todMeasure t origin).sendDelayReq domain seq
  | none => s

/-- DELAY_RESP: the end-to-end delay is half the sum of the two directions. -/
def State.delayRespRx (s : State) (identity domain seq : Nat) (arrival : Int) : State :=
  match s.net.delayReq with
  | some (q, t) =>
    if !s.ptpFrom identity domain || q ≠ seq then s
    else { s with net := { s.net with delayReq := none, pathDelay := (s.net.forward + (arrival - s.todAt t)) / 2 } }
  | none => s

/-- TOD_HOLDOVER: no Sync for 3 s; the transmitter is no longer a candidate until it announces again. -/
def State.todHoldover (s : State) : State :=
  if !s.ptpOn then s
  else
    let m := s.ptpMaster.map PtpAnnounce.identity
    let rest := s.net.masters.filter fun x => some x.identity ≠ m
    ({ s with net := { s.net with within := 0, twoStep := none, delayReq := none, masters := rest } }).setTod 2

/-- NET_TODOFSLO: its read takes the snapshot of the mapping (00 R10). -/
def State.todSnapshot (s : State) : Word × State :=
  let s := [R.NET_TODOFSLO, R.NET_TODOFSHI, R.NET_TODRATE].foldl (fun s a => s.setReg a (s.reg (a + 0x6000000))) s
  (s.reg R.NET_TODOFSLO, s)

/-! ### The standby, and takeover -/

/-- What a mirrored message about a session does at the standby: its state, received data, bytes read (R409, 09 R361). -/
def State.netMirrorRx (s : State) (k : Nat) (p : MirrorPhase) : State :=
  let q := s.nsess k
  match p with
  | .session w =>
    let g (i : Nat) : Nat := w.getD i 0
    let s := s.setNsess k { q with peer := g 1, port := g 2, lport := g 3, passive := g 4 ≠ 0, una := g 5, flight := g 6,
                                   part := g 7, rcv := g 8, wnd := g 9, mss := g 10, cwnd := g 11, ssthresh := g 12,
                                   closing := g 13 ≠ 0, finSent := g 14 ≠ 0 }
    (s.setPeerAddr k (g 1) (g 2)).wr (sessFld R.SESS_STAT_STATE k) (g 0)
  | .received src port d =>
    let s := s.wr (sessFld R.SESS_RXBYTES_COUNT k) (s.rd (sessFld R.SESS_RXBYTES_COUNT k) + d.length)
    if s.sessKind k = 3 then
      ((s.setNsess k { q with dgrams := q.dgrams ++ [⟨src, port, d⟩] }).setPeerAddr k src port).wr
        (sessFld R.SESS_RXAVAIL_BYTES k) (q.dgrams.length + 1)
    else (s.setNsess k { q with rx := q.rx ++ d }).wr (sessFld R.SESS_RXAVAIL_BYTES k) (q.rx.length + d.length)
  | .opened => s.openDgram k
  | .read n =>
    if s.sessKind k = 3 then s.setNsess k { q with opened := q.opened.drop n }
    else (s.setNsess k { q with rx := q.rx.drop n }).wr (sessFld R.SESS_RXAVAIL_BYTES k) (q.rx.length - n)
  | _ => s

/-- A mirrored item at takeover (09 R362, 01 R48): carried, or settled; a UDP datagram that had started is possibly delivered,
for a reason the spec does not name. -/
def State.netTake (s : State) (k : Nat) (m : MirItem) : State :=
  let i : NetItem := ⟨m.id, k, m.data, m.started⟩
  let s := { s with net := { s.net with items := s.net.items ++ [i], nextId := (m.id + 1) % 65536 } }
  match m.ended with
  | some (o, r) => s.netEnd i o r
  | none => if m.started && s.sessKind k = 3 then s.used.netEnd i 3 (s.free.toNat % 256) else s

/-- After takeover every session continues: the oldest segment that is not acknowledged is resent, a SYN or FIN among them, and
carried items are sent (R410). -/
def State.netResume (s : State) : State :=
  let s := { s with net := { s.net with announce := some 0 } }
  (List.range 128).foldl (fun s k =>
    let s := s.wr (sessFld R.SESS_STAT_PENDING k) (s.sessItems k).length
    (s.resend k).netPush k) s

/-! ### Writes of the NET and SESS pages -/

/-- A write of the NET page. -/
def State.netWrite (s : State) (r : Req) (a : Nat) (v : Word) : WRes :=
  let b := s.bank r
  let free := (List.range 128).all fun k => s.sessState k = 0
  if a = R.NET_ITSEL then accept (s.setReg (s.bk r a) (v &&& 0xFFFF))
  else if a = R.NET_RXSEL then accept (s.setReg (s.bk r a) (v &&& 0x7F))
  else if a = R.NET_TXCMD && (bitsOf v 31 16 ≠ 0x7E70 || bitsOf v 7 0 ≠ 1) then accept s
  else if readOnly a && a ≠ R.NET_TXCMD && a ≠ R.NET_TXDATA then accept s
  else if !s.owner then accept (s.notActive r R.NET_TXSTAT_LASTRSN)
  else if a = R.NET_TXCMD then accept (s.netSubmit r)
  else if a = R.NET_CFG then
    if bitsOf v 2 2 ≠ s.rd R.NET_CFG_BRIDGE && s.mode ≠ 2 then refuse .mode s
    else accept (((s.plainWrite a v).ethOff false).ethOff true)
  else if a = R.NET_MACLO || a = R.NET_MACHI then (if free then accept (s.plainWrite a v) else refuse .mode s)
  else if a = R.NET_TXCFG then
    if bitsOf v 13 0 = 0 || 8192 < bitsOf v 13 0 then refuse .range s
    else accept { s.setReg (s.bk r a) (v &&& 0xFE003FFF) with
      net := { s.net with wdata := SMap.set (fun _ => []) b [] s.net.wdata } }
  else if a = R.NET_TXTMO then if bitsOf v 15 0 = 0 then refuse .range s else accept (s.plainWrite a v)
  else if a = R.NET_TXDATA then
    let d := s.netWdata b
    if s.rd (s.bf r R.NET_TXCFG_LEN) ≤ d.length then refuse .range s
    else accept { s with net := { s.net with wdata := SMap.set (fun _ => []) b (d ++ toBytes 4 v.toNat) s.net.wdata } }
  else if a = R.NET_TODCTL && (bitsOf v 8 8 = 0 || bitsOf v 7 0 ≠ s.rd R.NET_TODCTL_DOMAIN) then
    let s := { s.plainWrite a v with net := { s.net with masters := [], twoStep := none, delayReq := none, within := 0 } }
    accept (if bitsOf v 8 8 = 0 then s.setTod 0 else s)
  else accept (s.plainWrite a v)

/-- A write of a SESS page: configuration only while CLOSED (R405). -/
def State.sessWrite (s : State) (r : Req) (a : Nat) (v : Word) : WRes :=
  let off := a % 0x1000
  let k := (a - 0x58000) / 0x1000 * 16 + (off - 0x100) / 0xF0
  let e := (off - 0x100) % 0xF0
  if e = 0x20 then
    if bitsOf v 31 16 ≠ 0x5E55 || 3 < bitsOf v 7 0 || bitsOf v 7 0 = 0 then accept s
    else if !s.owner then accept (s.notActive r R.NET_TXSTAT_LASTRSN)
    else match bitsOf v 7 0 with
    | 1 => accept (s.sessOpen k)
    | 2 => accept (s.sessCmdClose k)
    | 3 => accept (s.sessCmdAbort k)
    | _ => accept s
  else if readOnly a then accept s
  else if !s.owner then accept (s.notActive r R.NET_TXSTAT_LASTRSN)
  else if e < 0x20 && s.sessState k ≠ 0 then refuse .mode s
  else accept (s.plainWrite a v)

/-! ### Meanings -/

def execTcpSegment (e : EthFrom) (g : TcpSeg) (s : State) : Out := .next (s.tcpRx e g)
def execTxtmoExpiry (id : BitVec 16) (s : State) : Out := .next (s.netExpired id.toNat)
def execRetransmissionTimeout (sess : Fin 128) (s : State) : Out := .next (s.tcpTimeout sess.val)
def execNoRoute (sess : Fin 128) (s : State) : Out := .next (s.noRoute sess.val)
def execKeepalive (sess : Fin 128) (s : State) : Out := .next (s.keepalive sess.val)
def execAddressAgeing (mac : BitVec 48) (s : State) : Out := .next (s.ageOut mac)
def execAnnounced (s : State) : Out := .next s.announced
def execEthLinkChange (eth2 : Bool) (speed : Fin 3) (s : State) : Out := .next (s.ethLink eth2 speed.val)
def execAnnounce (m : PtpAnnounce) (s : State) : Out := .next (s.announceRx m)
def execSync (identity domain seq : Nat) (twoStep : Bool) (origin : Int) (s : State) : Out :=
  .next (s.syncRx identity domain seq twoStep origin)
def execFollowUp (identity domain seq : Nat) (origin : Int) (s : State) : Out := .next (s.followUpRx identity domain seq origin)
def execDelayResp (identity domain seq : Nat) (arrival : Int) (s : State) : Out := .next (s.delayRespRx identity domain seq arrival)
def execTodHoldover (s : State) : Out := .next s.todHoldover
def execDatagramSent (id : BitVec 16) (s : State) : Out := .next (s.datagramSent id.toNat)
def execEchoRequest (e : EthFrom) (target : ArpTarget) (data : List Byte) (s : State) : Out := .next (s.echoRx e target data)
def execBridgedFrame (eth2 : Bool) (dst src : BitVec 48) (len tags : Nat) (s : State) : Out := .next (s.bridgeRx eth2 dst src len tags)

end Sys2Proof.Machine
end

