-- ==== Sys2Proof/Machine/Can.lean ====
section
/-!
DEFINITION. Machine/Can.lean: the two CAN FD controllers: transmit items, error states, acceptance filters (11 R419 to R424).
-/

namespace Sys2Proof.Machine

/-- A controller's record. -/
def State.canSt (s : State) (c : Nat) : CanState := SMap.get (fun _ => {}) s.can c

/-- The state in which controller c's record is q. -/
def State.setCan (s : State) (c : Nat) (q : CanState) : State := { s with can := SMap.set (fun _ => {}) c q s.can }

/-- A field of a CAN page's register, for controller c. -/
def canFld (f : Fld) (c : Nat) : Fld := f.off (0x1000 * c)

/-- A condition of controller c: its page, and its sources (11 "CAN0 and CAN1 pages"). -/
def canCond (e : Cond) (c : Nat) : Cond := e.at c (4 * c)

/-- The controller is on the bus. -/
def State.canOn (s : State) (c : Nat) : Bool := s.pgEn (0x61 + c) && 2 ≤ s.mode && s.mode ≠ 7 && !s.sys.latch

/-- The controller may drive the bus: its unit is not a standby (R424), it is not in listen-only mode, and it is neither bus-off
nor recovering (R422). -/
def State.canDrives (s : State) (c : Nat) : Bool :=
  s.canOn c && s.owner && s.rd (canFld R.CAN_CFG_MODE c) ≠ 1 && s.rd (canFld R.CAN_STAT_STATE c) < 2

/-- The order of arbitration of an item: base identifier, base format before extended, the extension. -/
def canKey (txid : Word) : Nat :=
  let id := bitsOf txid 28 0
  if bitsOf txid 31 31 = 1 then id / 2 ^ 18 * 2 ^ 19 + 2 ^ 18 + id % 2 ^ 18 else id % 2048 * 2 ^ 19

/-- A change of one item. -/
def State.canSet (s : State) (c id : Nat) (f : CanItem → CanItem) : State :=
  let q := s.canSt c
  s.setCan c { q with items := q.items.map fun x => if x.id = id then f x else x }

/-- An item of a controller. -/
def State.canItem (s : State) (c id : Nat) : Option CanItem := (s.canSt c).items.find? fun i => i.id = id

/-- An item reaches its outcome (R421). -/
def State.canEnd (s : State) (c : Nat) (i : CanItem) (outcome reason : Nat) : State :=
  let q := s.canSt c
  let s := s.setCan c { q with items := q.items.filter (fun x => x.id ≠ i.id),
                               results := ((⟨i.id, outcome, reason, i.attempts % 16⟩ : ItemRes) :: q.results).take 4096 }
  let s := (((s.dramRead (.item (.can c) i.id)).ledgerDrop .can c i.id).mirrorForget (.can c) i.id).mirror (.can c) i.id (.ended outcome reason)
  let s := if outcome = 1 && s.pairState = 1 then { s with pair := { s.pair with latentCan := 0 } } else s
  s.raise (canCond Ev.canItemDone c) (outcome * 0x10000000 + reason * 0x10000 + i.id)

/-- The item that arbitration sends next: the lowest identifier, then submission order (R420). -/
def State.canNext (s : State) (c : Nat) : Option CanItem :=
  (s.canSt c).items.foldl (fun b i => match b with
    | some x => if canKey i.txid < canKey x.txid then some i else some x
    | none => some i) none

/-- An item whose payload reads uncorrectable from DRAM fails (10 R368), with a free reason (log entry 191). -/
def State.canLost (s : State) (c : Nat) : State :=
  ((s.canSt c).items.filter fun i => !i.begun && s.memory.dramBad.contains (.item (.can c) i.id)).foldl
    (fun s i => s.used.canEnd c i 2 (s.free.toNat % 256)) s

/-- The controller starts a frame when none of its own is on the bus: the bus is taken to be idle, and a frame received in its
place is the arbitration lost (log entry 30). In internal loopback nothing leaves the module. -/
def State.canServe (s : State) (c : Nat) : State :=
  let q := s.canSt c
  if !s.canDrives c || q.late.isSome || q.items.any (fun i => i.onBus) then s
  else
  let s := s.canLost c
  match s.canNext c with
  | some i =>
    let (ok, s) := if i.begun then (true, s) else s.startGate (.can c) i.id
    if !ok then s
    else 
      let s := (s.canSet c i.id fun x => { x with begun := true, onBus := true }).ledgerStart .can c i.id
      if s.rd (canFld R.CAN_CFG_MODE c) = 2 then s else s.out (.canSend c i.txid i.cfg i.data)
  | none => s

/-- The error state that follows from the counts (ISO 11898-1): ERROR_STATE on a change; at bus-off the controller recovers at
once where RECOV is set (R422). -/
def State.canErrors (s : State) (c tec rec' : Nat) : State :=
  let stat := canFld R.CAN_STAT_STATE c
  let old := s.rd stat
  let busOff := 255 < tec
  let st := if busOff then (if s.on (canFld R.CAN_CFG_RECOV c) then 3 else 2)
    else if 127 < tec || 127 < rec' then 1 else 0
  let s := s.setCan c { s.canSt c with tec := tec }
  let s := (s.wr (canFld R.CAN_STAT_TEC c) (min tec 255)).wr (canFld R.CAN_STAT_REC c) (min rec' 255)
  let note (s : State) (n : Nat) : State := (s.wr stat n).raise (canCond Ev.canErrorState c)
    (n * 0x40000000 + min tec 255 * 0x10000 + min rec' 255 * 0x100)
  if st = old then s else if st = 3 then note (note s 2) 3 else note s st

/-- The frames the controller has counted in TEC. -/
def State.canTec (s : State) (c : Nat) : Nat := (s.canSt c).tec

/-- An item's frame has left the bus without an outcome: the item is not in transmission any longer (01 R48), and the standby hears
that it waits again (09 R361). -/
def State.canOffBus (s : State) (c : Nat) (i : CanItem) : State :=
  let s := (s.canSet c i.id fun _ => { i with onBus := false, begun := false }).ledgerUnstart .can c i.id
  s.mirror (.can c) i.id (.accepted [i.txid.toNat, i.cfg.toNat] i.data)

/-- The item on the bus. -/
def State.canSending (s : State) (c : Nat) : Option CanItem := (s.canSt c).items.find? fun i => i.onBus

/-- The filters that a frame matches (R423), as a mask. -/
def State.canMatches (s : State) (c : Nat) (f : CanFrame) : Nat :=
  (List.range 32).foldl (fun m n =>
    let w := s.reg (R.CAN_FILTID + 0x1000 * c + 8 * n)
    let k := bitsOf (s.reg (R.CAN_FILTMASK + 0x1000 * c + 8 * n)) 28 0
    if bitsOf w 31 31 = 1 && bitsOf w 30 30 = f.ide.toNat && ((bitsOf w 28 0 ^^^ f.id) &&& k) = 0 then m + 2 ^ n else m) 0

/-- A frame passes the filters into the receive queue, or is dropped and counted. -/
def State.canKeep (s : State) (c : Nat) (f : CanFrame) : State :=
  let m := s.canMatches c f
  let q := s.canSt c
  if m = 0 then s
  else if 256 ≤ q.rx.length then (s.inc (canFld R.CAN_CNT_DROP_COUNT c)).raise (canCond Ev.canRxDrop c) 1
  else (s.setCan c { q with rx := q.rx ++ [⟨f, m⟩] }).raise (canCond Ev.canRxFrame c) (q.rx.length + 1)

/-- RX_FRAME (R423): an item of this controller that was to be sent has lost the arbitration, which is no attempt; FD frames are
received where FDEN permits them. -/
def State.canRx (s : State) (c : Nat) (f : CanFrame) : State :=
  if !s.canOn c || s.rd (canFld R.CAN_CFG_MODE c) = 2 || 2 ≤ s.rd (canFld R.CAN_STAT_STATE c) ||
     (f.fdf && !s.on (canFld R.CAN_CFG_FDEN c)) then s
  else
    let s := match s.canSending c with
      | some i => s.canOffBus c i
      | none => s.setCan c { s.canSt c with late := none }
    let s := (s.canErrors c (s.canTec c) (s.rd (canFld R.CAN_STAT_REC c) - 1)).canKeep c f
    s.canServe c

/-- ACK_DELIMITER (R421): the frame was acknowledged and ended without an error. An item that has its outcome already takes
LATEACK; in internal loopback the controller receives its own frame. -/
def State.canAcked (s : State) (c : Nat) : State :=
  let q := s.canSt c
  match q.late with
  | some id =>
    let s := s.setCan c { q with late := none, results := q.results.map fun x =>
      if x.id = id then { x with aux := x.aux % 65536 + 65536 } else x }
    (s.canErrors c (s.canTec c - 1) (s.rd (canFld R.CAN_STAT_REC c))).canServe c
  | none =>
    if !s.canOn c then s
    else
      match s.canSending c with
      | some i =>
        let i := { i with attempts := i.attempts + 1 }
        let brs := bitsOf i.cfg 14 14 = 1
        let s := if brs then s.used.wr (canFld R.CAN_STAT_TDC c) (s.free.toNat % 256) else s
        let s := (s.canErrors c (s.canTec c - 1) (s.rd (canFld R.CAN_STAT_REC c))).canEnd c i 1 0
        let f : CanFrame := ⟨bitsOf i.txid 31 31 = 1, bitsOf i.cfg 15 15 = 1, brs, s.rd (canFld R.CAN_STAT_STATE c) = 1,
                             bitsOf i.cfg 13 13 = 1, bitsOf i.txid 28 0, i.data, s.tb⟩
        let s := if s.rd (canFld R.CAN_CFG_MODE c) = 2 then s.canKeep c f else s
        s.canServe c
      | none => s

/-- ATTEMPT_ERROR (R420, R421): before the ACK delimiter it ends the attempt; after it the item is possibly delivered and not
sent again. -/
def State.canError (s : State) (c : Nat) (afterAck : Bool) : State :=
  let q := s.canSt c
  let count (s : State) : State := s.canErrors c (s.canTec c + 8) (s.rd (canFld R.CAN_STAT_REC c))
  match q.late with
  | some _ => (count (s.setCan c { q with late := none })).canServe c
  | none =>
    if !s.canOn c then s
    else
      match s.canSending c with
      | some i =>
        let i := { i with attempts := i.attempts + 1, onBus := false }
        let s := count (s.canSet c i.id fun _ => i)
        if afterAck then (s.canEnd c i 3 2).canServe c
        else if s.rd (canFld R.CAN_CFG_RETRY c) < i.attempts then (s.canEnd c i 2 3).canServe c
        else (s.canOffBus c i).canServe c
      | none => s

/-- An item ends for a reason that does not wait for the bus (R421): with its frame on the bus it is possibly delivered, and the
frame completes. -/
def State.canGiveUp (s : State) (c : Nat) (i : CanItem) (reason : Nat) : State :=
  if i.onBus then
    let s := s.canEnd c { i with attempts := i.attempts + 1 } 3 reason
    s.setCan c { s.canSt c with late := some i.id }
  else s.canEnd c i 2 reason

/-- CAN_EXPIRED. -/
def State.canExpired (s : State) (c id : Nat) : State :=
  match s.canItem c id with
  | some i => if s.pgEn (0x61 + c) then (s.canGiveUp c i 1).canServe c else s
  | none => s

/-- Every item of a controller ends (R421). -/
def State.canCloseAll (s : State) (c reason : Nat) : State :=
  (s.canSt c).items.foldl (fun s i => s.canGiveUp c i reason) s

/-- RECOVERED (R422): the controller rejoins the bus. -/
def State.canRecovered (s : State) (c : Nat) : State :=
  if !s.canOn c || s.rd (canFld R.CAN_STAT_STATE c) ≠ 3 then s
  else ((s.canErrors c 0 0).raise (canCond Ev.canRecovered c) 0).canServe c

/-! ### The commands and the pages -/

/-- CANx_TXSTAT.LASTRSN. -/
def State.canReason (s : State) (r : Req) (c n : Nat) : State := s.wr (s.bf r (canFld R.CAN_TXSTAT_LASTRSN c)) n

/-- CANx_CMD SUBMIT (R398, R399, R420). -/
def State.canSubmit (s : State) (r : Req) (c : Nat) : State :=
  let b := s.bank r
  let q := s.canSt c
  let cfg := s.reg (s.bk r (R.CAN_TXCFG + 0x1000 * c))
  let rtr := bitsOf cfg 13 13 = 1
  let len := if rtr then 0 else bitsOf cfg 6 0
  let data := SMap.get (fun _ => []) q.wdata b
  if !s.owner then s.notActive r (canFld R.CAN_TXSTAT_LASTRSN c)
  else if data.length < len then s.canReason r c 5
  else if 256 ≤ q.items.length || !s.ledgerFree .can then s.canReason r c 4
  else
    let i : CanItem := { id := q.nextId, txid := s.reg (s.bk r (R.CAN_TXID + 0x1000 * c)), cfg := cfg, data := data.take len }
    let s := (s.canReason r c 0).wr (s.bf r (canFld R.CAN_TXSTAT_ITEMID c)) i.id
    let s := s.setCan c { q with items := q.items ++ [i], nextId := (i.id + 1) % 65536,
                                 wdata := SMap.set (fun _ => []) b [] q.wdata }
    ((s.ledgerAdd .can c i.id).mirror (.can c) i.id (.accepted [i.txid.toNat, i.cfg.toNat] i.data)).canServe c

/-- CANx_CMD CANCEL (R421): of an item not on the bus. -/
def State.canCancel (s : State) (r : Req) (c : Nat) : State :=
  if !s.owner then s.notActive r (canFld R.CAN_TXSTAT_LASTRSN c)
  else match s.canItem c (s.rd (s.bf r (canFld R.CAN_ITSEL_ITEMID c))) with
  | some i => if i.onBus then s.canReason r c 0x0C else ((s.canReason r c 0).canEnd c i 2 4).canServe c
  | none => s.canReason r c 0x0C

/-- CANx_CMD RECOVER (R422). -/
def State.canRecover (s : State) (r : Req) (c : Nat) : State :=
  if !s.owner then s.notActive r (canFld R.CAN_TXSTAT_LASTRSN c)
  else if s.rd (canFld R.CAN_STAT_STATE c) ≠ 2 then s.canReason r c 0x0C
  else
    let s := (s.canReason r c 0).wr (canFld R.CAN_STAT_STATE c) 3
    s.raise (canCond Ev.canErrorState c)
      (0xC0000000 + s.rd (canFld R.CAN_STAT_TEC c) * 0x10000 + s.rd (canFld R.CAN_STAT_REC c) * 0x100)

/-- CANx_RXHEAD: opens the next received frame; VALID 0 where none waits. -/
def State.canRxhead (s : State) (c : Nat) : Word × State :=
  let q := s.canSt c
  let a (n : Nat) := n + 0x1000 * c
  match q.rx with
  | [] => (0, (s.setCan c { q with opened := [] }).setReg (a R.CAN_RXHEAD) 0)
  | x :: t =>
    let f := x.frame
    let w := BitVec.ofNat 32 (f.ide.toNat * 0x80000000 + f.fdf.toNat * 0x40000000 + 0x20000000 + f.id % 2 ^ 29)
    let first := ((List.range 32).find? fun n => x.matched.testBit n).getD 0
    let s := (s.setCan c { q with rx := t, opened := f.data }).setReg (a R.CAN_RXHEAD) w
    let s := s.setReg (a R.CAN_RXINFO)
      (BitVec.ofNat 32 (first * 0x10000 + f.brs.toNat * 0x100 + f.esi.toNat * 0x80 + f.data.length))
    let s := s.wr64 (a R.CAN_RXSTAMPLO) f.stamp.toNat
    (w, s.setReg (a R.CAN_RXFILT) (BitVec.ofNat 32 x.matched))

/-- CANx_RXDATA: the next 4 bytes of the opened frame, which the read consumes. -/
def State.canRxdata (s : State) (c : Nat) : Word × State :=
  let (w, s) := s.nextWord (s.canSt c).opened
  (w, s.setCan c { s.canSt c with opened := (s.canSt c).opened.drop 4 })

/-- A read of CANx_ITSTAT (R398): LATEACK and ATTEMPTS with the outcome. -/
def State.canItstat (s : State) (r : Req) (c : Nat) : Word :=
  let id := s.rd (s.bf r (canFld R.CAN_ITSEL_ITEMID c))
  let q := s.canSt c
  let (o, n, x) := itemStatus q.nextId id ((s.canItem c id).map fun i => i.attempts % 16) q.results
  BitVec.ofNat 32 (o * 0x10000000 + x / 65536 % 2 * 0x1000000 + n * 0x10000 + x % 16)

/-- The bit timing in a CANx_NBT or CANx_DBT word keeps the limits (R419): the fields' ranges, SJW at most TSEG2, and the rate, of
an 80 MHz quantum clock, at most a number of bits per second. -/
def timingOk (v : Word) (brpMax t1Min t1Max t2Max rate : Nat) : Bool :=
  let brp := bitsOf v 31 24
  let t1 := bitsOf v 23 16
  let t2 := bitsOf v 15 8
  let sjw := bitsOf v 7 0
  1 ≤ brp && brp ≤ brpMax && t1Min ≤ t1 && t1 ≤ t1Max && 1 ≤ t2 && t2 ≤ t2Max && 1 ≤ sjw && sjw ≤ t2 &&
    80000000 ≤ rate * (brp * (1 + t1 + t2))

/-- The data lengths of a frame (R419). -/
def canLenOk (fdf : Bool) (n : Nat) : Bool := n ≤ 8 || (fdf && [12, 16, 20, 24, 32, 48, 64].contains n)

/-- A write of a CAN page. The configuration registers accept writes only while the controller is disabled (R419). -/
def State.canWrite (s : State) (r : Req) (a : Nat) (v : Word) : WRes :=
  let c := a / 0x1000 - 0x61
  let b := s.bank r
  let x := a - 0x1000 * c
  let f (hi lo : Nat) := bitsOf v hi lo
  let config := x = R.CAN_CFG || x = R.CAN_NBT || x = R.CAN_DBT || R.CAN_FILTID ≤ x && x < R.CAN_FILTID + 0x100
  if x = R.CAN_ITSEL then accept (s.setReg (s.bk r a) (v &&& 0xFFFF))
  else if x = R.CAN_CMD && (f 31 16 ≠ 0xCA4F || 3 < f 7 0 || f 7 0 = 0) then accept s
  else if readOnly a && x ≠ R.CAN_CMD && x ≠ R.CAN_TXDATA then accept s
  else if !s.owner then accept (s.notActive r (canFld R.CAN_TXSTAT_LASTRSN c))
  else if x = R.CAN_CMD then
    match f 7 0 with
    | 1 => accept (s.canSubmit r c)
    | 2 => accept (s.canCancel r c)
    | 3 => accept (s.canRecover r c)
    | _ => accept s
  else if config && s.pgEn (0x61 + c) then refuse .mode s
  else if x = R.CAN_CFG then if f 1 0 = 3 then refuse .range s else accept (s.plainWrite a v)
  else if x = R.CAN_NBT then if timingOk v 255 2 255 128 1000000 then accept (s.plainWrite a v) else refuse .range s
  else if x = R.CAN_DBT then if timingOk v 32 1 31 16 8000000 then accept (s.plainWrite a v) else refuse .range s
  else if x = R.CAN_TXID then
    if f 31 31 = 0 && f 28 11 ≠ 0 then refuse .range s else accept (s.setReg (s.bk r a) (v &&& 0x9FFFFFFF))
  else if x = R.CAN_TXCFG then
    let fdf := f 15 15 = 1
    if f 31 16 = 0 || (fdf && !s.on (canFld R.CAN_CFG_FDEN c)) ||
       (f 14 14 = 1 && (!s.on (canFld R.CAN_CFG_BRSEN c) || !fdf)) || (f 13 13 = 1 && fdf) || !canLenOk fdf (f 6 0)
    then refuse .range s
    else accept ((s.setReg (s.bk r a) (v &&& 0xFFFFE07F)).setCan c
      { s.canSt c with wdata := SMap.set (fun _ => []) b [] (s.canSt c).wdata })
  else if x = R.CAN_TXDATA then
    let d := SMap.get (fun _ => []) (s.canSt c).wdata b
    if s.rd (s.bf r (canFld R.CAN_TXCFG_LEN c)) ≤ d.length then refuse .range s
    else accept (s.setCan c { s.canSt c with wdata := SMap.set (fun _ => []) b (d ++ toBytes 4 v.toNat) (s.canSt c).wdata })
  else accept (s.plainWrite a v)

/-- A mirrored item at takeover (R424, 09 R362): on the bus it is possibly delivered, for a reason the spec does not name; else
it is carried. -/
def State.canTake (s : State) (c : Nat) (m : MirItem) : State :=
  let q := s.canSt c
  let w (n : Nat) : Word := BitVec.ofNat 32 (m.words.getD n 0)
  let i : CanItem := { id := m.id, txid := w 0, cfg := w 1, data := m.data }
  let s := s.setCan c { q with items := q.items ++ [i], nextId := (m.id + 1) % 65536 }
  match m.ended with
  | some (o, r) => s.canEnd c i o r
  | none => if m.started then s.used.canEnd c i 3 (s.free.toNat % 256) else s

/-- TAKEOVER reports how many items are carried and possibly delivered, and the controller leaves listen-only mode. -/
def State.canResume (s : State) (c carried possibly : Nat) : State :=
  (s.raise (canCond Ev.canTakeover c) (min carried 255 * 0x10000 + min possibly 255)).canServe c

/-! ### Meanings -/

def execAckDelimiter (ctl : Fin 2) (s : State) : Out := .next (s.canAcked ctl.val)
def execAttemptError (ctl : Fin 2) (afterAck : Bool) (s : State) : Out := .next (s.canError ctl.val afterAck)
def execRecovered (ctl : Fin 2) (s : State) : Out := .next (s.canRecovered ctl.val)
def execCanExpired (ctl : Fin 2) (id : BitVec 16) (s : State) : Out := .next (s.canExpired ctl.val id.toNat)
def execRxFrame (ctl : Fin 2) (f : CanFrame) (s : State) : Out := .next (s.canRx ctl.val f)

end Sys2Proof.Machine
end

