-- ==== Sys2Proof/Machine/Evt.lean ====
section
/-!
DEFINITION. Machine/Evt.lean: the event controller's ports (03 R118 to R122), the program's raises (R123), forced entries (R105)
and what the EVT pages read.
-/

namespace Sys2Proof.Machine

/-! ### Ports -/

/-- The port at which a source's entries wait; in TRACK those for port 2 wait at port 3 (R118, R122). -/
def State.portOf (s : State) (src : Nat) : Nat :=
  let t := s.rd (R.EVT_SRCCFG_TARGET.off (4 * src))
  if t = 2 && s.mode = 4 then 3 else t

/-- last[p] of a port (R120). -/
def State.lastOf (s : State) (port prio : Nat) : Nat := SMap.get (fun _ => 255) s.evt.last (4 * port + prio)

/-- The next source of a port at one priority (R120): round-robin from the one served last. -/
def State.nextSource (s : State) (port prio : Nat) : Option Nat :=
  ((List.range 256).map fun i => (s.lastOf port prio + 1 + i) % 256).find? fun src =>
    s.portOf src = port && s.rd (R.EVT_SRCCFG_PRIO.off (4 * src)) = prio && !(s.queue src).isEmpty

/-- The next entry of a port, removed from its queue (R120): the highest priority first. -/
def State.portNext (s : State) (port : Nat) : Option (EvEntry × State) :=
  [3, 2, 1, 0].findSome? fun p => (s.nextSource port p).bind fun src =>
    match s.queue src with
    | e :: t =>
      let s := s.setQueue src t
      some (e, { s with evt := { s.evt with last := SMap.set (fun _ => 255) (4 * port + p) src s.evt.last } })
    | [] => none

/-- The entries that a port holds, in the order in which it would deliver them now. -/
def State.portList (port : Nat) : Nat → State → List EvEntry
  | 0, _ => []
  | n + 1, s =>
    match s.portNext port with
    | some (e, s) => e :: State.portList port n s
    | none => []

/-- The entries that port 2 holds. -/
def State.port2List (s : State) : List EvEntry :=
  State.portList 2 (s.evt.queues.map fun q => q.2.length).sum s

/-- The active unit's port 2 has delivered an entry (R122): one that its standby does not expect next is sent to it, with what
will follow. -/
def State.announce (s : State) (e : EvEntry) : State :=
  let s := { s with evt := { s.evt with delivered := s.evt.delivered ++ [e] } }
  if s.evt.announced.head? = some e then { s with evt := { s.evt with announced := s.evt.announced.drop 1 } }
  else
    let l := s.port2List
    { s with evt := { s.evt with announced := l } }.sendDelta (s.evt.delivered ++ l) []

/-- What a read of a port takes: in a standby in TRACK, port 2 delivers what port 2 of the active unit delivers (R122). -/
def State.portTake (s : State) (port : Nat) : Option (EvEntry × State) :=
  if port = 2 then
    match s.evt.follow with
    | e :: t => some (e, { s with evt := { s.evt with follow := t, delivered := s.evt.delivered ++ [e] } })
    | [] => (s.portNext 2).map fun (e, s) => (e, s.announce e)
  else s.portNext port

/-- The first word of an entry. -/
def entryInfo (e : EvEntry) : Word :=
  BitVec.ofNat 32 (e.seq * 0x10000 + e.source * 0x100 + e.forced.toNat * 0x80 + e.code % 128)

/-- A requester may read a port (R118). -/
def portReader (r : Req) (port : Nat) : Bool := if port = 2 then isCore r else hostSide r

/-- A read of EVT_PnHEAD by a requester that may (R119): the shadows are the requester's own. -/
def State.portRead (s : State) (r : Req) (port : Nat) : Word × State :=
  let put (s : State) (x : Word × Word × Word) : State :=
    ((s.setReg (s.bk r (R.EVT_PSTAMPLO + 16 * port)) x.1).setReg (s.bk r (R.EVT_PSTAMPHI + 16 * port)) x.2.1).setReg
      (s.bk r (R.EVT_PDATA + 16 * port)) x.2.2
  if !s.pgEn 4 then (0, s)
  else match s.portTake port with
  | some (e, s) => (entryInfo e, put s (e.stamp.setWidth 32, (e.stamp >>> 32).setWidth 32, e.data))
  | none => (0, put s (0, 0, 0))

/-- Entries waiting for a port. -/
def State.portCount (s : State) (port : Nat) : Nat :=
  (List.range 256).foldl (fun n src => if s.portOf src = port then n + (s.queue src).length else n)
    (if port = 2 then s.evt.follow.length else 0)

/-- HP_IRQ_n of port 0 or 1 is low: the port holds an entry, EVT is enabled (R118, R584), and INIT has ended (18 R563). -/
def State.irqLow (s : State) (port : Nat) : Bool :=
  s.pgEn 4 && s.mode ≠ 1 && decide (0 < s.portCount port)

/-- What the registers of the EVT pages read. -/
def State.evtRead (s : State) (a : Nat) : Word :=
  if a = R.EVT_STAT then
    BitVec.ofNat 32 ((List.range 256).foldl (fun n src =>
      if s.srcEn src && !(s.queue src).isEmpty then n + 1 else n) 0)
  else if R.EVT_PCOUNT ≤ a && a < R.EVT_PCOUNT + 16 then BitVec.ofNat 32 (s.portCount ((a - R.EVT_PCOUNT) / 4))
  else if R.EVT_SRCSTAT ≤ a && a < R.EVT_SRCSTAT + 0x400 then
    bitsSet (s.reg a) 6 0 (s.queue ((a - R.EVT_SRCSTAT) / 4)).length
  else s.reg a

/-! ### The program's raises -/

/-- EVT_RAISE by a core (R123); any other requester is refused. -/
def State.programRaise (s : State) (r : Req) (v : Word) : WRes :=
  let src := bitsOf v 15 8
  let code := bitsOf v 6 0
  if !isCore r then refuse .requester s
  else if src < 240 || code = 0 then refuse .range s
  else accept (s.raiseEvent src code false (s.reg (s.bk r R.EVT_RDATA)).toNat)

/-! ### Forced entries -/

/-- The sources and codes that a condition bit of a page stands for (R104): one, or as many as its chapter gives the bit. -/
def bitEvents (page bit : Nat) : List (Nat × Nat) :=
  if 0x30 ≤ page && page < 0x40 then
    if bit < 16 then (List.range 11).map fun c => (80 + (16 * (page - 0x30) + bit) / 8, c + 1) else []
  else if 0x58 ≤ page && page < 0x60 then
    if bit < 16 then (List.range 4).map fun c => (112 + (16 * (page - 0x58) + bit) / 4, c + 1) else []
  else
    let first := if 0x18 ≤ page && page ≤ 0x1C then 0x18 else if page = 0x42 then 0x41 else if page = 0x62 then 0x61 else page
    let shift := if page = 0x42 || page = 0x62 then 4 else 0
    let span := if page = 0x40 && bit = 16 then List.range 15
      else if page = 0x70 && bit < 2 then List.range 32
      else if page = 0x70 && bit < 11 then List.range 16
      else if page = 0x70 && bit = 11 then [0, 8]
      else [shift]
    (Ev.all.filter fun c => c.page = first && c.bit = bit).flatMap fun c => span.map fun n => (c.source + n, c.code)

/-- The condition bits that a page's chapter defines. -/
def definedBits (page : Nat) : Nat :=
  (List.range 32).foldl (fun m b => if (bitEvents page b).isEmpty then m else m + 2 ^ b) 0

/-- A forced entry of a condition bit (R105): the pending bit, and one entry with FORCED set and DATA 0. Where the bit stands for
several sources or codes, which of them the entry takes is a free value. -/
def State.forceBit (s : State) (page bit : Nat) : State :=
  match bitEvents page bit with
  | [] => s
  | [(src, code)] => (s.wr ⟨hdr page 0x014, bit, bit⟩ 1).raiseEvent src code true 0
  | l =>
    let (src, code) := l.getD (s.free.toNat % l.length) (0, 0)
    (s.used.wr ⟨hdr page 0x014, bit, bit⟩ 1).raiseEvent src code true 0

/-- A write of PG_EVFORCE (R105): its bits from the lowest on; refused in RUN and TRACK. -/
def State.forceEvents (s : State) (page : Nat) (v : Word) : WRes :=
  if s.mode = 3 || s.mode = 4 then refuse .mode s
  else accept (((List.range 32).filter fun b => v.getLsbD b).foldl (fun s b => s.forceBit page b) s)

end Sys2Proof.Machine
end

