-- ==== Sys2Proof/Machine/Floryn.lean ====
section
/-!
DEFINITION. Machine/Floryn.lean: the Floryn controllers (08): the configuration copies and their checks, sending and receiving
frames, the synchronisation state, time masters and measurements.
-/

namespace Sys2Proof.Machine

/-! ### Configuration copies -/

/-- The copy in force, and the copy that an APPLY is bringing into force; the staged copy is the registers themselves. -/
def liveBank : Nat := 0x6000000
def applyBank : Nat := 0x7000000

/-- The staged registers of FBC and SLOT (R291). -/
def fbcStaged : List Nat :=
  [R.FBC_CFG, R.FBC_STROKECFG, R.FBC_SEGCFG, R.FBC_PAYLOAD, R.FBC_DYNCFG, R.FBC_SETTLE, R.FBC_CUTOFF, R.FBC_MASTERS,
   R.FBC_MOFS] ++ (List.range 508).map fun i => R.SLOT_ENT0 + 4 * i

/-- Copies the configuration from one bank to another. -/
def State.copyCfg (s : State) (src dst : Nat) : State :=
  fbcStaged.foldl (fun s a => s.setReg (a + dst) (s.reg (a + src))) s

/-- The field of slot i in a bank's slot table. -/
def State.slotFld (s : State) (b : Nat) (f : Fld) (i : Nat) : Nat := s.rd (f.off (b + 8 * i))

/-- KIND and OWNER of slot i in a bank's slot table. -/
def State.slotKind (s : State) (b i : Nat) : Nat := s.slotFld b R.SLOT_ENT0_KIND i
def State.slotOwner (s : State) (b i : Nat) : Nat := s.slotFld b R.SLOT_ENT0_OWNER i

/-- The configuration is of the SV2210 mode (R324). -/
def State.compat (s : State) (b : Nat) : Bool := s.rd (R.FBC_CFG_MODE.off b) = 1

/-- Number of static slots. -/
def State.nSlots (s : State) (b : Nat) : Nat :=
  s.rd (R.FBC_SEGCFG_NO.off b) + s.rd (R.FBC_SEGCFG_NT.off b) + s.rd (R.FBC_SEGCFG_NI.off b)

/-- Length of a static slot in ps (01 R17; 08 R324). -/
def State.slotPs (s : State) (b : Nat) : Nat :=
  if s.compat b then 12000000 + 80000 * s.rd (R.FBC_PAYLOAD_BYTES.off b) else 1200000 + 8000 * s.rd (R.FBC_PAYLOAD_BYTES.off b)

/-- Start of static slot i in ps after the stroke start (R288, R325). -/
def State.slotAt (s : State) (b i : Nat) : Nat := (if s.compat b then 20000000 else 2000000) + i * s.slotPs b

/-- Length of a mini-slot in ps. -/
def State.miniPs (s : State) (b : Nat) : Nat := if s.compat b then 10000000 else 1000000

/-- End of the dynamic segment or service window in ps. -/
def State.dynEnd (s : State) (b : Nat) : Nat :=
  s.slotAt b (s.nSlots b) + s.rd (R.FBC_DYNCFG_MINISLOTS.off b) * s.miniPs b

/-- Length of the idle guard in ps. -/
def State.guardPs (s : State) (b : Nat) : Nat := s.rd (R.FBC_STROKECFG_LEN.off b) * 1000000 - s.dynEnd b

/-- Input complete of a configuration in ps (01 R20). -/
def State.inputAt (s : State) (b : Nat) : Nat := s.slotAt b (s.nSlots b) + 8000 * s.rd (R.FBC_SETTLE_TICKS.off b)

/-- The configured time masters of a bank: rank, address, offset (R312). -/
def State.masters (s : State) (b : Nat) : List (Nat × Nat × Nat) :=
  ((List.range 4).map fun r =>
    (r, bitsOf (s.reg (R.FBC_MASTERS + b)) (8 * r + 7) (8 * r), bitsOf (s.reg (R.FBC_MOFS + b)) (4 * r + 3) (4 * r))).filter
      fun m => m.2.1 ≠ 0

/-- Slots of a bank's table that have an owner. -/
def State.ownedSlots (s : State) (b : Nat) : List Nat := (List.range 254).filter fun i => s.slotKind b i ≠ 0

/-! ### The checks that do not depend on the line (01 R22, 08 "SLOT page", R312, R324) -/

/-- Two byte ranges meet. -/
def meets (a n b m : Nat) : Bool := a < b + m && b < a + n

/-- The range of slot i's entry. -/
def State.slotRange (s : State) (b i : Nat) : Nat × Nat :=
  (s.slotFld b R.SLOT_ENT0_IMGOFS i, s.slotFld b R.SLOT_ENT1_LENGTH i)

/-- Slot i's entry keeps its conditions against the segments and its area. -/
def State.slotFormOk (s : State) (b i : Nat) : Bool :=
  let no := s.rd (R.FBC_SEGCFG_NO.off b)
  let nt := s.rd (R.FBC_SEGCFG_NT.off b)
  let kind := if i < no then 1 else if i < no + nt then 0 else if i < s.nSlots b then 2 else 0
  let o := s.slotOwner b i
  let (ofs, len) := s.slotRange b i
  s.slotKind b i = kind &&
    (match kind with
     | 0 => true
     | 1 => o = 0xFB || o = 0xFC
     | _ => (1 ≤ o && o ≤ 0x78) || o = 0xFD) &&
    (kind = 0 || (ofs % 4 = 0 && len % 4 = 0 && ofs + len ≤ 0x8000 && len ≤ s.rd (R.FBC_PAYLOAD_BYTES.off b)))

/-- An I entry's status byte, when it has one. -/
def State.statusByte (s : State) (b i : Nat) : Option Nat :=
  let o := s.slotFld b R.SLOT_ENT1_STATOFS i
  if s.slotKind b i = 2 && o ≠ 0x7FFF then some o else none

/-- A range of the I area meets an I-slot range or a status byte of a bank's table (12 R426). -/
def State.slotOverlap (s : State) (b ofs len : Nat) : Bool :=
  (s.ownedSlots b).any fun i => s.slotKind b i = 2 &&
    (let (o, n) := s.slotRange b i
     meets ofs len o n || (match s.statusByte b i with | some p => meets ofs len p 1 | none => false))

/-- The same for the staged table and the table in force. -/
def State.slotOverlaps (s : State) (ofs len : Nat) : Bool := s.slotOverlap 0 ofs len || s.slotOverlap liveBank ofs len

/-- Slot i's entry agrees with every other entry. -/
def State.slotPairsOk (s : State) (b i : Nat) : Bool :=
  let (ofs, len) := s.slotRange b i
  let others := (s.ownedSlots b).filter fun j => j ≠ i
  match s.slotKind b i with
  | 2 =>
    let stat (j : Nat) : Bool := match s.statusByte b j with | some p => meets ofs len p 1 | none => false
    !stat i && (others.all fun j => s.slotKind b j ≠ 2 ||
        (!meets ofs len (s.slotRange b j).1 (s.slotRange b j).2 && !stat j && s.slotOwner b j ≠ s.slotOwner b i)) &&
      !(s.on R.DIO_MAP_IEN && (meets ofs len (s.rd R.DIO_MAP_IOFS) 16 ||
          (match s.statusByte b i with | some p => meets (s.rd R.DIO_MAP_IOFS) 16 p 1 | none => false)))
  | 1 =>
    let unit (j : Nat) := s.slotKind b j = 1 && s.slotOwner b j = s.slotOwner b i
    let other (j : Nat) := s.slotKind b j = 1 && s.slotOwner b j ≠ s.slotOwner b i
    (others.all fun j => !unit j || !meets ofs len (s.slotRange b j).1 (s.slotRange b j).2) &&
      (!(others.any other) || others.any fun j => other j && s.slotRange b j = (ofs, len))
  | _ => true

/-- Stations of a bank's table. -/
def State.stations (s : State) (b : Nat) : Nat :=
  ((s.ownedSlots b).filter fun i => s.slotKind b i = 2 && s.slotOwner b i ≤ 0x78).length

/-- The configured masters keep R312. -/
def State.mastersOk (s : State) (b : Nat) : Bool :=
  let ms := s.masters b
  (ms.all fun m => 1 ≤ m.2.2 && (s.ownedSlots b).any fun i => s.slotOwner b i = m.2.1) &&
    (ms.zip (ms.drop 1)).all fun p => p.1.2.2 < p.2.2.2

/-- The first check of step 1 of R291 that a bank's configuration fails: reason and slot. More than the 32 stations of R324 are a
SLOT_TABLE failure: DESIGN CHOICE, log entry 118. -/
def State.cfgCheck (s : State) (b : Nat) : Option (Nat × Nat) :=
  let c := s.compat b
  let len := s.rd (R.FBC_STROKECFG_LEN.off b)
  let pay := s.rd (R.FBC_PAYLOAD_BYTES.off b)
  let mini := s.rd (R.FBC_DYNCFG_MINISLOTS.off b)
  let cut := s.rd (R.FBC_CUTOFF_US.off b)
  if !(1 ≤ s.nSlots b && s.nSlots b ≤ 254 && s.dynEnd b ≤ len * 1000000) then some (1, 0)
  else if !((if c then 250 else 50) ≤ len && len ≤ 10000) then some (2, 0)
  else if !(32 ≤ pay && pay ≤ 1024 && pay % 4 = 0) then some (3, 0)
  else if (if c then 100 else 1024) < mini then some (4, 0)
  else if !(5 ≤ cut && cut ≤ 1000) then some (5, 0)
  else if !(s.inputAt b + loopPs (s.rd R.LOOP_STAT_LANEMAX.live) + 1000000 + cut * 1000000 < len * 1000000) then some (6, 0)
  else match (List.range 254).find? fun i => !s.slotFormOk b i || !s.slotPairsOk b i with
  | some i => some (0x0B, i)
  | none =>
    if c && 32 < s.stations b then some (0x0B, 0)
    else if c && (s.rd R.SYS_STRAP_ROLE ≠ 0 || s.on (R.FBC_CFG_CHBEN.off b)) then some (0x0C, 0)
    else if !c && !s.mastersOk b then some (0x0F, 0)
    else none

/-! ### The line: topology, delays and the checks that depend on it -/

/-- The module's own address (R287). -/
def State.ownAddr (s : State) : Nat :=
  match s.rd R.SYS_STRAP_ROLE with | 2 => 0xFC | 3 => 0xFD | _ => 0xFB

/-- A node's place on a channel's line: its signed delay from the module in ns and its signed number of links. -/
def State.place (s : State) (chanB : Bool) (addr : Nat) : Option (Int × Int) :=
  if addr = s.ownAddr then some (0, 0)
  else
    match s.fbc.nodes.find? fun n => n.chanB = chanB && n.addr = addr with
    | some n => if n.port2 then some (-(n.delay : Int), -((n.rpt : Int) + 1)) else some ((n.delay : Int), (n.rpt : Int) + 1)
    | none => none

/-- The delay between two nodes in ns, the larger of the channels given (R286, R303). -/
def State.delayOf (s : State) (chans : List Bool) (x y : Nat) : Nat :=
  chans.foldl (fun m c => match s.place c x, s.place c y with
    | some p, some q => max m (p.1 - q.1).natAbs
    | _, _ => m) 0

/-- The hop count between two nodes (R286). -/
def State.hopsOf (s : State) (chans : List Bool) (x y : Nat) : Nat :=
  chans.foldl (fun m c => match s.place c x, s.place c y with
    | some p, some q => max m (max (((p.1 - q.1).natAbs + 319) / 320) (p.2 - q.2).natAbs)
    | _, _ => m) 0

/-- The addresses on a channel's line, the module's included. -/
def State.lineNodes (s : State) : List Nat := s.ownAddr :: s.fbc.nodes.map fun n => n.addr

/-- The largest hop count between a control unit and any node (01 R17). -/
def State.lineHops (s : State) (chans : List Bool) : Nat :=
  ((s.lineNodes).filter fun u => u = s.ownAddr || u = 0xFB || u = 0xFC).foldl (fun m u =>
    (s.lineNodes).foldl (fun m n => max m (s.hopsOf chans u n)) m) 0

/-- The line delay in ns (01 R17; 08 R325). -/
def State.lineDelay (s : State) (b : Nat) (chans : List Bool) : Nat :=
  s.lineHops chans * (if s.compat b then 1000 else 320)

/-- The transmissions of the static part: slot, start and duration in ps, owners (R289). -/
def State.transmissions (s : State) (b : Nat) : List (Nat × Nat × Nat × List Nat) :=
  let f := (36 + s.rd (R.FBC_PAYLOAD_BYTES.off b)) * 8000
  (0xFE, 0, 544000, (s.masters b).map fun m => m.2.1) ::
    ((s.ownedSlots b).map fun i => (i, s.slotAt b i, f, [s.slotOwner b i]))

/-- The spacing rule between neighbouring transmissions of the static part: the earlier and the later slot that break it
(R289). -/
def State.spacingFail (s : State) (b : Nat) (chans : List Bool) : Option (Nat × Nat) :=
  let ts := s.transmissions b
  match (ts.zip (ts.drop 1)).find? fun p =>
    p.1.2.2.2.any fun x => p.2.2.2.2.any fun y =>
      decide (p.2.2.1 < p.1.2.1 + p.1.2.2.1 + 196000 + 1000 * s.delayOf chans x y) with
  | some p => some (p.1.1, p.2.1)
  | none =>
    let far := (s.lineNodes).foldl (fun m x =>
      ((s.masters b).map fun q => q.2.1).foldl (fun m y => max m (s.delayOf chans x y)) m) 0
    if s.guardPs b < 196000 + 1000 * far then some (((ts.getLast?).map fun t => t.1).getD 0xFE, 0xFF) else none

/-- The first line check that a bank's configuration fails on channels: reason, earlier and later slot (R18, R19, R22,
R290). -/
def State.lineCheck (s : State) (b : Nat) (chans : List Bool) : Option (Nat × Nat × Nat) :=
  let no := s.rd (R.FBC_SEGCFG_NO.off b)
  let nt := s.rd (R.FBC_SEGCFG_NT.off b)
  let last := s.nSlots b - 1
  let line := 1000 * s.lineDelay b chans
  let farI := ((s.ownedSlots b).filter fun i => s.slotKind b i = 2).foldl (fun m i =>
    max m (s.hopsOf chans s.ownAddr (s.slotOwner b i) * (if s.compat b then 1000 else 320))) 0
  if nt * s.slotPs b < line then some (7, no - 1, no + nt)
  else if s.guardPs b < line || (!s.compat b && s.guardPs b < 3000000) then some (8, last, 0xFF)
  else if 8 * s.rd (R.FBC_SETTLE_TICKS.off b) < farI then some (9, last, 0xFF)
  else if s.compat b then none
  else (s.spacingFail b chans).map fun p => (0x0A, p.1, p.2)

/-- The channels a configuration enables. -/
def State.chans (s : State) (b : Nat) : List Bool :=
  (if s.on (R.FBC_CFG_CHAEN.off b) then [false] else []) ++ (if s.on (R.FBC_CFG_CHBEN.off b) then [true] else [])

/-- SLOT_SPACE shows the latest check of R290. -/
def State.showSpace (s : State) (r : Option (Nat × Nat × Nat)) : State :=
  match r with
  | some (_, e, l) => ((s.wr R.SLOT_SPACE_FAIL 1).wr R.SLOT_SPACE_LATER l).wr R.SLOT_SPACE_EARLIER e
  | _ => s.wr R.SLOT_SPACE_FAIL 0

/-- The line checks of the configuration in force, per channel and for both (R303). -/
def State.checkLine (s : State) : Option (Nat × Nat × Nat) × State :=
  let r := s.lineCheck liveBank (s.chans liveBank)
  let ok := ((s.chans liveBank).filter fun c => s.lineCheck liveBank [c] = none).map fun c => c.toNat
  (r, { s.showSpace r with fbc := { s.fbc with lineOk := ok } })

/-! ### Ports and channels -/

/-- A field of the FBA or FBB page. -/
def fbx (chanB : Bool) (f : Fld) : Fld := f.off (0x1000 * chanB.toNat)

/-- The link bit of a port. -/
def linkFld (chanB port2 : Bool) : Fld := fbx chanB (if port2 then R.FB_STAT_LINK2 else R.FB_STAT_LINK1)

/-- A port is enabled, and its channel is. -/
def State.portOn (s : State) (chanB port2 : Bool) : Bool :=
  (s.chans liveBank).contains chanB && s.on (fbx chanB (if port2 then R.FB_PORTCFG_P2EN else R.FB_PORTCFG_P1EN))

/-- An FBA or FBB condition, at most once per stroke. -/
def State.fbxRaise (s : State) (chanB : Bool) (c : Cond) (data : Nat) : State :=
  let k := 8 * chanB.toNat + c.bit
  if s.fbc.raised.contains k then s
  else { s with fbc := { s.fbc with raised := k :: s.fbc.raised } }.raise (c.at chanB.toNat (4 * chanB.toNat)) data

/-- The synchronisation state (R308). -/
def State.syncState (s : State) : Nat := s.rd R.FBC_SYNC_STATE

/-- The repeater forwards: from PLL lock, when LISTEN is entered, outside RECOVERY and PARK (R285, R308). -/
def State.forwards (s : State) : Bool := s.syncState ≠ 0 && s.mode ≠ 0 && s.mode ≠ 7

/-- The module is on the bus: as R285 has it, and while it synchronises on its way out of PARK (06 R231). -/
def State.onBus (s : State) : Bool := s.syncState ≠ 0 && s.mode ≠ 0 && (s.mode ≠ 7 || s.pwr.unpark.isSome)

/-- A channel's repeater forwards, so that its bypass-control output is not held low (R285): the channel, both its ports and its
page are enabled. -/
def State.chanForwards (s : State) (c : Bool) : Bool :=
  s.forwards && s.portOn c false && s.portOn c true && s.pgEn 0x40 && s.pgEn (0x41 + c.toNat)

/-- Strokes without a valid frame of another node on a channel. -/
def State.quietOf (s : State) (c : Nat) : Nat := SMap.get (fun _ => 16) s.fbc.quiet c

/-- A channel is working (R303). -/
def State.chanWorks (s : State) (c : Bool) : Bool :=
  3 ≤ s.syncState && s.syncState ≤ 5 && (s.on (linkFld c false) || s.on (linkFld c true)) &&
    decide (s.quietOf c.toNat < 16) && s.fbc.lineOk.contains c.toNat && (s.chans liveBank).contains c

/-- A channel is shown working. -/
def State.anyWorking (s : State) : Bool := s.on (fbx false R.FB_STAT_WORKING) || s.on (fbx true R.FB_STAT_WORKING)

/-- The io element of the control floor: a channel or the local I/O works (02 R73, R303). -/
def State.showIo (s : State) : State := s.floorElement .io (s.sys.localIo || s.anyWorking)

/-- FBx_STAT.WORKING follows, with WORKING_CHANGE, and SYS_FLOOR with it. -/
def State.showWorking (s : State) : State :=
  ([false, true].foldl (fun s c =>
    let w := s.chanWorks c
    if s.on (fbx c R.FB_STAT_WORKING) = w then s
    else (s.wrb (fbx c R.FB_STAT_WORKING) w).fbxRaise c Ev.fbxWorkingChange w.toNat) s).showIo

/-- A module that is not synchronised acts as no master: what it held of the role is over (R308, R313). -/
def State.dropActing (s : State) : State :=
  { s.wr R.FBC_SYNC_ACTING 0 with fbc := { s.fbc with handover := none, takeover := false, stopActing := false } }

/-- The synchronisation state changes: SYNC_STATE; in DOWN, LISTEN and ALIGN nothing acts as a master; on a way back to SYNC from
LISTEN or ALIGN the Umpire listens for 16 strokes (09 R340). -/
def State.setSync (s : State) (n : Nat) : State :=
  let old := s.syncState
  if old = n then s
  else
    let s := s.wr R.FBC_SYNC_STATE n
    let s := { s with fbc := { s.fbc with measured := 0, aligned := 0 },
                      pair := { s.pair with listen := if n = 4 && old ≠ 5 then 16 else s.pair.listen } }
    let s := if n < 3 then s.dropActing else s
    (s.raise Ev.fbcSyncState (old * 16 + n)).showWorking

/-- A port gains or loses link (R303). -/
def State.linkChange (s : State) (chanB port2 up : Bool) : State :=
  let f := linkFld chanB port2
  if s.on f = up then s
  else
    let s := s.wrb f up
    let s := if up then s
      else { s.inc (fbx chanB R.FB_CNT_LINKDOWN_COUNT) with
        fbc := { s.fbc with neigh := SMap.set (fun _ => 0) (2 * chanB.toNat + port2.toNat) 0 s.fbc.neigh } }
    (s.fbxRaise chanB Ev.fbxLinkChange (bitsOf (s.reg (R.FB_STAT + 0x1000 * chanB.toNat)) 1 0)).showWorking

/-! ### Sending -/

/-- The module's master rank, if it is configured as one. -/
def State.ownRank (s : State) : Option Nat :=
  ((s.masters liveBank).find? fun m => m.2.1 = s.ownAddr).map fun m => m.1

/-- The module is a passive time master that is ready (R315). -/
def State.masterReady (s : State) : Bool :=
  s.ownRank.isSome && !s.on R.FBC_SYNC_ACTING && s.syncState = 4 && s.on R.CLK_STAT_LOCK && !s.on R.CLK_STAT_COAST

/-- A frame of this module with the header of R292. -/
def State.mkFrame (s : State) (slot word2 flags aux : Nat) (payload : List Byte) : FlorynFrame :=
  { rpt := 0, sender := s.ownAddr, slot := slot, version := 1, stroke := s.reg R.FBC_STROKE,
    word2 := BitVec.ofNat 32 word2, flags := flags, len := payload.length, aux := BitVec.ofNat 32 aux,
    ready := s.masterReady, rank := s.ownRank.getD 7, cfggen := s.rd R.FBC_CFGSTAT_CFGGEN, payload := payload }

/-- The mask of enabled channels. -/
def State.chanMask (s : State) : Nat := (s.chans liveBank).foldl (fun m c => m + (if c then 2 else 1)) 0

/-- The module transmits in the present synchronisation state (R308, R312). -/
def State.transmits (s : State) : Bool := 3 ≤ s.syncState && s.syncState ≤ 5 && s.onBus && s.pgEn 0x40 && !s.sys.latch

/-- A frame goes out on both channels at the same instant (R301). -/
def State.sendFrame (s : State) (typ slot word2 flags aux : Nat) (payload : List Byte) : State :=
  s.out (.floryn s.chanMask typ (s.mkFrame slot word2 flags aux payload))

/-- Four bytes, little-endian. -/
def le32 (v : Nat) : List Byte := toBytes 4 v

/-- The payload of a REFERENCE frame (R295). -/
def State.refPayload (s : State) (handover : Nat) : List Byte :=
  toBytes 8 s.tb.toNat ++ le32 (s.ownRank.getD 7 * 0x10000 + s.rd R.FBC_STROKECFG_LEN.live) ++ le32 handover ++
    List.replicate 16 0

/-- A CLAIM or EPOCH word on the bus counts for EH at the stroke's latch instant (R304, R306). -/
def State.seeEpoch (s : State) (w : Word) : State :=
  { s with fbc := { s.fbc with seen := if s.fbc.seen < w then w else s.fbc.seen } }

/-- The highest epoch that the module has seen (R295); one that the Umpire has only offered is not among them. -/
def State.epochSeen (s : State) : Nat := max (s.rd R.FBC_EPOCH_EH) (if s.umpire then s.pair.cur else s.rd R.CLAIM_EPOCH_EPOCH)

/-- The epoch record is written (09 R339): its two copies in turn, so that the lower one gives way. -/
def State.writeEpoch (s : State) (e : Nat) : State :=
  if s.rd R.CLAIM_EPOCH_EPOCH < e then
    let s := s.wr R.CLAIM_EPOCH_EPOCH e
    if s.sys.epoch0.getD 0 ≤ s.sys.epoch1.getD 0 then { s with sys := { s.sys with epoch0 := some e } }
    else { s with sys := { s.sys with epoch1 := some e } }
  else s

/-- The reference of the acting master at a stroke start (R295); a unit writes its epoch record before (09 R339). -/
def State.sendReference (s : State) (handover : Nat) : State :=
  let s := if s.paired then s.writeEpoch s.epochSeen else s
  let e := s.epochSeen * 4
  (s.seeEpoch (BitVec.ofNat 32 e)).sendFrame 1 0xFE e 0 0 (s.refPayload handover)

/-- The address of the neighbour at a port, 0 while none is known. -/
def State.neighbour (s : State) (chanB port2 : Bool) : Nat :=
  SMap.get (fun _ => 0) s.fbc.neigh (2 * chanB.toNat + port2.toNat)

/-- PROBE frames in the idle guard, to each neighbour of a higher address (R310): 1.0 us after the guard start. -/
def State.sendProbes (s : State) : State :=
  if (s.stroke % 64 = 0 || s.syncState = 3) && s.transmits && !s.compat liveBank then
    let t1 := s.tb.toNat * 8 + s.dynEnd liveBank / 1000 + 1000
    [(false, false), (false, true), (true, false), (true, true)].foldl (fun s p =>
      if s.ownAddr < s.neighbour p.1 p.2 && s.portOn p.1 p.2 && s.on (linkFld p.1 p.2) then
        s.out (.florynPort p.1 p.2 true 7 (s.mkFrame 0xFF 0 0 0 (toBytes 8 t1)))
      else s) s
  else s

/-! ### Receiving -/

/-- The measured delay of the link at a port, in ns. -/
def State.linkDelayOf (s : State) (chanB port2 : Bool) : Nat :=
  SMap.get (fun _ => 0) s.fbc.linkDelay (2 * chanB.toNat + port2.toNat)

/-- A received frame is repeated out of the other port (R284); the residence time of a REFERENCE is a free value of at most
240 ns. -/
def State.repeatFrame (s : State) (typ : Nat) (x : FlorynRx) : State :=
  if !s.forwards || typ = 7 || typ = 8 || !s.portOn x.chanB (!x.port2) then s
  else
    let f := x.frame
    let aux := f.aux + BitVec.ofNat 32 (s.free.toNat % 240001 + 1000 * s.linkDelayOf x.chanB x.port2)
    let f1 : FlorynFrame := { f with rpt := min (f.rpt + 1) 255, aux := if typ = 1 then aux else f.aux }
    (if typ = 1 then s.used else s).out (.florynPort x.chanB (!x.port2) x.fcsOk typ f1)

/-- A unit may send in the dynamic segment of the present stroke (R316): a control unit its GRANT, a node where a grant names
it. -/
def State.mayTransmit (s : State) (typ addr : Nat) : Bool :=
  if typ = 5 then addr = 0xFB || addr = 0xFC else s.fbc.grants.any fun g => g.node = addr

/-- SENDER owns the slot, the reference window or the mini-slots in which the frame arrived; probes have the idle guard. -/
def State.senderOk (s : State) (typ : Nat) (f : FlorynFrame) : Bool :=
  if f.slot < 254 then s.slotKind liveBank f.slot ≠ 0 && s.slotOwner liveBank f.slot = f.sender
  else if f.slot = 0xFE then typ = 1 && (s.masters liveBank).any fun m => m.2.1 = f.sender
  else typ = 7 || typ = 8 || (typ = 6 && s.compat liveBank) || s.mayTransmit typ f.sender

/-- The checks of R294 after the FCS. -/
def State.formatOk (s : State) (typ : Nat) (x : FlorynRx) : Bool :=
  let f := x.frame
  f.slot = x.place && s.senderOk typ f && f.len = f.payload.length &&
    (s.compat liveBank ||
      (x.typeOk && f.version = 1 && f.cfggen = s.rd R.FBC_CFGSTAT_CFGGEN &&
        (f.stroke = s.reg R.FBC_STROKE || (typ = 1 && s.syncState ≠ 4 && s.syncState ≠ 5)) &&
        (typ ≠ 2 || f.word2.getLsbD 0 = (f.sender = 0xFC : Bool))))

/-- A copy that fails is counted on its channel and in the stroke. -/
def State.failCopy (s : State) (chanB : Bool) (kind : Nat) (f : Fld) : State :=
  let k := 2 * chanB.toNat + kind
  { s.inc (fbx chanB f) with
    fbc := { s.fbc with fails := SMap.set (fun _ => 0) k (SMap.get (fun _ => 0) s.fbc.fails k + 1) s.fbc.fails } }

/-- A frame arrives: it is repeated and checked (R284, R294); a valid one marks its channel heard, a master's READY seen and its
sender's place known (R310). Answers whether it may be used. -/
def State.florynRx (s : State) (typ : Nat) (x : FlorynRx) : Bool × State :=
  if !s.onBus || !s.portOn x.chanB x.port2 || !s.pgEn 0x40 || !s.pgEn (0x41 + x.chanB.toNat) then (false, s)
  else
    let s := s.repeatFrame typ x
    if !x.fcsOk then (false, s.failCopy x.chanB 0 R.FB_CNT_FCS_COUNT)
    else if !s.formatOk typ x then (false, s.failCopy x.chanB 1 R.FB_CNT_FORMAT_COUNT)
    else
      let b := s.fbc
      let rs := if x.frame.ready && x.frame.rank < 4 && !b.readyNow.contains x.frame.rank then x.frame.rank :: b.readyNow
        else b.readyNow
      let k := 2 * x.chanB.toNat + x.port2.toNat
      let near := if x.frame.rpt = 0 then SMap.set (fun _ => 0) k x.frame.sender b.neigh else b.neigh
      let at' := (x.chanB.toNat, x.frame.sender, x.port2, x.frame.rpt)
      (true, { s with fbc := { b with heard := x.chanB.toNat :: b.heard, readyNow := rs, neigh := near,
                                      heardAt := if b.heardAt.contains at' then b.heardAt else b.heardAt ++ [at'] } })

/-- The copy used of a slot's frame (R301): the first that is valid; a second with another payload is counted. A copy on a
channel that has delivered one already changes nothing. -/
def State.useCopy (s : State) (typ : Nat) (x : FlorynRx) : State :=
  let f := x.frame
  match s.fbc.copies.find? fun p => p.1 = f.slot with
  | none =>
    let c : FbCopy := ⟨typ, f, !x.chanB, x.chanB, false⟩
    { s.inc (fbx x.chanB R.FB_CNT_FIRST_COUNT) with fbc := { s.fbc with copies := s.fbc.copies ++ [(f.slot, c)] } }
  | some (_, c) =>
    if (if x.chanB then c.bOk else c.aOk) then s
    else
      let differ := c.frame.payload ≠ f.payload
      let c1 : FbCopy := { c with aOk := c.aOk || !x.chanB, bOk := c.bOk || x.chanB, mismatch := c.mismatch || differ }
      let s := if differ then s.inc R.FBC_CNT_MISMATCH_COUNT else s
      { s with fbc := { s.fbc with copies := s.fbc.copies.map fun (p : Nat × FbCopy) => if p.1 = f.slot then (p.1, c1) else p } }

/-- A static-slot frame: valid after its deadline it is only counted (R302). -/
def State.slotFrame (s : State) (typ : Nat) (x : FlorynRx) : Bool × State :=
  let (ok, s) := s.florynRx typ x
  if !ok then (false, s)
  else if 254 ≤ x.frame.slot then (false, s)
  else if (if typ = 2 then s.fbc.latched else s.fbc.closed) then (false, s.inc R.FBC_CNT_LATE_COUNT)
  else (true, s.useCopy typ x)

/-! ### References (R309, R314, R315) -/

/-- The stroke counter steps to a number; the extended number goes to the nearest stroke that has it, so that its high half counts a
wrap that the step passes (01 R16, 04 R127; log entry 185). -/
def State.stepStroke (s : State) (stroke : Word) : State :=
  let up := (stroke - s.reg R.FBC_STROKE).toNat
  let now := s.extStroke
  let n := if up < strokeModulus / 2 then now + up else now - (strokeModulus - up)
  { s.setReg R.FBC_STROKE stroke with exec := { s.exec with strokeHi := n / strokeModulus } }

/-- The timebase slews towards a reference (R309, R326): by no more than the offset and 100 ppm of a stroke; how much of that one
stroke removes is a free value. -/
def State.slew (s : State) (off : Int) : State :=
  let most := min (off.natAbs / 8) (s.rd R.FBC_STROKECFG_LEN.live * 125 / 10000)
  if most = 0 then s
  else
    let k : Int := (s.free.toNat % (most + 1) : Nat)
    { s.used with tb := BitVec.ofInt 64 ((s.tb.toNat : Int) - (if 0 ≤ off then k else -k)) }

/-- A reference in ALIGN: a large offset steps the timebase and the stroke counter, a smaller one is slewed, one within 50 ns is
counted. -/
def State.alignRef (s : State) (off : Int) (stroke : Word) : State :=
  if 1000 < off.natAbs then
    let s := { s with tb := BitVec.ofInt 64 ((s.tb.toNat : Int) - off / 8), fbc := { s.fbc with aligned := 0 } }
    (s.stepStroke stroke).raise Ev.fbcOffsetStep (unsigned 32 off)
  else if off.natAbs ≤ 50 then
    if s.fbc.aligned + 1 < 8 then { s with fbc := { s.fbc with aligned := s.fbc.aligned + 1 } } else s.setSync 3
  else { s with fbc := { s.fbc with aligned := 0 } }.slew off

/-- The module follows a reference of an acting master (R308). -/
def State.followRef (s : State) (off : Int) (stroke : Word) (arank sender handover : Nat) : State :=
  let s := if s.rd R.FBC_SYNC_ARANK = arank then s
    else (s.wr R.FBC_SYNC_ARANK arank).raise Ev.fbcMasterChange (arank * 0x100 + sender)
  let s := s.wrInt R.FBC_SYNC_OFFSET off
  let s := { s with fbc := { s.fbc with ref := some arank, takeover := s.fbc.takeover || handover = s.ownAddr } }
  match s.syncState with
  | 1 => (s.setSync 2).alignRef off stroke
  | 2 => s.alignRef off stroke
  | 4 => if 200 < off.natAbs then s.setSync 2 else s.slew off
  | 5 => (s.setSync 4).slew off
  | _ => s

/-- A valid REFERENCE: the offset (R309), and which of two references is followed (R314). The acting master ignores a
reference of its own or a higher rank, and stops acting on a lower one. -/
def State.useRef (s : State) (x : FlorynRx) (stamp : Nat) : State :=
  let f := x.frame
  let p := f.payload
  let tb := ofBytes (p.take 8)
  let arank := ofBytes ((p.drop 8).take 4) / 0x10000 % 256
  let handover := ofBytes ((p.drop 12).take 1)
  let off : Int := (stamp : Int) - 64 - (f.aux.toNat / 1000 : Nat) - s.linkDelayOf x.chanB x.port2 - (8 * tb : Nat)
  let s := { s with fbc := { s.fbc with refOn := x.chanB.toNat :: s.fbc.refOn } }
  if s.on R.FBC_SYNC_ACTING then
    if arank < s.ownRank.getD 7 && !s.fbc.stopActing then
      { s with fbc := { s.fbc with stopActing := true } }.raise Ev.fbcMasterConflict f.sender
    else s
  else match s.fbc.ref with
  | some r => if arank < r then s.followRef off f.stroke arank f.sender handover else s
  | none => s.followRef off f.stroke arank f.sender handover

/-- REFERENCE received. -/
def State.reference (s : State) (x : FlorynRx) (stamp : Nat) : Bool × State :=
  let (ok, s) := s.florynRx 1 x
  if ok then (true, (s.seeEpoch x.frame.word2).useRef x stamp) else (false, s)

/-- A configured master begins to act (R313): it keeps its stroke counter and timebase, and enters MEASURE, or SYNC when it is
synchronised. -/
def State.beginActing (s : State) : State :=
  match s.ownRank with
  | none => s
  | some r =>
    let s := ((s.wr R.FBC_SYNC_ACTING 1).wr R.FBC_SYNC_ARANK r).wr R.FBC_SYNC_OFFSET 0
    let s := s.wr R.FBC_SYNC_READY 0
    let s := { s with fbc := { s.fbc with takeover := false, readyRun := [] } }
    s.raise Ev.fbcMasterChange (r * 0x100 + s.ownAddr)

/-- MASTER_CHANGE: the count of R313 has ended. -/
def State.masterChange (s : State) : State :=
  if s.syncState = 0 || s.on R.FBC_SYNC_ACTING || s.ownRank.isNone || s.compat liveBank then s
  else s.beginActing.setSync (if s.syncState = 4 || s.syncState = 5 then 4 else 3)

/-- HANDOVER: the acting master names the lowest rank below its own that has been READY for 64 strokes (R315). -/
def State.handOver (s : State) : State :=
  if !s.on R.FBC_SYNC_ACTING || s.fbc.handover.isSome then s
  else match (s.masters liveBank).find? fun m =>
    m.1 < s.ownRank.getD 7 && 64 ≤ SMap.get (fun _ => 0) s.fbc.readyRun m.1 with
  | some m => { s with fbc := { s.fbc with handover := some (m.2.1, 0) } }.raise Ev.fbcHandover m.2.1
  | none => s

/-! ### The stroke start (R295, R303, R308, R313 to R315) -/

/-- What the ended stroke says of the channels. -/
def State.channelsStroke (s : State) : State :=
  [false, true].foldl (fun s c =>
    let k := c.toNat
    let fcs := SMap.get (fun _ => 0) s.fbc.fails (2 * k)
    let fmt := SMap.get (fun _ => 0) s.fbc.fails (2 * k + 1)
    let s := if fcs = 0 then s else s.fbxRaise c Ev.fbxFcsErrors fcs
    let s := if fmt = 0 then s else s.fbxRaise c Ev.fbxFormatErrors fmt
    let s := s.wrb (fbx c R.FB_STAT_REFSEEN) (s.fbc.refOn.contains k)
    let q := if s.fbc.heard.contains k then 0 else min (s.quietOf k + 1) 16
    { s with fbc := { s.fbc with quiet := SMap.set (fun _ => 16) k q s.fbc.quiet } }) s

/-- What the ended stroke says of the masters: consecutive strokes of READY, and a missing reference. -/
def State.mastersStroke (s : State) : State :=
  let run := (List.range 4).foldl (fun m r =>
    SMap.set (fun _ => 0) r (if s.fbc.readyNow.contains r then SMap.get (fun _ => 0) s.fbc.readyRun r + 1 else 0) m)
    s.fbc.readyRun
  let s := { s with fbc := { s.fbc with readyRun := run } }
  if s.syncState = 4 && !s.on R.FBC_SYNC_ACTING && s.fbc.ref.isNone && !s.compat liveBank then s.setSync 5 else s

/-- MEASURE ends after 8 strokes: the line checks decide (R308). -/
def State.measureStroke (s : State) : State :=
  if s.syncState ≠ 3 then s
  else if s.fbc.measured + 1 ≤ 8 then { s with fbc := { s.fbc with measured := s.fbc.measured + 1 } }
  else
    let (r, s) := s.checkLine
    match r with
    | none => s.setSync 4
    | some (reason, _, _) =>
      (s.setSync 1).raise Ev.fbcLineRefused reason

/-- The role of acting master at a stroke start, and the reference (R313 to R315); none in the SV2210 mode (R326). -/
def State.actingStroke (s : State) : State :=
  if s.compat liveBank then s.dropActing.wr R.FBC_SYNC_READY 0
  else
  let ref := s.fbc.ref
  let s := if s.fbc.stopActing then s.setSync 2 else s
  let s := if s.fbc.takeover && !s.on R.FBC_SYNC_ACTING then s.beginActing else s
  let s := match s.fbc.handover with
    | some (a, 0) => { s with fbc := { s.fbc with handover := some (a, 1) } }.sendReference a
    | some (a, 1) => ({ s with fbc := { s.fbc with handover := some (a, 2) } }).wr R.FBC_SYNC_ACTING 0
    | some (_, _) =>
      let s := { s with fbc := { s.fbc with handover := none, readyRun := [] } }
      if ref.isNone then (s.beginActing.setSync 4).sendReference 0 else s
    | none => if s.on R.FBC_SYNC_ACTING && s.transmits then s.sendReference 0 else s
  s.wrb R.FBC_SYNC_READY s.masterReady

/-- The stroke counter increments; the high half of the extended stroke number carries (01 R15, 04 R127). -/
def State.countStroke (s : State) : State :=
  if s.stroke + 1 = strokeModulus then { s.setReg R.FBC_STROKE 0 with exec := { s.exec with strokeHi := s.exec.strokeHi + 1 } }
  else s.setReg R.FBC_STROKE (BitVec.ofNat 32 (s.stroke + 1))

/-- What the controllers keep of one stroke starts again. -/
def State.clearStroke (s : State) : State :=
  { s with fbc := { s.fbc with copies := [], latched := false, closed := false, fails := [], raised := [], heard := [],
                               ref := none, refOn := [], seen := 0, readyNow := [], grants := s.fbc.next, next := [],
                               granted := false, dynSeen := [] } }

/-! ### Measurements (R286, R310) -/

/-- The figures of a channel after a measurement. -/
def State.showTopology (s : State) (c : Bool) (old : List FlorynNode) : State :=
  let mine := s.fbc.nodes.filter fun n => n.chanB = c
  let hops (p : Bool) := (mine.filter fun n => n.port2 = p).foldl (fun m n => max m (max ((n.delay + 319) / 320) (n.rpt + 1))) 0
  let s := (s.wr (fbx c R.FB_DELAY_HOPS1) (hops false)).wr (fbx c R.FB_DELAY_HOPS2) (hops true)
  let s := s.wr (fbx c R.FB_STAT_NODES) mine.length
  let was := s.rd (fbx c R.FB_DELAY_NS)
  let ns := s.lineDelay liveBank [c]
  let s := s.wr (fbx c R.FB_DELAY_NS) ns
  let key (l : List FlorynNode) := (l.filter fun n => n.chanB = c).map fun n => (n.port2, n.addr, n.rpt)
  let s := if key old = key s.fbc.nodes then s
    else s.fbxRaise c Ev.fbxTopologyChange (min (max (hops false) (hops true)) 255 * 0x100 + mine.length % 256)
  if was = s.rd (fbx c R.FB_DELAY_NS) then s else s.fbxRaise c Ev.fbxLineDelayChange (s.rd (fbx c R.FB_DELAY_NS))

/-- A configuration in force comes to break a check (R290). -/
def State.checkViolation (s : State) : State :=
  if s.syncState ≠ 4 && s.syncState ≠ 5 then s
  else
    let (r, s) := s.checkLine
    match r with
    | none => { s with fbc := { s.fbc with violated := false } }
    | some (_, e, l) =>
      if s.fbc.violated then s
      else { s with fbc := { s.fbc with violated := true } }.raise Ev.fbcLineViolation (l * 0x100 + e)

/-- Addresses that two nodes of a channel present, the module counted. -/
def State.dupAddrs (s : State) : List Nat :=
  let dup (c : Bool) := let l := (s.fbc.nodes.filter fun n => n.chanB = c).map fun n => n.addr
    (l.filter fun a => a = s.ownAddr || 1 < (l.filter fun b => b = a).length)
  (dup false ++ dup true).eraseDups

/-- The O-slot of a unit in which a node's segment lies; 0xFF for none (R304, R322; log entry 182). -/
def State.nodeOSlot (s : State) (b addr unit : Nat) : Nat :=
  let l := (s.ownedSlots b).filter fun i => s.slotKind b i = 1 && s.slotOwner b i = 0xFB + unit
  l.getD ((Config.nodeSlot addr unit).toNat % l.length) 0xFF

/-- SLOTS, SILENCE and MASTER (INDEX 1 to 3) of a node in a bank's configuration, for a generation (R321, R322). -/
def State.nodeData (s : State) (b gen addr index : Nat) : List Byte :=
  match index with
  | 1 =>
    let own := (s.ownedSlots b).find? fun i => s.slotKind b i = 2 && s.slotOwner b i = addr
    let len := match own with | some i => (s.slotRange b i).2 | none => 0
    le32 (s.nSlots b * 0x1000000 + s.nodeOSlot b addr 1 * 0x10000 + s.nodeOSlot b addr 0 * 0x100 + own.getD 0xFF) ++
      le32 (Config.nodeSegment addr).toNat ++ le32 (gen % 65536 * 0x10000 + len) ++
      le32 (s.rd (R.FBC_PAYLOAD_BYTES.off b) * 0x10000 + s.rd (R.FBC_STROKECFG_LEN.off b)) ++
      le32 (s.rd (R.FBC_SEGCFG_NO.off b) + s.rd (R.FBC_SEGCFG_NT.off b))
  | 2 => le32 ((Config.nodeSilence addr).toNat % 255 + 1)
  | _ =>
    match (s.masters b).find? fun m => m.2.1 = addr with
    | some m => le32 (m.2.2 * 16 + m.1)
    | none => le32 7

/-- SLOTS, SILENCE and MASTER wait to go to a node, by node management (R291, R583). -/
def State.nodeConfigure (s : State) (b gen addr : Nat) (live : Bool) : State :=
  let q := ([1, 2, 3] : List Nat).map fun k => (⟨addr, k, 0, live, none, s.nodeData b gen addr k⟩ : NodeReq)
  { s with fbc := { s.fbc with mgmt := s.fbc.mgmt ++ q } }

/-- The stations of the table in force that a measurement has seen and that have delivered no valid I-frame for 64 strokes get the
generation in force again (R583); what was sent to them before is not awaited any longer. -/
def State.reconfigure (s : State) : State :=
  let gone := ((s.ownedSlots liveBank).filter fun i =>
    s.slotKind liveBank i = 2 && s.slotOwner liveBank i ≤ 0x78 &&
      64 ≤ SMap.get (fun _ => 0) s.fbc.silent (s.slotOwner liveBank i) &&
      s.fbc.nodes.any (fun n => n.addr = s.slotOwner liveBank i)).map fun i => s.slotOwner liveBank i
  if (s.mode = 7 || s.mode = 0 || s.umpire) || (s.paired && s.pairState ≠ 1) then s
  else
    let s := { s with fbc := { s.fbc with mgmt := s.fbc.mgmt.filter fun m => !(m.live && gone.contains m.addr) } }
    gone.foldl (fun s a => s.nodeConfigure liveBank (s.rd R.FBC_CFGSTAT_CFGGEN) a true) s

/-- A node of a measurement at the place that its frames have shown, where frames of it have arrived (R310). -/
def State.placed (s : State) (n : FlorynNode) : FlorynNode :=
  let l := s.fbc.heardAt.filter fun p => p.1 = n.chanB.toNat && p.2.1 = n.addr
  if l.any fun p => p.2.2 = (n.port2, n.rpt) then n
  else match l.getLast? with
  | some p => { n with port2 := p.2.2.1, rpt := p.2.2.2 }
  | none => n

/-- A measurement ends with the nodes it has seen. -/
def State.measured (s : State) (nodes : List FlorynNode) : State :=
  let old := s.fbc.nodes
  let s := { s with fbc := { s.fbc with nodes := nodes.map s.placed, heardAt := [] } }
  let s := [false, true].foldl (fun s c => s.showTopology c old) s
  let s := s.wr R.FBC_LINEDLY_HOPS (min (s.lineNodes.foldl (fun m n => max m (s.hopsOf [false, true] s.ownAddr n)) 0) 255)
  let s := s.wr R.FBC_LINEDLY_NS (s.lineDelay liveBank [false, true])
  let s := s.dupAddrs.foldl (fun s a => s.raise Ev.fbcAddrConflict a) s
  let s := if s.paired && (s.mode = 1 || s.mode = 2) && nodes.any (fun n => n.addr = s.ownAddr) then { s with fbc := { s.fbc with conflict := true } } else s
  s.checkViolation.reconfigure

/-- PROBE: the higher address answers at once (R310). -/
def State.probe (s : State) (x : FlorynRx) (t2 t3 : DWord) : State :=
  let (ok, s) := s.florynRx 7 x
  if ok && s.transmits && x.frame.sender < s.ownAddr then
    s.out (.florynPort x.chanB x.port2 true 8
      (s.mkFrame 0xFF 0 0 0 ((x.frame.payload.take 8) ++ toBytes 8 t2.toNat ++ toBytes 8 t3.toNat)))
  else s

/-- PROBE_REPLY: the link delay ((T4 - T1) - (T3 - T2)) / 2 (R310); the reply that ends a measurement brings its nodes. -/
def State.probeReply (s : State) (x : FlorynRx) (t4 : DWord) (nodes : Option (List FlorynNode)) : State :=
  let (ok, s) := s.florynRx 8 x
  if !ok then s
  else
    let p := x.frame.payload
    let t (i : Nat) : Int := ofBytes ((p.drop (8 * i)).take 8)
    let d := ((t4.toNat : Int) - t 0 - (t 2 - t 1)) / 2
    let s := { s with fbc := { s.fbc with
      linkDelay := SMap.set (fun _ => 0) (2 * x.chanB.toNat + x.port2.toNat) d.toNat s.fbc.linkDelay } }
    match nodes with
    | some l => s.measured l
    | none => s

/-! ### SV2210 (R326) -/

/-- The first node's clock is read and the timebase slews to it, or the first node is lost. -/
def State.firstNode (s : State) (present : Bool) (offset : Int) : State :=
  if !s.compat liveBank || s.syncState = 0 then s
  else if present then
    ((s.wrInt R.FBC_SYNC_OFFSET offset).setSync (if offset.natAbs ≤ 100 then 4 else if s.syncState = 4 then 4 else 2)).slew offset
  else
    let s := s.setSync 1
    s.raise Ev.fbcCompat s.syncState

end Sys2Proof.Machine
end

