-- ==== Sys2Proof/Machine/FlorynBus.lean ====
section
/-!
DEFINITION. Machine/FlorynBus.lean: applying a Floryn configuration (08 R291, R583), the images of a stroke (08 R301 to R306),
the dynamic segment (08 R316 to R318) and acyclic requests (08 R319 to R323).
-/

namespace Sys2Proof.Machine

/-! ### APPLY and REVERT (R291) -/

/-- An APPLY ends in REFUSED, or is refused at once; a refusal while another is in progress leaves that one's state. -/
def State.cfgRefuse (s : State) (reason place status : Nat) : State :=
  let s := s.wr R.FBC_CFGSTAT_REASON reason
  let s := if reason = 0x0D then s else s.wr R.FBC_CFGSTAT_STATE 3
  let s := { s with fbc := { s.fbc with mgmt := if reason = 0x0D then s.fbc.mgmt else s.fbc.mgmt.filter fun m => m.live } }
  s.raise Ev.fbcCfgRefused (status * 0x10000 + place * 0x100 + reason)

/-- Steps 3 and 4: the line checks with the new table, then the switch stroke. -/
def State.cfgDistributed (s : State) : State :=
  let r := s.lineCheck applyBank (s.chans applyBank)
  let s := s.showSpace r
  match r with
  | some (reason, _, later) => s.cfgRefuse reason (if reason = 0x0A then later else 0) 0
  | none =>
    let s := { s with pair := { s.pair with forwarded := false } }
    (s.wr R.FBC_CFGSTAT_STATE 2).setReg R.FBC_SWITCH (BitVec.ofNat 32 (s.stroke + 16))

/-- Step 2 begins: SLOTS, SILENCE and MASTER go to every node that the new table names; with no such node it is over. -/
def State.cfgDistribute (s : State) : State :=
  let s := (s.copyCfg 0 applyBank).wr R.FBC_CFGSTAT_STATE 1
  let nodes := ((s.ownedSlots applyBank).filter fun i => s.slotKind applyBank i = 2).map fun i => s.slotOwner applyBank i
  if nodes.isEmpty || s.compat applyBank then s.cfgDistributed
  else nodes.foldl (fun s a => s.nodeConfigure applyBank (s.rd R.FBC_CFGSTAT_CFGGEN + 1) a false) s

/-- The other unit of a pair is in a mode other than STOP, as it last reported (R291, R298; log entry 183). -/
def State.peerRuns (s : State) : Bool := s.paired && [1, 2, 4].contains (s.rd R.PAIR_STAT_PEER)

/-- FBC_APPLY (R291): APPLY, REVERT; any other key or code is ignored. In a pair both units must be in STOP (R298). -/
def State.fbcCmd (s : State) (v : Word) : State :=
  if bitsOf v 31 16 ≠ 0xFB0C then s
  else match bitsOf v 7 0 with
  | 1 =>
    if s.rd R.FBC_CFGSTAT_STATE = 1 || s.rd R.FBC_CFGSTAT_STATE = 2 then s.cfgRefuse 0x0D 0 0
    else if s.mode ≠ 2 || s.umpire || s.peerRuns then s.cfgRefuse 0x0C 0 0
    else match s.cfgCheck 0 with
    | some (reason, i) => s.cfgRefuse reason i 0
    | none => s.cfgDistribute
  | 2 => s.copyCfg liveBank 0
  | _ => s

/-- A node answers SLOTS, SILENCE or MASTER (R291, R322, R583): a refusal ends the APPLY; the last answer completes step 2. -/
def State.nodeAnswer (s : State) (m : NodeReq) (status : Nat) : State :=
  let rest := s.fbc.mgmt.filter fun x => x.id ≠ m.id
  let s := { s with fbc := { s.fbc with mgmt := rest } }
  if status ≠ 0 then
    if m.live then
      { s with fbc := { s.fbc with mgmt := rest.filter fun x => !(x.live && x.addr = m.addr) } }.raise Ev.fbcCfgRefused
        (status * 0x10000 + m.addr * 0x100 + 0x0E)
    else s.cfgRefuse 0x0E m.addr status
  else if !m.live && (rest.all fun x => x.live) && s.rd R.FBC_CFGSTAT_STATE = 1 then s.cfgDistributed
  else s

/-- The oldest node-management request not sent. -/
def State.firstMgmt (s : State) : Option NodeReq := s.fbc.mgmt.find? fun m => m.id.isNone

/-- Node-management requests age by a stroke, those that are sent and the one that is next to be sent; 100 strokes without an answer
refuse the APPLY (R291; log entry 180). -/
def State.mgmtStroke (s : State) : State :=
  let next := s.firstMgmt
  let old := s.fbc.mgmt.map fun (m : NodeReq) => if m.id.isSome || some m = next then { m with age := m.age + 1 } else m
  let s := { s with fbc := { s.fbc with mgmt := old.filter fun m => !(m.live && 100 ≤ m.age) } }
  match old.find? fun m => !m.live && 100 ≤ m.age with
  | some m => s.cfgRefuse 0x0E m.addr 0
  | none => s

/-- What follows a new configuration in force: EXEC_STROKELEN, the channels' checks, COX_WINDOW; the node that the module would
be sets EH to 0 (R306). -/
def State.cfgInForce (s : State) : State :=
  let s := s.wr R.EXEC_STROKELEN_LEN (s.rd R.FBC_STROKECFG_LEN.live)
  (s.wr R.FBC_EPOCH_EH 0).checkLine.2.showLanes

/-- The Umpire's own rank and offset as a time master, by MASTER (R321). -/
def State.nodeMaster (s : State) (m : Word) : State :=
  let r := bitsOf m 2 0
  if 3 < r then s
  else
    let a := s.reg (R.FBC_MASTERS + liveBank)
    let o := s.reg (R.FBC_MOFS + liveBank)
    (s.setReg (R.FBC_MASTERS + liveBank) (bitsSet a (8 * r + 7) (8 * r) 0xFD)).setReg (R.FBC_MOFS + liveBank)
      (bitsSet o (4 * r + 3) (4 * r) (bitsOf m 7 4))

/-- The Umpire takes the generation staged in it by SLOTS and MASTER (R322): lengths, first I-slot, the units' O-slots and its own
I-slot. -/
def State.nodeSwitch (s : State) (w : List Word) : State :=
  let g (i hi lo : Nat) := bitsOf (w.getD i 0) hi lo
  let first := g 4 7 0
  let s := (s.wr R.FBC_STROKECFG_LEN.live (g 3 13 0)).wr R.FBC_PAYLOAD_BYTES.live (g 3 26 16)
  let s := ((s.wr R.FBC_SEGCFG_NO.live first).wr R.FBC_SEGCFG_NT.live 0).wr R.FBC_SEGCFG_NI.live (g 0 31 24 - first)
  let s := (List.range 254).foldl (fun s i => s.setReg (R.SLOT_ENT0 + liveBank + 8 * i) 0) s
  let put (s : State) (slot kind owner : Nat) : State :=
    if slot = 0xFF then s
    else s.setReg (R.SLOT_ENT0 + liveBank + 8 * slot) (BitVec.ofNat 32 (kind * 0x40000000 + owner * 0x10000))
  let s := put (put (put s (g 0 15 8) 1 0xFB) (g 0 23 16) 1 0xFC) (g 0 7 0) 2 0xFD
  let s := match w[5]? with
    | some m => s.nodeMaster m
    | none => s
  (s.wr R.FBC_CFGSTAT_CFGGEN (g 2 31 16)).cfgInForce

/-- The switch stroke (R291); between the native and the SV2210 mode synchronisation starts anew (R326; log entry 118). -/
def State.cfgSwitch (s : State) : State :=
  if s.rd R.FBC_CFGSTAT_STATE ≠ 2 || s.reg R.FBC_SWITCH ≠ s.reg R.FBC_STROKE then s
  else
    let was := s.compat liveBank
    let s := { s.wr R.FBC_CFGSTAT_STATE 0 with pair := { s.pair with forwarded := false } }
    let s := match s.fbc.node with
      | some w => ({ s with fbc := { s.fbc with node := none } }).nodeSwitch w
      | none => ((s.copyCfg applyBank liveBank).incWrap R.FBC_CFGSTAT_CFGGEN).cfgInForce
    let s := if s.compat liveBank ≠ was && s.syncState ≠ 0 then s.setSync 1 else s
    s.raise Ev.fbcCfgSwitched (s.rd R.FBC_CFGSTAT_CFGGEN)

/-- The configuration switch that the other unit of a pair forwards (R291). -/
def State.cfgForwarded (s : State) (stroke : Word) (regs : List (Nat × Word)) : State :=
  let s := regs.foldl (fun s p => s.setReg (p.1 + applyBank) p.2) (s.copyCfg 0 applyBank)
  let s := { s with pair := { s.pair with forwarded := true } }
  (s.wr R.FBC_CFGSTAT_STATE 2).setReg R.FBC_SWITCH stroke

/-- An APPLY is in progress, and the unit stays in STOP (R298). -/
def State.cfgBusy (s : State) : Bool := s.rd R.FBC_CFGSTAT_STATE = 1 || s.rd R.FBC_CFGSTAT_STATE = 2

/-! ### The latch instant and input complete -/

/-- What the Umpire, as a node, makes of the O-frames of the stroke (R304 to R307), for the NSTAT of its I-frame (R299): the candidates
of the epoch EH, a data frame before a safe one; while it is not synchronised it counts as silent. -/
def State.nodeLatch (s : State) (eh : Nat) : State :=
  if !s.umpire || s.mode ≠ 6 then s
  else if s.syncState < 3 then { s with fbc := { s.fbc with nodeSilent := 2, nodeQuiet := 0, nodeStat := 0 } }
  else
    let all := (s.fbc.copies.filter fun p => p.2.typ = 2 && s.slotKind liveBank p.1 = 1).map fun p => p.2.frame
    let cand := all.filter fun f => f.word2.toNat / 4 = eh
    let data := cand.filter fun f => f.flags % 2 = 0
    let best := data.foldl (fun m f => max m f.word2.toNat) 0
    let applied := if !data.isEmpty then best % 2 + 1 else if !cand.isEmpty then 3 else 0
    let stale := cand.length < all.length
    let conflict := 1 < (data.filter fun f => f.word2.toNat / 2 % 2 = 1).length
    let quiet := if applied = 0 then min (s.fbc.nodeQuiet + 1) 255 else 0
    let silent := if applied = 0 then (if s.fbc.nodeLimit ≤ quiet then 2 else s.fbc.nodeSilent)
      else if applied = 3 then s.fbc.nodeSilent / 2 * 2 else 0
    { s with fbc := { s.fbc with nodeSilent := silent, nodeQuiet := quiet,
                                 nodeStat := (if stale then 8 else 0) + (if conflict then 4 else 0) + applied } }

/-- EH and the stale frames of the stroke, as a node has them at the latch instant (R304, R306). -/
def State.florynLatch (s : State) : State :=
  let os := (s.fbc.copies.filter fun p => p.2.typ = 2).map fun p => p.2.frame.word2.toNat / 4
  let eh := os.foldl max (max (s.rd R.FBC_EPOCH_EH) (s.fbc.seen.toNat / 4))
  let s := s.wr R.FBC_EPOCH_EH eh
  let s := (s.incBy R.FBC_CNT_STALE_COUNT (os.filter fun e => e < eh).length).nodeLatch eh
  { s with fbc := { s.fbc with latched := true } }

/-- A unit's frame was used in the stroke: O-frames of Bow and Stern, the I-frame of the Umpire. -/
def State.unitSeen (s : State) (u : Nat) : Bool :=
  s.fbc.copies.any fun p => p.2.frame.sender = u && (if u = 0xFD then p.2.typ = 3 || p.2.typ = 4 else p.2.typ = 2)

/-- A station's condition occurs on its source (08 "FBC page"). -/
def State.station (s : State) (c : Cond) (n : Nat) : State := s.raise (c.at 0 ((n - 1) / 8)) n

/-- SLOT_NODE of an I-slot owner, with the events of its onsets. -/
def State.nodeStatus (s : State) (n : Nat) (c : Option FbCopy) : State :=
  let f (x : Fld) := x.off (4 * n)
  let was := fun (x : Fld) => s.on (f x)
  let st := fun (s : State) (ev : Cond) (b : Bool) => if b && 1 ≤ n && n ≤ 0x78 then s.station ev n else s
  match c with
  | none =>
    let s1 := ((s.wr (f R.SLOT_NODE_PRESENT) 0).wr (f R.SLOT_NODE_NULL) 0).wr (f R.SLOT_NODE_OK) 0
    st s1 Ev.fbcStationMissing (was R.SLOT_NODE_PRESENT)
  | some c =>
    let w := c.frame.word2
    let null := c.typ = 4
    let s1 := s.setReg (R.SLOT_NODE + 4 * n) (BitVec.ofNat 32 (bitsOf w 31 16 * 0x10000 + 0x80 + bitsOf w 4 4 * 0x40 +
      bitsOf w 3 3 * 0x20 + bitsOf w 2 2 * 0x10 + bitsOf w 1 0 * 4 + (if null then 2 else 1)))
    let s1 := st s1 Ev.fbcStationPresent (!was R.SLOT_NODE_PRESENT)
    let s1 := st s1 Ev.fbcStationNullOnset (null && !was R.SLOT_NODE_NULL)
    let s1 := st s1 Ev.fbcStationSilent (w.getLsbD 4 && !was R.SLOT_NODE_SILENT)
    let s1 := st s1 Ev.fbcStationStale (w.getLsbD 3 && !was R.SLOT_NODE_STALE)
    st s1 Ev.fbcStationConflict (w.getLsbD 2 && !was R.SLOT_NODE_CONFLICT)

/-- An I-slot's range and status byte (R302). -/
def State.fillSlot (s : State) (i : Nat) : State :=
  let (ofs, len) := s.slotRange liveBank i
  let c := ((s.fbc.copies.find? fun p => p.1 = i).map fun p => p.2).filter fun c => c.typ = 3 || c.typ = 4
  let zero := s.slotFld liveBank R.SLOT_ENT1_ZERO i = 1
  let input : Bool := match c with | some c => decide (c.typ = 3) | none => false
  let s1 := match c with
    | some c => if input then s.setBytes (iBase + ofs) ((c.frame.payload ++ List.replicate len 0).take len)
      else if zero then s.setBytes (iBase + ofs) (List.replicate len 0) else s
    | none => if zero then s.setBytes (iBase + ofs) (List.replicate len 0) else s
  let b (x : Bool) (n : Nat) : Nat := if x then n else 0
  let stat := match c with
    | some c => b (c.frame.word2.getLsbD 4) 0x80 + b (!input && !zero) 0x40 + b c.mismatch 0x20 + b c.bOk 0x10 + b c.aOk 8 +
        b (!input) 2 + b input 1
    | none => b (!zero) 0x40 + 4
  let s1 := match s.statusByte liveBank i with
    | some p => s1.setByte (iBase + p) (BitVec.ofNat 8 stat)
    | none => s1
  let n := s.slotOwner liveBank i
  let s1 := s1.nodeStatus n c
  let q := if c.isSome then 0 else min (SMap.get (fun _ => 0) s1.fbc.silent n + 1) 64
  { s1 with fbc := { s1.fbc with silent := SMap.set (fun _ => 0) n q s1.fbc.silent } }

/-- UNIT_SLOT of Bow, Stern and the Umpire, at onset. -/
def State.unitSlots (s : State) : State :=
  let named := [0xFB, 0xFC, 0xFD].filter fun u =>
    u ≠ s.ownAddr && (s.ownedSlots liveBank).any fun i => s.slotOwner liveBank i = u
  let now := named.filter fun u => s.unitSeen u
  let s1 := named.foldl (fun s u =>
    if now.contains u && !s.fbc.units.contains u then s.raise Ev.fbcUnitSlotPresent u
    else if !now.contains u && s.fbc.units.contains u then s.raise Ev.fbcUnitSlotAbsent u
    else s) s
  { s1 with fbc := { s1.fbc with units := now } }

/-- Input complete at the controllers: every I-slot's range is filled and the image closed (R302, 01 R20). -/
def State.florynInputs (s : State) : State :=
  let is := (List.range (s.nSlots liveBank)).filter fun i => s.slotKind liveBank i = 2
  let s := (is.foldl State.fillSlot s).unitSlots
  { s with fbc := { s.fbc with closed := true } }

/-- The bytes of an O-slot: the output image at IMGOFS, padded to FBC_PAYLOAD with zeros (R296). -/
def State.slotBytes (s : State) (i : Nat) : List Byte :=
  let (ofs, len) := s.slotRange liveBank i
  let img := (List.range len).map fun k => SMap.get (fun _ => 0) s.exec.outImage (ofs + k)
  img ++ List.replicate (s.rd R.FBC_PAYLOAD_BYTES.live - len) 0

/-! ### The dynamic segment (R316, R317) -/

/-- The unit is the dynamic master: the solo unit, the active unit of a pair and, in a pair that has none, the unit whose APPLY is
being distributed (DESIGN CHOICE, log entry 180). -/
def State.dynMaster (s : State) : Bool :=
  s.transmits && !s.compat liveBank && !s.umpire && (!s.paired || s.pairState = 1 || s.rd R.FBC_CFGSTAT_STATE = 1)

/-- Mini-slots of a frame of f ns. -/
def miniSlots (f : Nat) : Nat := (f + 196 + 999) / 1000

/-- The duration of a frame with LEN payload bytes, in ns (R288). -/
def frameNs (len : Nat) : Nat := (36 + len) * 8

/-- A schedule under way: the grants so far, and the latest one's duration in ns. -/
abbrev GrantPlan := List FbGrant × Nat

/-- The first mini-slot at which a node may follow the schedule by the spacing rule, or what precedes the segment (R289). -/
def State.afterSched (s : State) (g : GrantPlan) (node : Nat) : Nat :=
  match g.1.getLast? with
  | none =>
    match (s.transmissions liveBank).getLast? with
    | some t =>
      let start := s.slotAt liveBank (s.nSlots liveBank)
      t.2.2.2.foldl (fun m x =>
        max m ((t.2.1 + t.2.2.1 + 196000 + 1000 * s.delayOf (s.chans liveBank) x node - start + 999999) / 1000000)) 0
    | none => 0
  | some l => max (l.first + l.count)
      ((l.first * 1000 + g.2 + 196 + s.delayOf (s.chans liveBank) l.node node + 999) / 1000)

/-- A transmission is added when it fits in the segment. -/
def State.grantFits (s : State) (g : GrantPlan) (node ns count : Nat) : Option GrantPlan :=
  let first := s.afterSched g node
  if first + count ≤ s.rd R.FBC_DYNCFG_MINISLOTS.live && count < 1024 then some (g.1 ++ [⟨node, first, count⟩], ns) else none

/-- The nodes that ask for a transmission in the stroke's I-frames, with their mini-slots, in ascending address after the node
served last. -/
def State.requests (s : State) : List (Nat × Nat) :=
  let asked := (s.fbc.copies.filter fun p => (p.2.typ = 3 || p.2.typ = 4) && p.2.frame.word2.getLsbD 5).map fun p =>
    (p.2.frame.sender, bitsOf p.2.frame.word2 15 6)
  let up := (List.range 256).filterMap fun a => asked.find? fun q => q.1 = a
  (up.filter fun q => s.fbc.lastServed < q.1) ++ up.filter fun q => q.1 ≤ s.fbc.lastServed

/-- A place after the grant frame is kept for a SWAP request: R355 sends it in the segment at whose start it is accepted (DESIGN
CHOICE, log entry 181). -/
def State.keepsSwap (s : State) : Bool := s.paired && s.pairState = 1 && !s.on R.PAIR_CFG_NOUMPIRE

/-- The grant frame itself, sized for every I-slot owner, one request of the master's own and itself; then the place of a SWAP. -/
def State.ownGrant (s : State) : GrantPlan × Bool :=
  let n := (if s.keepsSwap then 3 else 2) + ((s.ownedSlots liveBank).filter fun i => s.slotKind liveBank i = 2).length
  match s.grantFits ([], 0) s.ownAddr (frameNs (4 * n)) (miniSlots (frameNs (4 * n))) with
  | some g =>
    if s.keepsSwap then
      match s.grantFits g s.ownAddr (frameNs 8) (miniSlots (frameNs 8)) with
      | some h => (h, true)
      | none => (g, true)
    else (g, true)
  | none => (([], 0), false)

/-- DYN_OVERRUN, once for a request that no empty segment can hold (R317). -/
def State.dynOverrun (s : State) (node : Nat) : State :=
  if s.fbc.tooLong.contains node then s
  else { s with fbc := { s.fbc with tooLong := node :: s.fbc.tooLong } }.raise Ev.fbcDynOverrun node

/-- One request in the order of R317. -/
def State.grantOne (base : GrantPlan) (sg : State × GrantPlan) (q : Nat × Nat) : State × GrantPlan :=
  let s := sg.1
  let ns := q.2 * 1000 - 196
  match s.grantFits sg.2 q.1 ns q.2 with
  | some g => ({ s with fbc := { s.fbc with lastServed := q.1 } }, g)
  | none => if (s.grantFits base q.1 ns q.2).isNone then (s.dynOverrun q.1, sg.2) else sg

/-- The oldest request not sent. -/
def State.firstUnsent (s : State) : Option AcqReq := s.fbc.acq.find? fun q => !q.sent

/-- The dynamic master's own transmission that waits, by its payload's length: node management before acyclic requests (log entry
180). -/
def State.ownWaiting (s : State) : Option (Nat × Option Nat) :=
  match s.firstMgmt with
  | some m => some (8 + m.data.length, none)
  | none => s.firstUnsent.map fun q => (8 + q.data.length, some q.id)

/-- The grants of the next stroke (R317): the grant frame, one request of the master's own, the nodes' requests. -/
def State.allocate (s : State) : State :=
  let (base, ok) := s.ownGrant
  if !ok then { s with fbc := { s.fbc with next := [] } }
  else
    let (s, g) := match s.ownWaiting with
      | some (n, id) =>
        (match s.grantFits base s.ownAddr (frameNs n) (miniSlots (frameNs n)), id with
         | some g, some q => ((s.startGate .acq q).2, g)
         | some g, none => (s, g)
         | none, _ => (s.dynOverrun s.ownAddr, base))
      | none => (s, base)
    let rs := s.requests
    let s := { s with fbc := { s.fbc with tooLong := s.fbc.tooLong.filter fun a => a = s.ownAddr || rs.any fun q => q.1 = a } }
    let (s, g) := rs.foldl (State.grantOne base) (s, g)
    { s with fbc := { s.fbc with next := g.1 } }

/-- The words of a GRANT frame. -/
def grantPayload (gs : List FbGrant) : List Byte :=
  gs.flatMap fun g => le32 (g.count % 1024 * 0x40000 + g.first % 1024 * 0x100 + g.node % 256)

/-- The service header of a DATA payload (R319). -/
def dataPayload (id status service index : Nat) (data : List Byte) : List Byte :=
  le32 (id % 65536 * 0x10000 + status * 0x100 + service) ++ le32 index ++ data

/-- A DATA frame goes out. -/
def State.sendData (s : State) (dest : Nat) (payload : List Byte) : State :=
  s.out (.florynData s.chanMask dest (s.mkFrame 0xFF 0 0 0 payload))

/-- This unit's grants of the present stroke, in order. -/
def State.ownGrants (s : State) : List FbGrant := s.fbc.grants.filter fun g => g.node = s.ownAddr

/-- A request goes out, once its mirror is acknowledged: `send` puts its DATA frame on the bus. -/
def State.sendRequest (s : State) (q : AcqReq) (send : State → State) : State :=
  let (go, s) := s.startGate .acq q.id
  if go then
    let s := send (s.ledgerStart .acq 0 q.id)
    { s with fbc := { s.fbc with acq := s.fbc.acq.map fun (x : AcqReq) =>
      if x.id = q.id then { x with sent := true } else x } }
  else s

/-- A node-management request goes out with the next REQID. -/
def State.sendMgmt (s : State) (m : NodeReq) : State :=
  let id := s.fbc.nextReq
  let q := s.fbc.mgmt.map fun (x : NodeReq) =>
    if x.id.isNone && x.addr = m.addr && x.index = m.index && x.live = m.live then { x with id := some id, age := 0 } else x
  { s with fbc := { s.fbc with mgmt := q, nextReq := (id + 1) % 65536 } }.sendData m.addr (dataPayload id 0 0x10 m.index m.data)

/-- The module's own transmission in the segment: the dynamic master's waiting one, when this stroke's grants hold room for it after
the grant frame and the place of a SWAP; another unit's waiting answer. -/
def State.sendGranted (s : State) : State :=
  if s.dynMaster then
    match s.ownGrants[if s.keepsSwap then 2 else 1]?, s.ownWaiting with
    | some g, some (n, _) =>
      if g.count < miniSlots (frameNs n) then s
      else match s.firstMgmt, s.firstUnsent with
      | some m, _ => s.sendMgmt m
      | none, some q => s.sendRequest q fun s => s.sendData q.dest (dataPayload q.id 0 q.service q.index q.data)
      | none, none => s
    | _, _ => s
  else match s.fbc.replies with
  | p :: rest =>
    if !s.ownGrants.isEmpty && s.transmits then { s with fbc := { s.fbc with replies := rest } }.sendData p.1 p.2 else s
  | [] => s

/-- The service window of the SV2210 mode (R324): the oldest request goes out, one in a stroke. -/
def State.serviceWindow (s : State) : State :=
  match s.firstUnsent with
  | some q =>
    if s.transmits then s.sendRequest q fun s => s.out (.compatData q.dest (dataPayload q.id 0 q.service q.index q.data)) else s
  | none => s

/-- The dynamic segment starts: the dynamic master sends the grants of the next stroke; `swap` is what an active unit sends first
after its grant frame (09 R355). -/
def State.dynamicSegment (s : State) (swap : State → State) : State :=
  if s.rd R.FBC_DYNCFG_MINISLOTS.live = 0 then swap s
  else if s.compat liveBank then s.serviceWindow
  else if s.dynMaster then
    let s := s.allocate
    if s.fbc.next.isEmpty then swap s
    else (swap (s.sendFrame 5 0xFF 0 0 (s.stroke + 1) (grantPayload s.fbc.next))).sendGranted
  else (swap s).sendGranted

/-- A DATA frame's copy (R301): answers whether it is the first. The second copy of a frame comes on the other channel: one with the
same payload, or where the sender has no two grants any; a difference is counted. -/
def State.dynCopy (s : State) (x : FlorynRx) : Bool × State :=
  let f := x.frame
  let seen := s.fbc.dynSeen
  let there := seen.filter fun p => p.1 = f.sender && p.2.1 ≠ x.chanB
  let here := seen.filter fun p => p.1 = f.sender && p.2.1 = x.chanB
  let twice := 1 < (s.fbc.grants.filter fun g => g.node = f.sender).length
  let same := there.any fun p => p.2.2 = f.payload
  let s := { s with fbc := { s.fbc with dynSeen := seen ++ [(f.sender, x.chanB, f.payload)] } }
  if same && !(here.any fun p => p.2.2 = f.payload) then (false, s)
  else if !twice && here.length < there.length then (false, s.inc R.FBC_CNT_MISMATCH_COUNT)
  else (true, s)

/-- GRANT received: the mini-slots of the next stroke. -/
def State.grantRx (s : State) (x : FlorynRx) : State :=
  let (ok, s) := s.florynRx 5 x
  if !ok || s.dynMaster || x.frame.aux ≠ s.reg R.FBC_STROKE + 1 then s
  else
    let gs := (List.range (x.frame.len / 4)).map fun i =>
      let w := BitVec.ofNat 32 (ofBytes ((x.frame.payload.drop (4 * i)).take 4))
      (⟨bitsOf w 7 0, bitsOf w 17 8, bitsOf w 27 18⟩ : FbGrant)
    { s with fbc := { s.fbc with next := gs, granted := true } }

/-- GRANT_MISSING for a stroke whose segment brought no grants to a unit that follows a dynamic master: a standby, the
Umpire. -/
def State.grantStroke (s : State) : State :=
  if (s.mode = 4 || s.mode = 6) && s.transmits && s.rd R.FBC_DYNCFG_MINISLOTS.live ≠ 0 && !s.fbc.granted then
    s.raise Ev.fbcGrantMissing s.stroke
  else s

/-! ### Acyclic requests (R319, R320) -/

/-- The data bytes that a requester has written. -/
def State.acqWdata (s : State) (k : Nat) : List Byte := SMap.get (fun _ => []) s.fbc.wdata k

/-- A refused submission. -/
def State.acqRefuse (s : State) (r : Req) (reason : Nat) : State := s.wr (s.bf r R.FBC_ACQ_STAT_LASTRSN) reason

/-- The task whose execution a core runs. -/
def State.taskOf (s : State) : Req → Option Nat
  | .core c =>
    let k := s.core c
    match k.fgRun with
    | some x => some x.task
    | none => k.bgRun.map fun x => x.task
  | _ => none

/-- SUBMIT (R319, R320): refusals in the order MODE, NOT_ACTIVE, LEN, FULL; an accepted request that cannot be carried out ends
at once. A standby does not carry a program's submission out; that it takes the data written for it, as the active unit's does,
is a DESIGN CHOICE: log entry 184. -/
def State.acqSubmit (s : State) (r : Req) : State :=
  let k := s.bank r
  let data := s.acqWdata k
  if s.mode = 4 && isCore r then { s with fbc := { s.fbc with wdata := SMap.set (fun _ => []) k [] s.fbc.wdata } }
  else if s.mode ≠ 2 && s.mode ≠ 3 && s.mode ≠ 4 then s.acqRefuse r 7
  else if s.paired && s.pairState ≠ 1 then s.acqRefuse r 6
  else if data.length ≠ s.rd (s.bf r R.FBC_ACQ_LEN_LEN) then s.acqRefuse r 5
  else if 64 ≤ s.fbc.acq.length || !s.ledgerFree .acq then s.acqRefuse r 4
  else
    let q : AcqReq := { id := s.fbc.nextReq, bank := k, task := s.taskOf r, dest := s.rd (s.bf r R.FBC_ACQ_DEST_DEST),
                        service := s.rd (s.bf r R.FBC_ACQ_DEST_SERVICE), index := s.rd (s.bf r R.FBC_ACQ_INDEX_INDEX),
                        data := data, sent := false }
    let s := (s.acqRefuse r 0).wr (s.bf r R.FBC_ACQ_STAT_REQID) q.id
    let s := { s with fbc := { s.fbc with acq := s.fbc.acq ++ [q], nextReq := (q.id + 1) % 65536,
                                          wdata := SMap.set (fun _ => []) k [] s.fbc.wdata } }
    let s := (s.ledgerAdd .acq 0 q.id).mirror .acq q.id (.accepted [q.dest, q.service, q.index] q.data)
    if !s.fbc.nodes.any fun n => n.addr = q.dest then s.acqEnd q 2 1 0 []
    else if s.rd R.FBC_DYNCFG_MINISLOTS.live = 0 then s.acqEnd q 2 0x0A 0 []
    else if !s.anyWorking then s.acqEnd q 2 8 0 []
    else s

/-- ACQ_TIMEOUT: the request's timeout is reached (R320). -/
def State.acqTimeout (s : State) (id : Nat) : State :=
  match s.fbc.acq.find? fun q => q.id = id with
  | some q => if q.sent then s.acqEnd q 3 2 0 [] else s.acqEnd q 2 3 0 []
  | none => s

/-- A RESPONSE arrives (R319): it completes the request with its REQID, or answers node management. -/
def State.acqResponse (s : State) (sender id status : Nat) (data : List Byte) : State :=
  match s.fbc.mgmt.find? fun m => m.addr = sender && m.id = some id with
  | some m => s.nodeAnswer m status
  | none => match s.fbc.acq.find? fun q => q.sent && q.id = id with
  | some q => s.acqEnd q 1 (if status = 0 then 0 else 0x10) status data
  | none => s

/-- The STATUS with which the Umpire answers node-management data (R322): what it can meet is what its own registers can hold (DESIGN
CHOICE, log entry 182). -/
def nodeStatusOf (index : Nat) (w : List Word) : Nat :=
  let g (i hi lo : Nat) := bitsOf (w.getD i 0) hi lo
  let pay := g 3 26 16
  match index with
  | 1 =>
    if g 3 13 0 < 50 || 10000 < g 3 13 0 then 0x10
    else if pay < 32 || 1024 < pay || pay % 4 ≠ 0 then 0x11
    else if pay < g 1 15 0 + g 1 31 16 || pay < g 2 15 0 then 0x12
    else if g 0 31 24 = 0 || g 0 31 24 = 255 || (g 0 7 0 ≠ 0xFF && g 0 31 24 ≤ g 0 7 0) || g 0 31 24 < g 4 7 0 then 0x13
    else if g 3 13 0 * 1000 < 2000 + g 0 31 24 * (1200 + 8 * pay) then 0x14
    else 0
  | 2 => if g 0 7 0 = 0 then 0x15 else 0
  | 3 => if 3 < g 0 2 0 then (if g 0 2 0 = 7 then 0 else 0x15) else if g 0 7 4 = 0 then 0x15 else 0
  | 16 => 0
  | _ => 0x15

/-- A node-management request of SERVICE 0x10 at the Umpire, the one module of a pair that is a node of the slot table: it
stages SLOTS and MASTER and answers (R321, R322); SLOTS of the generation in force takes effect at once (R583). -/
def State.nodeService (s : State) (sender id index : Nat) (data : List Byte) : State :=
  let w (i : Nat) : Word := BitVec.ofNat 32 (ofBytes ((data.drop (4 * i)).take 4))
  let ws := (List.range 5).map w
  let st := nodeStatusOf index ws
  let out := if index = 16 then (List.range 16).map Config.identByte else []
  let s := { s with fbc := { s.fbc with replies := s.fbc.replies ++ [(sender, dataPayload id st 3 index out)] } }
  if st ≠ 0 then s
  else match index with
  | 1 =>
    if bitsOf (ws.getD 2 0) 31 16 = s.rd R.FBC_CFGSTAT_CFGGEN then s.nodeSwitch ws
    else { s with fbc := { s.fbc with node := some ws } }
  | 2 => { s with fbc := { s.fbc with nodeLimit := bitsOf (w 0) 7 0 } }
  | 3 =>
    match s.fbc.node with
    | some v => { s with fbc := { s.fbc with node := some (v.take 5 ++ [w 0]) } }
    | none => s.nodeMaster (w 0)
  | _ => s

/-- The switch that an O-frame announces, at the Umpire (R297, R322). -/
def State.nodeAnnounced (s : State) (f : FlorynFrame) : State :=
  if s.umpire && s.fbc.node.isSome && f.flags / 4 % 2 = 1 && s.rd R.FBC_CFGSTAT_STATE ≠ 2 then
    (s.wr R.FBC_CFGSTAT_STATE 2).setReg R.FBC_SWITCH f.aux
  else s

/-! ### The FBC, FBA, FBB and SLOT pages -/

/-- The result that a requester selects. -/
def State.acqResult (s : State) (r : Req) : Option AcqRes :=
  s.fbc.acqDone.find? fun x => x.id = s.rd (s.bf r R.FBC_ACQ_SEL_REQID)

/-- FBC_ACQ_RDATA: the next 4 response bytes of the selected request (R319). -/
def State.acqTake (s : State) (r : Req) : Word × State :=
  let k := s.bank r
  let n := SMap.get (fun _ => 0) s.fbc.taken k
  let data := match s.acqResult r with | some x => x.data | none => []
  let (w, s) := s.nextWord (data.drop n)
  (w, { s with fbc := { s.fbc with taken := SMap.set (fun _ => 0) k (n + 4) s.fbc.taken } })

/-- A read of an FBC register without side effect: with SLOT_CTL.VIEW set, a staged register reads as in force. -/
def State.fbcRead (s : State) (r : Req) (a : Nat) : Word :=
  if s.on R.SLOT_CTL_VIEW && fbcStaged.contains a then s.reg (a + liveBank)
  else if a = R.FBC_ADDR then BitVec.ofNat 32 s.ownAddr
  else if a = R.FBC_ACQ_STAT then
    bitsSet (s.reg (s.bk r a)) 7 0 s.fbc.acq.length
  else if a = R.FBC_ACQ_RSTAT then
    let id := s.rd (s.bf r R.FBC_ACQ_SEL_REQID)
    if s.fbc.acq.any fun q => q.id = id then 0
    else match s.acqResult r with
    | some x => BitVec.ofNat 32 (x.outcome * 0x10000000 + x.reason * 0x10000 + x.nodestat * 0x100 + x.data.length % 256)
    | none => 0xF0000000
  else s.reg a

/-- FBx_STAT as it reads: BYPASS is held low while the repeater does not forward (R285). -/
def State.fbxStat (s : State) (chanB : Bool) : Word :=
  bitsSet (s.reg (R.FB_STAT + 0x1000 * chanB.toNat)) 3 3 (!s.chanForwards chanB).toNat

/-- A read of an FBA or FBB register: FBx_TOPO shows the selected node. -/
def State.fbxRead (s : State) (chanB : Bool) (a : Nat) : Word :=
  if a = R.FB_STAT + 0x1000 * chanB.toNat then s.fbxStat chanB
  else if a = R.FB_TOPO + 0x1000 * chanB.toNat then
    match s.fbc.nodes.find? fun n => n.chanB = chanB && n.addr = s.rd (fbx chanB R.FB_TOPOSEL_ADDR) with
    | some n => BitVec.ofNat 32 (0x80000000 + n.port2.toNat * 0x40000000 + n.rpt % 256 * 0x10000 + min n.delay 0xFFFF)
    | none => 0
  else s.reg a

/-- A write to the FBC page (08 "FBC page"). -/
def State.fbcWrite (s : State) (r : Req) (a : Nat) (v : Word) : WRes :=
  let k := s.bank r
  let put : WRes := accept (s.setReg (s.bk r a) v)
  if fbcStaged.contains a then
    if s.on R.SLOT_CTL_VIEW then refuse .range s
    else if a = R.FBC_CFG && 1 < bitsOf v 1 0 then refuse .range s
    else accept (s.plainWrite a v)
  else if a = R.FBC_APPLY then accept (s.fbcCmd v)
  else if a = R.FBC_ACQ_DEST then if bitsOf v 15 0 = 0 then refuse .range s else put
  else if a = R.FBC_ACQ_INDEX then put
  else if a = R.FBC_ACQ_LEN then
    if 240 < bitsOf v 7 0 || bitsOf v 7 0 % 4 ≠ 0 then refuse .range s
    else accept (s.setReg (s.bk r a) (v &&& 0xFF))
  else if a = R.FBC_ACQ_WDATA then
    let d := s.acqWdata k
    if s.rd (s.bf r R.FBC_ACQ_LEN_LEN) < d.length + 4 then refuse .range s
    else accept { s with fbc := { s.fbc with wdata := SMap.set (fun _ => []) k (d ++ le32 v.toNat) s.fbc.wdata } }
  else if a = R.FBC_ACQ_CMD then
    accept (if bitsOf v 31 16 = 0xAC9E && bitsOf v 7 0 = 1 then s.acqSubmit r else s)
  else if a = R.FBC_ACQ_SEL then
    accept { s.setReg (s.bk r a) (v &&& 0xFFFF) with
      fbc := { s.fbc with taken := SMap.set (fun _ => 0) k 0 s.fbc.taken } }
  else accept (s.plainWrite a v)

/-- A write to the SLOT page. -/
def State.slotWrite (s : State) (a : Nat) (v : Word) : WRes :=
  if a = R.SLOT_CTL then accept (s.plainWrite a v)
  else if s.on R.SLOT_CTL_VIEW then refuse .range s
  else if (a - R.SLOT_ENT0) % 8 = 0 && a < R.SLOT_NODE && bitsOf v 31 30 = 3 then refuse .range s
  else accept (s.plainWrite a v)

end Sys2Proof.Machine
end

