-- ==== Sys2Proof/Machine/LoopCompute.lean ====
section
/-!
DEFINITION. Machine/LoopCompute.lean: the computation of a loop context (07 R251 to R254, R259 to R276) and loop completion
(R248, R254, R278, R279).
-/

namespace Sys2Proof.Machine

/-! ### Sources (R251 to R253) -/

/-- A byte of the engine view (R252). -/
def State.engineByte (s : State) (a : Nat) : Byte :=
  match s.exec.mView.reverse.find? fun c => c.1 = a with
  | some c => c.2
  | none => match s.exec.hidden.find? fun h => h.1 = a with
    | some h => h.2.1
    | none => s.byte a

/-- An element of TYPE ty at an address of the engine view, in binary32 (R251). -/
def State.element (s : State) (ty a : Nat) : Nat :=
  let v := ofBytes ((List.range (elemSize ty)).map fun i => s.engineByte (a + i))
  match ty with
  | 0 => b32.ofInt (signed 16 v)
  | 1 => b32.ofInt v
  | 2 => b32.ofInt (signed 32 v)
  | _ => v

/-- The value of a source descriptor of context n (R251, R253). -/
def State.srcValue (s : State) (n d : Nat) : Nat :=
  match d / 2 ^ 30 with
  | 0 => 0
  | 1 => s.element (d / 2 ^ 28 % 4) (iBase + d % 2 ^ 20)
  | 2 => s.element (d / 2 ^ 28 % 4) (mBase + d % 2 ^ 20)
  | _ =>
    let m := d / 2 ^ 20 % 256
    if m < n && m % 4 = n % 4 && s.loop.due.contains m then s.lval m R.LOOPCTX_U else s.lacc m R.LOOPCTX_U

/-- The bit address of context n's quality bit lies beyond the I area: the bit has no stated value and is free (log entry 149). -/
def State.qualOpen (s : State) (n : Nat) : Bool :=
  s.lvalF n R.LOOPCTX_QUALSRC_EN = 1 && s.lvalF n R.LOOPCTX_QUALSRC_AREA = 0 && 0x40000 ≤ s.lvalF n R.LOOPCTX_QUALSRC_BIT

/-- The quality bit of context n is 0 (R261). -/
def State.qualBad (s : State) (n : Nat) : Bool :=
  let b := s.lvalF n R.LOOPCTX_QUALSRC_BIT
  let base := if s.lvalF n R.LOOPCTX_QUALSRC_AREA = 0 then iBase else mBase
  let v := if s.qualOpen n then s.free.getLsbD 0 else (s.engineByte (base + b / 8)).getLsbD (b % 8)
  s.lvalF n R.LOOPCTX_QUALSRC_EN = 1 && !v

/-! ### The profile generator (R271 to R274) -/

def zero64 (a : Nat) : Bool := a % 2 ^ 63 = 0
def same64 (a b : Nat) : Bool := b64.compare a b = some .eq

/-- The sign of a number: -1, 0 or 1. -/
def sign64 (a : Nat) : Int :=
  match b64.compare a 0 with
  | some .lt => -1
  | some .gt => 1
  | _ => 0

/-- A value enters a window of n values with running sum sum: the window, the sum and the mean (R273). -/
def pushWindow (n : Nat) (win : List Nat) (sum x : Nat) : List Nat × Nat × Nat :=
  let sum' := b64.sub (b64.add sum x) (win.getD (n - 1) 0)
  let win' := (x :: win).take n
  if win'.all zero64 then ([], 0, 0) else (win', sum', b64.div sum' (b64.ofInt n))

/-- Held limits come into use when no motion is held, and the window lengths follow (R272); lengths that break R271 after a
change of stroke length count as 1 (log entry 18). -/
def Prof.limits (p : Prof) (ts v a j : Nat) : Prof :=
  if p.moving then p
  else
    let (na, nj) := (windows ts v a j).getD (1, 1)
    let fix (x : Nat) := if 1 ≤ x && x ≤ 65535 then x else 1
    if p.vmax = v && p.amax = a && p.jmax = j && p.na = fix na && p.nj = fix nj then p
    else { p with vmax := v, amax := a, jmax := j, na := fix na, nj := fix nj, gap := fix na + fix nj }

/-- The plan at a computation (R273); none when K is not finite or exceeds 2^53 (R262). -/
def Prof.plan (p : Prof) (tgt ts : Nat) : Option Prof :=
  if same64 tgt p.goal || p.gap < p.na + p.nj then some p
  else
    let dist := b64.sub tgt p.r
    if !zero64 p.dr && sign64 dist ≠ sign64 p.dr then some { p with dr := 0, left := 0, goal := p.r, gap := 0 }
    else
      match ceilTol (b64.div (b64.abs dist) (b64.mul (b32.conv b64 p.vmax) ts)) with
      | none => none
      | some q =>
        let k := max q (p.na + p.nj)
        if 2 ^ 53 < k then none
        else
          let dr := b64.div dist (b64.ofInt k)
          some { p with dr := dr, left := k, k := k, r0 := p.r, goal := tgt, gap := if same64 dr p.dr then p.gap else 0 }

/-- The ramp's increment at a computation. -/
def Prof.ramp (p : Prof) : Prof × Nat :=
  if 0 < p.left then
    let left := p.left - 1
    ({ p with left := left,
              r := if left = 0 then p.goal else b64.add p.r0 (b64.mul p.dr (b64.ofInt (p.k - left : Nat))) }, p.dr)
  else if zero64 p.dr then (p, 0)
  else ({ p with dr := 0, gap := 0 }, 0)

/-- One computation of the profile generator (R273), with the acceleration. -/
def Prof.step (p : Prof) (tgt ts : Nat) : Option (Prof × Nat) :=
  match p.plan tgt ts with
  | none => none
  | some p =>
    let (p, inc) := p.ramp
    let (wa, sa, d1) := pushWindow p.na p.wa p.sa inc
    let (wj, sj, d2) := pushWindow p.nj p.wj p.sj d1
    let vp := b64.div d2 ts
    let acc := b64.div (b64.sub vp p.vp) ts
    let p := { p with wa := wa, sa := sa, wj := wj, sj := sj, w := b64.add p.w d2, vp := vp, gap := p.gap + 1 }
    let p := if p.left = 0 && p.wa.isEmpty && p.wj.isEmpty then { p with w := p.r } else p
    some (p, acc)

/-! ### Gain scheduling (R265, R266) -/

/-- Boundary i of the region table at a pointer: none for B_0 and B_NREG. -/
def State.boundary (s : State) (p i : Nat) : Option Nat :=
  if i = 0 || s.tableWord p % 8 + 1 ≤ i then none else some (s.tableWord (p + i))

/-- The largest region i with B_i at or below sv; a NaN gives region 0. -/
def State.regionOf (s : State) (p sv : Nat) : Nat :=
  ((List.range (s.tableWord p % 8 + 1)).filter fun i =>
    match s.boundary p i with
    | none => false
    | some b => geF sv b).length

/-- The region at a computation, from the region in force (R265). -/
def State.nextRegion (s : State) (p sv hys : Nat) : Option Nat → Nat
  | none => s.regionOf p sv
  | some r =>
    let above := match s.boundary p r with
      | none => true
      | some b => geF sv (b32.sub b hys)
    let below := match s.boundary p (r + 1) with
      | none => true
      | some b => gtF (b32.add b hys) sv
    if isNan sv || (above && below) then r else s.regionOf p sv

/-! ### Friction and cogging (R269, R270) -/

/-- The largest integer at or below a number, as a number. -/
def floorF (a : Nat) : Nat :=
  match b32.unpack a with
  | .fin neg m e => if 0 ≤ e then a else b32.ofInt (signedMant neg m / (2 ^ (-e).toNat : Nat))
  | _ => b32.canon a

/-- The integer value of a finite number that is an integer. -/
def intF (a : Nat) : Int := (b32.toInt .toZero (-(2 ^ 130)) (2 ^ 130) a).1

/-- The friction term in direction d, without the breakaway term. -/
def State.friction (s : State) (p x : Nat) (d : Int) : Nat :=
  let n := s.tableWord p % 8192
  let pmin := s.tableWord (p + 1)
  let pmax := s.tableWord (p + 2)
  let xc := b32.min (b32.max x pmin) pmax
  let f := b32.mul (b32.div (b32.sub xc pmin) (b32.sub pmax pmin)) (b32.ofInt (n - 1 : Nat))
  let i := min (intF (floorF f)).toNat (n - 2)
  let t := b32.sub f (b32.ofInt i)
  let pick (k : Nat) :=
    let a := s.tableWord (p + 3 + k + 2 * i)
    b32.add a (b32.mul t (b32.sub (s.tableWord (p + 5 + k + 2 * i)) a))
  if d = 1 then pick 0 else if d = -1 then b32.neg (pick 1) else 0

/-- The cogging term. -/
def State.cogging (s : State) (p x gain : Nat) : Nat :=
  let n := s.tableWord p % 8192
  let per := s.tableWord (p + 1)
  let ph := b32.sub x (b32.mul per (floorF (b32.div x per)))
  let f := b32.mul (b32.div ph per) (b32.ofInt n)
  let i := (intF (floorF f) % n).toNat
  let t := b32.sub f (floorF f)
  let v := s.tableWord (p + 3 + i)
  b32.mul gain (b32.add v (b32.mul t (b32.sub (s.tableWord (p + 3 + (i + 1) % n)) v)))

/-! ### A computation (R263) -/

/-- A context faults (R262). -/
def State.loopFault (s : State) (n code : Nat) : State :=
  let s := (s.lsetF n R.LOOPCTX_STAT_FAULT 1).lsetF n R.LOOPCTX_STAT_FCODE code
  let s := s.wr (ctxBit R.LOOP_FLT0_FLT n) 1
  let s := { s with loop := { s.loop with faults := s.loop.faults ++ [n] } }
  (s.loopEvent n 0xA 5 code).failProf n 3

/-- The PV is judged (R261): its cause (0 good) is shown, counted and reported; a PV good again re-initialises, and with
FAILACT MANUAL a bad one takes the context to MANUAL. -/
def State.judgePv (s : State) (n y : Nat) : State :=
  let cause := if s.qualBad n then 1 else if isNan y then 2 else if gtF (s.lval n R.LOOPCTX_PVLO) y then 3
    else if gtF y (s.lval n R.LOOPCTX_PVHI) then 4 else 0
  let s := if s.qualOpen n then s.used else s
  let was := s.lvalF n R.LOOPCTX_STAT_PVBAD = 1
  let s := (s.lsetF n R.LOOPCTX_STAT_PVBAD (if cause ≠ 0 then 1 else 0)).lsetF n R.LOOPCTX_STAT_BADCAUSE cause
  let s := s.wr (ctxBit R.LOOP_BAD0_BAD n).live (if cause ≠ 0 then 1 else 0)
  if cause ≠ 0 then
    let s := s.inc (R.LOOPCTX_COUNT_BAD.off (ctxOff n)).live
    let s := if was then s else s.loopEvent n 2 1 cause
    if 2 ≤ s.lvalF n R.LOOPCTX_STAT_MODE && s.lvalF n R.LOOPCTX_CTL_FAILACT = 2 then
      let u := s.lval n R.LOOPCTX_U
      ((s.lset n R.LOOPCTX_UMAN u).setReg (R.LOOPCTX_UMAN + ctxOff n) (BitVec.ofNat 32 u)).setLoopMode n 1
    else s
  else if was then (s.setLctx n { s.lctx n with reinit := true }).loopEvent n 3 1 0
  else s

/-- Ts in binary32 (R263). -/
def State.ts32 (s : State) (n : Nat) : Nat :=
  b32.div (b32.mul (b32.ofInt (s.lvalF n R.LOOPCTX_TIMING_PERIOD)) (b32.ofInt (s.rd R.EXEC_STROKELEN_LEN)))
    (b32.ofInt 1000000)

/-- The working set-point and profile velocity, in binary32, for a target (R263, R273); none is a fault (R262). -/
def State.runProfile (s : State) (n tgt : Nat) : Option (State × Nat × Nat × Nat) :=
  if s.lvalF n R.LOOPCTX_CTL_PROFEN = 0 then
    some (if s.lvalF n R.LOOPCTX_STAT_PROF ≠ 0 then s.showProf n 0 else s, tgt, 0, 0)
  else if !b32.finite tgt then none
  else
    let ts := s.ts64 (s.lvalF n R.LOOPCTX_TIMING_PERIOD)
    let c := s.lctx n
    let t := b32.conv b64 tgt
    let p := c.prof.limits ts (s.lval n R.LOOPCTX_VMAX) (s.lval n R.LOOPCTX_AMAX) (s.lval n R.LOOPCTX_JMAX)
    match p.step t ts with
    | none => none
    | some (p, acc) =>
      let s := s.setLctx n { c with prof := p }
      let s := s.showProf n (if p.moving then 1 else if same64 t p.w then 0 else 2)
      some (s, b64.conv b32 p.w, b64.conv b32 p.vp, b64.conv b32 acc)

/-- What the schedule gives at a computation: the state, the gains KP KI KD KFF, the old gains, and whether they
switched. -/
structure Sched where
  s : State
  kp : Nat
  ki : Nat
  kd : Nat
  kff : Nat
  old : Nat × Nat × Nat
  switched : Bool

/-- The gains at a computation (R265, R266). -/
def State.schedule (s : State) (n y w x ff : Nat) : Sched :=
  let c := s.lctx n
  let own := (s.lval n R.LOOPCTX_KP, s.lval n R.LOOPCTX_KD, s.lval n R.LOOPCTX_KFF)
  if s.lvalF n R.LOOPCTX_CTL_SCHEN = 0 then
    let s := s.setLctx n { c with sched := false, region := none, gains := own }
    ⟨s, own.1, s.lval n R.LOOPCTX_KI, own.2.1, own.2.2, c.gains, c.sched⟩
  else
    let p := s.lvalF n R.LOOPCTX_SCHED_PTR
    let sv := match s.lvalF n R.LOOPCTX_SCHED_SRC with
      | 0 => y | 1 => w | 2 => x | _ => ff
    let prev := if c.sched && c.ptr = p then c.region else none
    let r := s.nextRegion p sv (s.lval n R.LOOPCTX_SCHHYS) prev
    let g (i : Nat) := s.tableWord (p + 8 + 4 * r + i)
    let switched := prev ≠ some r
    let s := s.setLctx n { c with sched := true, ptr := p, region := some r, gains := (g 0, g 2, g 3) }
    let s := s.lsetF n R.LOOPCTX_STAT_REGION r
    let s := if switched then (s.inc (R.LOOPCTX_COUNT_REGCHG.off (ctxOff n)).live).loopEvent n 6 3 r else s
    ⟨s, g 0, g 1, g 2, g 3, if c.sched then c.gains else own, switched⟩

/-- The result of the law before limits: output, integrator before and after integration, derivative state, friction and
cogging term, error, whether the breakaway term was applied, whether the law was computed. -/
structure Law where
  un : Nat
  i : Nat
  ii : Nat
  df : Nat
  c : Nat
  e : Nat
  ki : Nat
  stic : Bool
  law : Bool

/-- The control law (R263). -/
def State.law (s : State) (n : Nat) (reinit : Bool) (sc : Sched) (ts y w x xv ff vp : Nat) : Law :=
  let add := b32.add
  let sub := b32.sub
  let mul := b32.mul
  let v := s.lval n
  let sg (a : Nat) : Nat := if s.lvalF n R.LOOPCTX_CTL_ACT = 0 then b32.canon a else b32.neg (b32.canon a)
  let e := sg (sub w y)
  let a := b32.div (v R.LOOPCTX_TF) (add (v R.LOOPCTX_TF) ts)
  let df := if reinit then 0
    else sub (mul a (v R.LOOPCTX_DF)) (b32.div (mul (sub (b32.ofInt 1) a) (sub y (v R.LOOPCTX_PV))) ts)
  let bw := sub (mul (v R.LOOPCTX_BETA) w) y
  let p := mul (sg sc.kp) bw
  let d := mul (sg sc.kd) df
  let f := add (mul sc.kff ff) (mul (v R.LOOPCTX_KV) vp)
  let fren := s.lvalF n R.LOOPCTX_CTL_FREN = 1
  let g := if s.lvalF n R.LOOPCTX_STAT_PROF = 1 then sg vp else e
  let dir : Int := if gtF g (v R.LOOPCTX_FDB) then 1 else if gtF (b32.neg (v R.LOOPCTX_FDB)) g then -1 else 0
  let stic := fren && dir ≠ 0 && gtF (v R.LOOPCTX_VSTIC) (b32.abs xv)
  let fr := if fren then s.friction (s.lvalF n R.LOOPCTX_FRPTR_PTR) x dir else 0
  let ks := v R.LOOPCTX_KSTIC
  let fr := if stic then add fr (if dir = 1 then ks else b32.neg ks) else fr
  let cg := if s.lvalF n R.LOOPCTX_CTL_CGEN = 1 then
    s.cogging (s.lvalF n R.LOOPCTX_CGPTR_PTR) x (v R.LOOPCTX_CGGAIN) else 0
  let c := add fr cg
  let i := if reinit then sub (v R.LOOPCTX_U) (add (add (add p d) f) c)
    else if sc.switched then
      let (kp0, kd0, kff0) := sc.old
      add (add (add (v R.LOOPCTX_I) (mul (sg (sub kp0 sc.kp)) bw)) (mul (sg (sub kd0 sc.kd)) df))
        (mul (sub kff0 sc.kff) ff)
    else v R.LOOPCTX_I
  let ii := add i (mul (mul sc.ki ts) e)
  ⟨add (add (add (add p ii) d) f) c, i, ii, df, c, e, sc.ki, stic, true⟩

/-- The output in MANUAL and while the PV is bad (R261, R263). -/
def State.noLaw (s : State) (n : Nat) (manual : Bool) : Law :=
  let un := if manual then s.lval n R.LOOPCTX_UMAN
    else if s.lvalF n R.LOOPCTX_CTL_FAILACT = 1 then s.lval n R.LOOPCTX_USAFE else s.lval n R.LOOPCTX_U
  ⟨un, s.lval n R.LOOPCTX_I, s.lval n R.LOOPCTX_I, 0, 0, 0, 0, false, false⟩

/-- SATHI and SATLO with their events (R282). -/
def State.showSat (s : State) (n : Nat) (hi lo : Bool) : State :=
  let was := s.lvalF n R.LOOPCTX_STAT_SATHI * 2 + s.lvalF n R.LOOPCTX_STAT_SATLO
  let now := hi.toNat * 2 + lo.toNat
  let s := (s.lsetF n R.LOOPCTX_STAT_SATHI hi.toNat).lsetF n R.LOOPCTX_STAT_SATLO lo.toNat
  let s := if now ≠ 0 then s.inc (R.LOOPCTX_SATCNT_COUNT.off (ctxOff n)).live else s
  if was = now then s else if now = 0 then s.loopEvent n 5 2 0 else s.loopEvent n 4 2 hi.toNat

/-- Limits, rate limit, anti-windup, and what the computation stores (R263); a value that is not finite faults, and then the output
and the integrator are held (R262). -/
def State.finishLoop (s : State) (n ts y x xv w vp acc : Nat) (l : Law) : State :=
  let v := s.lval n
  let u := b32.min (b32.max l.un (v R.LOOPCTX_UMIN)) (v R.LOOPCTX_UMAX)
  let rm := b32.mul (v R.LOOPCTX_RMAX) ts
  let u' := if gtF (v R.LOOPCTX_RMAX) 0 then
    b32.min (b32.max u (b32.sub (v R.LOOPCTX_U) rm)) (b32.add (v R.LOOPCTX_U) rm) else u
  let diff := b32.compare u' l.un ≠ some .eq
  let i := if !l.law then l.i
    else if s.lvalF n R.LOOPCTX_CTL_AWMODE = 0 then
      if diff && gtF (b32.mul (b32.mul l.ki l.e) (b32.sub l.un u')) 0 then l.i else l.ii
    else b32.add l.ii (b32.mul (b32.mul (v R.LOOPCTX_KT) ts) (b32.sub u' l.un))
  let fault := !b32.finite l.un || !b32.finite u' || !b32.finite i
  let (u', i) := if fault then (v R.LOOPCTX_U, v R.LOOPCTX_I) else (u', i)
  let limited := b32.compare u' u ≠ some .eq && !fault
  let s := [(R.LOOPCTX_LAST, s.extStroke % strokeModulus),
      (R.LOOPCTX_PV, y), (R.LOOPCTX_XPOS, x), (R.LOOPCTX_XVEL, xv), (R.LOOPCTX_W, w), (R.LOOPCTX_PVEL, vp),
      (R.LOOPCTX_PACC, acc), (R.LOOPCTX_U, u'), (R.LOOPCTX_UUNSAT, l.un), (R.LOOPCTX_I, i), (R.LOOPCTX_DF, l.df),
      (R.LOOPCTX_C, l.c)].foldl (fun s p => s.lset n p.1 p.2) s
  let s := s.showSat n (gtF l.un (v R.LOOPCTX_UMAX)) (gtF (v R.LOOPCTX_UMIN) l.un)
  let s := s.lsetF n R.LOOPCTX_STAT_RATELIM limited.toNat
  let s := s.lsetF n R.LOOPCTX_STAT_STIC l.stic.toNat
  let s := if s.lvalF n R.LOOPCTX_CTL_RETENTIVE = 1 then
      s.setBytes (0x027FF000 + 16 * n) (toBytes 4 w ++ toBytes 4 i ++ toBytes 4 u' ++
        toBytes 4 (if s.lvalF n R.LOOPCTX_STAT_PROF ≠ 0 then 1 else 0))
    else s
  if fault then s.loopFault n 1 else s

/-- One due computation of a context (R263). -/
def State.loopCompute (s : State) (n : Nat) : State :=
  if s.lvalF n R.LOOPCTX_STAT_FAULT = 1 then s.lset n R.LOOPCTX_LAST s.extStroke
  else
    let lin (src gain ofs : Nat) :=
      b32.add (b32.mul (s.srcValue n (s.lval n src)) (s.lval n gain)) (s.lval n ofs)
    let y := lin R.LOOPCTX_PVSRC R.LOOPCTX_PVGAIN R.LOOPCTX_PVOFS
    let x := lin R.LOOPCTX_POSSRC R.LOOPCTX_POSGAIN R.LOOPCTX_POSOFS
    let sp := lin R.LOOPCTX_SPSRC R.LOOPCTX_SPGAIN R.LOOPCTX_SPOFS
    let ff := s.srcValue n (s.lval n R.LOOPCTX_FFSRC)
    let ts := s.ts32 n
    let s := s.judgePv n y
    let mode := s.lvalF n R.LOOPCTX_STAT_MODE
    let bad := s.lvalF n R.LOOPCTX_STAT_PVBAD = 1
    let c := s.lctx n
    let reinit := c.reinit
    let c := if reinit then { c with reinit := false, prof := c.prof.rest (b32.conv b64 (s.lval n R.LOOPCTX_W)) } else c
    let xv := if reinit then 0 else b32.div (b32.sub x (s.lval n R.LOOPCTX_XPOS)) ts
    let track := mode = 1 && s.lvalF n R.LOOPCTX_CTL_SPTRACK = 1 && !bad
    let tgt := if track then y else if mode = 3 then sp else s.lval n R.LOOPCTX_SP
    let c := if track then { c with prof := c.prof.rest (b32.conv b64 y) } else c
    let s := s.setLctx n c
    match s.runProfile n tgt with
    | none =>
      ([(R.LOOPCTX_LAST, s.extStroke % strokeModulus), (R.LOOPCTX_PV, y), (R.LOOPCTX_XPOS, x), (R.LOOPCTX_XVEL, xv)].foldl
        (fun s p => s.lset n p.1 p.2) s).loopFault n 1
    | some (s, w, vp, acc) =>
      let sc := s.schedule n y w x ff
      let l := if mode = 1 || bad then sc.s.noLaw n (mode = 1) else sc.s.law n reinit sc ts y w x xv ff vp
      sc.s.finishLoop n ts y x xv w vp acc l

/-! ### The stroke's loops -/

/-- A context is due in the present stroke (R247). -/
def State.loopDue (s : State) (n : Nat) : Bool :=
  s.lvalF n R.LOOPCTX_STAT_MODE ≠ 0 &&
    s.extStroke % s.lvalF n R.LOOPCTX_TIMING_PERIOD = s.lvalF n R.LOOPCTX_TIMING_PHASE

/-- The words of loop SRAM that the computation of context n reads and that are not clean, by context, offset and what the decoder
finds, are noted (10 R371, R375); whether all of them were correctable. -/
def State.readLoop (s : State) (n : Nat) (ws : List (Nat × Nat × Ecc)) : Bool × State :=
  (ws.filter fun w => w.1 = n).foldl (fun r w => (r.1 && eccOk w.2.2, r.2.noteWord .loop 0 w.2.1 w.2.2)) (true, s)

/-- The loop engine at input complete (R256, R257, R277): the writes due take effect; in RUN and TRACK the due contexts are
computed in ascending number, those with an uncorrectable code error faulting instead (R262). -/
def State.runLoops (s : State) (ws : List (Nat × Nat × Ecc)) : State :=
  let s := s.applyLoopWrites
  let s := { s with loop := { s.loop with due := [], faults := [] }, exec := { s.exec with looping := true } }
  if (s.mode = 3 || s.mode = 4) && s.pgEn 0x20 then
    (List.range 256).foldl (fun s n =>
      if s.loopDue n && s.pgEn (0x30 + n / 16) then
        let s := { s with loop := { s.loop with due := s.loop.due ++ [n] } }
        let (ok, s) := s.readLoop n ws
        if !ok && s.lvalF n R.LOOPCTX_STAT_FAULT = 0 then s.loopFault n 2 else s.loopCompute n
      else s) s
  else s

/-- A context's output is written to its destination (R254). -/
def State.writeOutput (s : State) (n : Nat) : State :=
  let d := s.lval n R.LOOPCTX_OUTDST
  let ty := d / 2 ^ 28 % 4
  let o := b32.add (b32.mul (s.lval n R.LOOPCTX_U) (s.lval n R.LOOPCTX_OUTGAIN)) (s.lval n R.LOOPCTX_OUTOFS)
  let bytes := match ty with
    | 0 => toBytes 2 (unsigned 16 (b32.toInt .nearest (-32768) 32767 o).1)
    | 1 => toBytes 2 (b32.toInt .nearest 0 65535 o).1.toNat
    | 2 => toBytes 4 (unsigned 32 (b32.toInt .nearest (-2147483648) 2147483647 o).1)
    | _ => toBytes 4 o
  let off := d % 2 ^ 20
  let cells := (List.range bytes.length).zip bytes
  match d / 2 ^ 30 with
  | 1 => { s with exec := { s.exec with qWork := overlay (fun _ => 0) s.exec.qWork (cells.map fun c => (off + c.1, c.2)) } }
  | 2 => { s with exec := { s.exec with engineWrites := s.exec.engineWrites ++ cells.map fun c => (mBase + off + c.1, c.2) } }
  | _ => s

/-- An address of the LOOPCTX pages holds an RO register. -/
def ctxRo (a : Nat) : Bool := 0x30000 ≤ a && a < 0x40000 && 0x100 ≤ a % 0x1000 && 0xB0 ≤ (a % 0x1000 - 0x100) % 0xF0

/-- The RO registers show what the engine has computed (R258). -/
def State.showLoops (s : State) : State :=
  let live := s.regs.filterMap fun e =>
    if 0x6000000 ≤ e.1 && ctxRo (e.1 - 0x6000000) then some (e.1 - 0x6000000, e.2) else none
  let s := { s with regs := s.regs.filter fun e => !ctxRo e.1 }
  live.foldl (fun s e => s.setReg e.1 e.2) s

/-- Loop completion (R248, R254, R279): outputs to their destinations, registers shown, the profiles that a restart found in
progress reported. The engine's time is a free value below its bound (log entry 11). -/
def State.loopsComplete (s : State) : State :=
  if !s.exec.looping then s
  else
    let s := { s with exec := { s.exec with looping := false } }
    let s := s.showLoops.showLoopPage
    let s : State := s.loop.due.foldl State.writeOutput s
    let lane := (List.range 4).foldl (fun m l => max m (s.loop.due.filter fun n => n % 4 = l).length) 0
    let t := s.free.toNat % (loopPs lane / 8000 + 1)
    let s := (s.used.wr R.LOOP_ETIME_LAST t).wr R.LOOP_DUE_COUNT s.loop.due.length
    let s := s.wr R.LOOP_ETIME_MAX (max (s.rd R.LOOP_ETIME_MAX) t)
    if s.mode = 3 then
      (s.loop.ctx.filter fun p => p.2.failStart).foldl (fun s p =>
        let n := p.1
        let s := (s.setLctx n { s.lctx n with failStart := false }).setBytes (retainFlags n)
          (toBytes 4 (if s.lvalF n R.LOOPCTX_STAT_PROF ≠ 0 then 1 else 0))
        s.loopEvent n 9 5 1) s
    else s

end Sys2Proof.Machine
end

