-- ==== Sys2Proof/Machine/Radio.lean ====
section
/-!
DEFINITION. Machine/Radio.lean: the radio port: its store-and-forward queue, keying, receive records (11 R414 to R418).
-/

namespace Sys2Proof.Machine

/-- The radio port works and may key the modem: enabled, in a unit that is not a standby (R418). -/
def State.radioOn (s : State) : Bool := s.pgEn 0x60 && s.owner && 2 ≤ s.mode && !s.sys.latch

/-- RADIO_STAT.LINES: TX busy 3, RTS 2, CTS 1, DCD 0. -/
def lineBit (n : Nat) : Fld := ⟨R.RADIO_STAT, 16 + n, 16 + n⟩

/-- RADIO_STAT.QUEUED follows the queue; QUEUE_HIGH where it reaches HIGH, QUEUE_LOW where it falls to LOW. -/
def State.radioCount (s : State) : State :=
  let old := s.rd R.RADIO_STAT_QUEUED
  let n := s.radio.items.length
  let s := s.wr R.RADIO_STAT_QUEUED n
  let hi := s.rd R.RADIO_QLEVEL_HIGH
  let lo := s.rd R.RADIO_QLEVEL_LOW
  if old < hi && hi ≤ n then s.raise Ev.radioQueueHigh (n % 4096)
  else if lo < old && n ≤ lo then s.raise Ev.radioQueueLow (n % 4096) else s

/-- A change of one item. -/
def State.radioSet (s : State) (id : Nat) (f : RadioItem → RadioItem) : State :=
  { s with radio := { s.radio with items := s.radio.items.map fun x => if x.id = id then f x else x } }

/-- The port's step changes. -/
def State.radioStep (s : State) (p : RadioStep) : State := { s with radio := { s.radio with step := p } }

/-- RTS is asserted or released; the modem's CTS does not outlast it (log entry 29). -/
def State.rts (s : State) (b : Bool) : State :=
  let s := (s.wrb (lineBit 2) b).out (.rts b)
  if b then s else s.wr (lineBit 1) 0

/-- An item reaches its outcome (R416). -/
def State.radioEnd (s : State) (i : RadioItem) (outcome reason : Nat) : State :=
  let s := { s with radio := { s.radio with items := s.radio.items.filter (fun x => x.id ≠ i.id),
                                            results := ((⟨i.id, outcome, reason, 0⟩ : ItemRes) :: s.radio.results).take 4096 } }
  let s := (((s.dramRead (.item .radio i.id)).ledgerDrop .radio 0 i.id).mirrorForget .radio i.id).mirror .radio i.id (.ended outcome reason)
  let s := s.radioCount
  if outcome = 1 then s.netExercised.raise Ev.radioItemCompleted i.id
  else s.raise Ev.radioItemFailed (outcome * 0x10000000 + reason * 0x10000 + i.id)

/-- An item of the queue. -/
def State.radioItem (s : State) (id : Nat) : Option RadioItem := s.radio.items.find? fun i => i.id = id

/-- The next item: the highest priority, then submission order (R415). -/
def State.radioNext (s : State) : Option RadioItem :=
  (s.radio.items.filter fun i => !i.begun).foldl (fun b i => match b with
    | some x => if x.prio < i.prio then some i else some x
    | none => some i) none

/-- Steps 1 and 2 of R415 for an item: it waits while DCD is asserted, else RTS is asserted. -/
def State.radioKey (s : State) (id : Nat) : State :=
  if s.on R.RADIO_CFG_DCDDEFER && s.on (lineBit 0) then s.radioStep (.defer id)
  else (s.rts true).radioStep (.keyed id false)

/-- An idle port takes the next item. -/
def State.radioServe (s : State) : State :=
  if !s.radioOn || s.mode = 7 || decide (s.radio.step ≠ .idle) then s
  else match s.radioNext with
  | some i => s.radioKey i.id
  | none => s

/-- RTS falls without a transmission, and the port serves the queue again. -/
def State.radioUnkey (s : State) : State := ((s.rts false).radioStep .idle).radioServe

/-- The first start bit (R415 step 4): the key-up delay has ended, CTS is there where RTSCTS asks for it, and the standby has
acknowledged STARTED. An item whose payload reads uncorrectable from DRAM fails (10 R368), with a free reason (log entry 191). -/
def State.radioBegin (s : State) : State :=
  match s.radio.step with
  | .keyed id true =>
    match s.radioItem id with
    | some i =>
      if s.on R.RADIO_CFG_RTSCTS && !s.on (lineBit 1) then s
      else if s.memory.dramBad.contains (.item .radio id) then (s.used.radioEnd i 2 (s.free.toNat % 256)).radioUnkey
      else
        let (ok, s) := s.startGate .radio id
        if !ok then s
        else
          let s := (s.radioSet id fun x => { x with begun := true }).ledgerStart .radio 0 id
          ((s.wr (lineBit 3) 1).radioStep (.sending id)).out (.radioSend i.data)
    | none => s
  | _ => s

/-- An item that the port has not begun leaves it. -/
def State.radioLeave (s : State) (id : Nat) : State :=
  match s.radio.step with
  | .defer x => if x = id then (s.radioStep .idle).radioServe else s
  | .keyed x _ => if x = id then s.radioUnkey else s
  | _ => s

/-- Transmission is over: TX busy clears and RTS is held for TAIL. -/
def State.radioTail (s : State) : State := (s.wr (lineBit 3) 0).radioStep .tail

/-- DCD_CHANGE. -/
def State.dcdChange (s : State) (level : Bool) : State :=
  if !s.pgEn 0x60 || s.on (lineBit 0) = level then s
  else
    let s := (s.wrb (lineBit 0) level).raise Ev.radioDcdChange level.toNat
    match s.radio.step with
    | .defer id => if level then s else s.radioKey id
    | _ => s

/-- CTS: asserted during a wait. -/
def State.ctsOn (s : State) : State :=
  match s.radio.step with
  | .keyed _ _ => if s.radioOn then (s.wr (lineBit 1) 1).radioBegin else s
  | _ => s

/-- CTS_TIMEOUT (R415 step 3): RTS is released and the item tried again, or failed after CTSFAIL timeouts. -/
def State.ctsTimeout (s : State) : State :=
  match s.radio.step with
  | .keyed id _ =>
    match s.radioItem id with
    | some i =>
      if !s.radioOn || !s.on R.RADIO_CFG_RTSCTS || s.on (lineBit 1) then s
      else
        let s := (s.rts false).raise Ev.radioCtsTimeout id
        if s.rd R.RADIO_CTSWAIT_CTSFAIL ≤ i.fails + 1 then ((s.radioEnd i 2 3).radioStep .idle).radioServe
        else (s.radioSet id fun x => { x with fails := x.fails + 1 }).radioKey id
    | none => s
  | _ => s

/-- KEYUP: the key-up delay ends. -/
def State.keyup (s : State) : State :=
  match s.radio.step with
  | .keyed id false => if s.radioOn then (s.radioStep (.keyed id true)).radioBegin else s
  | _ => s

/-- ITEM_COMPLETED: the last stop bit is sent; the item completes, or awaits its acknowledgement. -/
def State.radioSent (s : State) : State :=
  match s.radio.step with
  | .sending id =>
    if !s.radioOn then s
    else match s.radioItem id with
    | some i =>
      if i.ackReq then
        ((s.radioSet id fun x => { x with waitAck := true }).mirror .radio id (.session [1])).radioTail
      else (s.radioEnd i 1 0).radioTail
    | none => s.radioTail
  | _ => s

/-- TAIL: RTS is released. -/
def State.radioTailEnd (s : State) : State :=
  match s.radio.step with
  | .tail => s.radioUnkey
  | _ => s

/-- NO_ACK: ACKTMO expires. -/
def State.radioNoAck (s : State) (id : Nat) : State :=
  match s.radioItem id with
  | some i => if s.pgEn 0x60 && i.waitAck then s.radioEnd i 3 2 else s
  | none => s

/-- RADIO_EXPIRED (R416): transmission of a begun item stops after the current character. -/
def State.radioExpired (s : State) (id : Nat) : State :=
  match s.radioItem id with
  | some i =>
    if !s.pgEn 0x60 then s
    else if !i.begun then (s.radioEnd i 2 1).radioLeave id
    else
      let s := s.radioEnd i 3 1
      if s.radio.step = .sending id then (s.out .radioCut).radioTail else s
  | none => s

/-- Every item ends and the port lets go of the line (R416). -/
def State.radioCloseAll (s : State) (reason : Nat) : State :=
  let s := s.radio.items.foldl (fun s i => s.radioEnd i (if i.begun then 3 else 2) reason) s
  match s.radio.step with
  | .idle => s
  | .defer _ => s.radioStep .idle
  | .sending _ => ((s.out .radioCut).wr (lineBit 3) 0 |>.rts false).radioStep .idle
  | _ => (s.rts false).radioStep .idle

/-! ### Reception (R417) -/

/-- The record in progress closes: queued in the 64 KiB ring, or dropped and counted. -/
def State.rxClose (s : State) : State :=
  match s.radio.inProgress with
  | none => s
  | some x =>
    let s := { s with radio := { s.radio with inProgress := none } }
    let used := (s.radio.rx.map fun y => y.data.length).sum
    if 65536 < used + x.data.length then s.inc R.RADIO_CNT_DROP_COUNT
    else { s with radio := { s.radio with rx := s.radio.rx ++ [x] } }.raise Ev.radioRxRecord (x.data.length % 2048)

/-- RX_CHARACTER: a character with its errors, and the stamp of its start bit; it closes a record at 2048 bytes. -/
def State.rxChar (s : State) (c : Byte) (overrun parity framing : Bool) (start : DWord) : State :=
  if !s.radioOn then s
  else
    let flags := overrun.toNat * 4 + parity.toNat * 2 + framing.toNat
    let x := s.radio.inProgress.getD ⟨start, 0, []⟩
    let y : RxRec := { x with status := x.status ||| flags, data := x.data ++ [c] }
    let s := { s with radio := { s.radio with inProgress := some y,
                                              errors := s.radio.errors + (if flags = 0 then 0 else 1) } }
    let s := if flags = 0 then s else s.raise Ev.radioRxError flags
    if 2048 ≤ y.data.length then s.rxClose else s

/-- RADIO_RXINFO: opens the next record and returns its status and length, or 0; a record that reads uncorrectable from DRAM is
dropped and counted (10 R368). -/
def State.radioRxinfo (s : State) : Word × State :=
  let put (v : Nat) (s : State) : Word × State := (BitVec.ofNat 32 v, s.setReg R.RADIO_RXINFO (BitVec.ofNat 32 v))
  match s.radio.rx with
  | [] => put 0 { s with radio := { s.radio with opened := [] } }
  | x :: t =>
    if s.memory.dramBad.contains .radioRecord then
      put 0 (({ s with radio := { s.radio with rx := t, opened := [] } }.dramRead .radioRecord).inc R.RADIO_CNT_DROP_COUNT)
    else put (x.status * 0x10000 + x.data.length)
      ({ s with radio := { s.radio with rx := t, opened := x.data } }.wr64 R.RADIO_RXSTAMPLO x.stamp.toNat)

/-- RADIO_RXDATA: the next 4 bytes of the opened record, which the read consumes. -/
def State.radioRxdata (s : State) : Word × State :=
  let (w, s) := s.nextWord s.radio.opened
  (w, { s with radio := { s.radio with opened := s.radio.opened.drop 4 } })

/-! ### The commands and the page -/

/-- RADIO_TXSTAT.LASTRSN. -/
def State.radioReason (s : State) (r : Req) (n : Nat) : State := s.wr (s.bf r R.RADIO_TXSTAT_LASTRSN) n

/-- RADIO_CMD SUBMIT (R398, R399, R415). -/
def State.radioSubmit (s : State) (r : Req) : State :=
  let b := s.bank r
  let len := s.rd (s.bf r R.RADIO_TXCFG_LEN)
  let data := SMap.get (fun _ => []) s.radio.wdata b
  if !s.owner then s.notActive r R.RADIO_TXSTAT_LASTRSN
  else if len = 0 || data.length < len then s.radioReason r 5
  else if 4096 ≤ s.radio.items.length || !s.ledgerFree .radio then s.radioReason r 4
  else
    let i : RadioItem := { id := s.radio.nextId, prio := s.rd (s.bf r R.RADIO_TXCFG_PRIO),
                           ackReq := s.on (s.bf r R.RADIO_TXCFG_ACKREQ), data := data.take len }
    let s := (s.radioReason r 0).wr (s.bf r R.RADIO_TXSTAT_ITEMID) i.id
    let s := { s with radio := { s.radio with items := s.radio.items ++ [i], nextId := (i.id + 1) % 65536,
                                              wdata := SMap.set (fun _ => []) b [] s.radio.wdata } }
    let words := [i.prio, i.ackReq.toNat, s.rd (s.bf r R.RADIO_TXTMO_ACKMS), s.rd (s.bf r R.RADIO_TXTMO_LIFE)]
    (((s.ledgerAdd .radio 0 i.id).mirror .radio i.id (.accepted words i.data)).radioCount).radioServe

/-- RADIO_CMD ACK (R416): for an item that awaits its acknowledgement. -/
def State.radioAck (s : State) (r : Req) : State :=
  if !s.owner then s.notActive r R.RADIO_TXSTAT_LASTRSN
  else match s.radioItem (s.rd (s.bf r R.RADIO_ITSEL_ITEMID)) with
  | some i => if i.waitAck then (s.radioReason r 0).radioEnd i 1 0 else s.radioReason r 0x0C
  | none => s.radioReason r 0x0C

/-- RADIO_CMD CANCEL (R416): of an item not begun. -/
def State.radioCancel (s : State) (r : Req) : State :=
  if !s.owner then s.notActive r R.RADIO_TXSTAT_LASTRSN
  else match s.radioItem (s.rd (s.bf r R.RADIO_ITSEL_ITEMID)) with
  | some i => if i.begun then s.radioReason r 0x0C else ((s.radioReason r 0).radioEnd i 2 4).radioLeave i.id
  | none => s.radioReason r 0x0C

/-- A read of RADIO_ITSTAT (R398). -/
def State.radioItstat (s : State) (r : Req) : Word :=
  let id := s.rd (s.bf r R.RADIO_ITSEL_ITEMID)
  let (o, n, _) := itemStatus s.radio.nextId id ((s.radioItem id).map fun _ => 0) s.radio.results
  BitVec.ofNat 32 (o * 0x10000000 + n * 0x10000)

/-- A write of the RADIO page. -/
def State.radioWrite (s : State) (r : Req) (a : Nat) (v : Word) : WRes :=
  let b := s.bank r
  let begun := s.radio.items.any fun i => i.begun
  let f (hi lo : Nat) := bitsOf v hi lo
  let put : WRes := accept (s.plainWrite a v)
  if a = R.RADIO_ITSEL then accept (s.setReg (s.bk r a) (v &&& 0xFFFF))
  else if a = R.RADIO_CMD && (f 31 16 ≠ 0x4AD0 || 3 < f 7 0 || f 7 0 = 0) then accept s
  else if readOnly a && a ≠ R.RADIO_CMD && a ≠ R.RADIO_TXDATA then accept s
  else if !s.owner then accept (s.notActive r R.RADIO_TXSTAT_LASTRSN)
  else if a = R.RADIO_CMD then
    match f 7 0 with
    | 1 => accept (s.radioSubmit r)
    | 2 => accept (s.radioAck r)
    | 3 => accept (s.radioCancel r)
    | _ => accept s
  else if a = R.RADIO_CFG then if f 7 6 = 3 then refuse .range s else if begun then refuse .mode s else put
  else if a = R.RADIO_BAUD then
    if f 19 0 < 300 || 1000000 < f 19 0 then refuse .range s else if begun then refuse .mode s else put
  else if a = R.RADIO_KEY then if 1000 < f 31 16 || 1000 < f 15 0 then refuse .range s else put
  else if a = R.RADIO_CTSWAIT then if f 19 16 = 0 || f 15 0 = 0 then refuse .range s else put
  else if a = R.RADIO_GAP then if f 7 0 < 2 then refuse .range s else put
  else if a = R.RADIO_TXCFG then
    if f 11 0 = 0 || 2048 < f 11 0 then refuse .range s
    else accept { s.setReg (s.bk r a) (v &&& 0xE0000FFF) with
      radio := { s.radio with wdata := SMap.set (fun _ => []) b [] s.radio.wdata } }
  else if a = R.RADIO_TXTMO then if f 31 16 = 0 || f 15 0 = 0 then refuse .range s else accept (s.setReg (s.bk r a) v)
  else if a = R.RADIO_TXDATA then
    let d := SMap.get (fun _ => []) s.radio.wdata b
    if s.rd (s.bf r R.RADIO_TXCFG_LEN) ≤ d.length then refuse .range s
    else accept { s with radio := { s.radio with wdata := SMap.set (fun _ => []) b (d ++ toBytes 4 v.toNat) s.radio.wdata } }
  else put

/-- A mirrored item at takeover (R418, 09 R362): a begun item is possibly delivered, for a reason the spec does not name; one
that awaits its acknowledgement keeps waiting; one not begun is carried. -/
def State.radioTake (s : State) (m : MirItem) : State :=
  let i : RadioItem := { id := m.id, prio := m.words.getD 0 0, ackReq := m.words.getD 1 0 = 1, data := m.data,
                         begun := m.started, waitAck := m.words.getD 4 0 = 1 }
  let s := { s with radio := { s.radio with items := s.radio.items ++ [i], nextId := (m.id + 1) % 65536 } }
  match m.ended with
  | some (o, r) => s.radioEnd i o r
  | none => if m.started && !i.waitAck then s.used.radioEnd i 3 (s.free.toNat % 256) else s.radioCount

/-- TAKEOVER reports how many items are carried and possibly delivered, and the queue is served. -/
def State.radioResume (s : State) (carried possibly : Nat) : State :=
  (s.raise Ev.radioTakeover (min carried 4095 * 0x10000 + min possibly 4095)).radioServe

/-! ### Meanings -/

def execDcdChange (level : Bool) (s : State) : Out := .next (s.dcdChange level)
def execCts (s : State) : Out := .next s.ctsOn
def execCtsTimeout (s : State) : Out := .next s.ctsTimeout
def execKeyup (s : State) : Out := .next s.keyup
def execItemCompleted (s : State) : Out := .next s.radioSent
def execTail (s : State) : Out := .next s.radioTailEnd
def execNoAck (id : BitVec 16) (s : State) : Out := .next (s.radioNoAck id.toNat)
def execRadioExpired (id : BitVec 16) (s : State) : Out := .next (s.radioExpired id.toNat)

end Sys2Proof.Machine
end

