-- ==== Sys2Proof/Machine/Pair.lean ====
section
/-!
DEFINITION. Machine/Pair.lean: the pair link, in-step execution, claims and epochs, the Umpire, swaps and resynchronisation (09).
-/

namespace Sys2Proof.Machine

/-! ### A SYS command's end (02 "Commands") -/

/-- The pending command ends with a reason of R91: SYS_CMDSTAT, CMD_DONE. -/
def State.cmdEnd (s : State) (reason : Nat) : State :=
  if s.on R.SYS_CMDSTAT_PENDING then
    let s := (s.wr R.SYS_CMDSTAT_PENDING 0).wr R.SYS_CMDSTAT_REASON reason
    s.raise Ev.sysCmdDone (reason * 0x100 + s.rd R.SYS_CMDSTAT_CODE)
  else s

/-- A command of the code given is pending. -/
def State.cmdPending (s : State) (code : Nat) : Bool := s.on R.SYS_CMDSTAT_PENDING && s.rd R.SYS_CMDSTAT_CODE = code

/-! ### States and epochs -/

/-- The unit bit of a claim: 1 for Stern. -/
def State.unitBit (s : State) : Nat := if s.rd R.SYS_STRAP_ROLE = 2 then 1 else 0

/-- The address of the other unit. -/
def State.peerAddr (s : State) : Nat := if s.unitBit = 1 then 0xFB else 0xFC

/-- The unit's part in the pair changes: ROLE_CHANGE (R327). -/
def State.setPair (s : State) (n : Nat) : State :=
  let old := s.pairState
  if old = n then s else (s.wr R.PAIR_STAT_STATE n).raise Ev.pairRoleChange (old * 16 + n)

/-- The epoch a unit takes (R340). -/
def State.epoch (s : State) : Nat :=
  max (max (s.rd R.CLAIM_EPOCH_EPOCH) (s.rd R.FBC_EPOCH_EH)) (max s.pair.umpEpoch s.pair.linkEpoch)

/-- An active unit demotes itself on an epoch (R341): its O-frames carry that epoch from now on; one whose swap has been requested
enters TRACK instead. -/
def State.demote (s : State) (e cause : Nat) : State :=
  if s.pairState ≠ 1 || s.pair.swap = 4 || s.pair.swapAt.isSome then s
  else
    let s := { s with pair := { s.pair with higher := max s.pair.higher e } }
    if s.pair.demoted then s
    else if 2 ≤ s.pair.swap then { s with pair := { s.pair with swap := 4, demoted := true } }
    else
      let s := { s with pair := { s.pair with demoted := true } }
      (s.raise Ev.pairDemoted cause).inc R.CLAIM_COUNT_DEMOTIONS

/-- A higher epoch heard. -/
def State.heardEpoch (s : State) (e cause : Nat) : State := if s.rd R.CLAIM_EPOCH_EPOCH < e then s.demote e cause else s

/-- LASTRSN of the PAIR page. -/
def State.pairReason (s : State) (r : Nat) : State := s.wr R.PAIR_STAT_LASTRSN r

/-- A divergence is found (R336): of the causes for one stroke the first in the order 3, 4, 2, 5, 1 is kept; a later stroke's changes
nothing. -/
def State.diverge (s : State) (stroke cause : Nat) : State :=
  let rank (c : Nat) : Nat := match c with | 3 => 0 | 4 => 1 | 2 => 2 | 5 => 3 | _ => 4
  match s.pair.div with
  | some (n, c) => if n = stroke && rank cause < rank c then { s with pair := { s.pair with div := some (stroke, cause) } } else s
  | none => { s with pair := { s.pair with div := some (stroke, cause) } }

/-! ### The link (R329 to R331) -/

/-- A lane carries traffic. -/
def State.laneServes (s : State) (l : Nat) : Bool := (s.rd R.PAIR_LANES_INSERVICE).testBit l

/-- A copy in progress ends without success (R360). -/
def State.resyncFail (s : State) (reason : Nat) : State :=
  match s.pair.copyStart with
  | none => s
  | some _ =>
    let s := { s with pair := { s.pair with copyStart := none, join := none } }
    let s := (s.wr R.SYS_STAT_RESYNC 0).pairReason reason
    (if s.mode = 2 then s.setPair 6 else s).raise Ev.pairResyncFailed reason

/-- The active unit's items as the other unit's mirror now has them. -/
def State.mirrorItems (s : State) : List MirItem :=
  let net := s.net.items.map fun i => (⟨.net i.sess, i.id, [], i.data, i.begun, none⟩ : MirItem)
  let radio := s.radio.items.map fun i =>
    (⟨.radio, i.id, [i.prio, i.ackReq.toNat, 0, 0, i.waitAck.toNat], i.data, i.begun, none⟩ : MirItem)
  let can := [0, 1].flatMap fun c => (s.canSt c).items.map fun i =>
    (⟨.can c, i.id, [i.txid.toNat, i.cfg.toNat], i.data, i.begun, none⟩ : MirItem)
  let acq := s.fbc.acq.map fun q => (⟨.acq, q.id, [q.dest, q.service, q.index], q.data, q.sent, none⟩ : MirItem)
  net ++ radio ++ can ++ acq

/-- Every item that is open is mirrored to a unit that has come into STANDBY (R361; log entry 189). -/
def State.mirrorAll (s : State) : State :=
  s.mirrorItems.foldl (fun s m =>
    let s := s.mirror m.kind m.id (.accepted m.words m.data)
    if m.started then s.mirror m.kind m.id .started else s) s

/-- The output digests of the strokes that the other unit may hold provisional are sent again (R344), each under its own stroke. -/
def State.resendDigests (s : State) : State :=
  let l := s.pair.sentDigs
  let s := l.foldl (fun s d => s.out (.outputDigest { s.pairHdr with stroke := d.1 } d.2)) s
  { s with pair := { s.pair with sentDigs := [] } }

/-- Nothing waits for an acknowledgement of a unit that is not in STANDBY (R361). -/
def State.releaseWaits (s : State) : State :=
  let ws := s.pair.waits
  let s := { s with pair := { s.pair with waits := [], acked := [] } }
  ws.foldl (fun s w =>
    match w.1 with
    | .net n => s.netPush n
    | .radio => s.radioBegin
    | .can c => s.canServe c
    | .acq => s) s

/-- The other unit's part as reported: NO_STANDBY and STANDBY_BACK in the active unit (R54). A host write waits for a unit in
STANDBY alone (R338). -/
def State.setPeer (s : State) (p : Nat) : State :=
  let old := s.rd R.PAIR_STAT_PEER
  let s := s.wr R.PAIR_STAT_PEER p
  let s := { s with pair := { s.pair with
    peerSince := if p = 2 then (if old = 2 then s.pair.peerSince else some s.extStroke) else none,
    hostWait := if p = 2 then s.pair.hostWait else none } }
  let s := if old = 1 && p ≠ 1 then s.resyncFail 4 else s
  if s.pairState ≠ 1 then s
  else if old = 2 && p ≠ 2 then ((if s.edit.peerNeeded then s.editAlone else s).raise Ev.pairNoStandby p).releaseWaits
  else if old ≠ 2 && p = 2 then (s.raise Ev.pairStandbyBack 0).mirrorAll.resendDigests
  else s

/-- A swap under way ends without success (R355, R356): SWAP_REFUSED, and the command with it. -/
def State.swapFail (s : State) (rsn reason : Nat) : State :=
  let s := { (s.wr R.PAIR_STAT_SWAPPEND 0).pairReason rsn with pair := { s.pair with swap := 0, swapAt := none } }
  let s := s.raise Ev.pairSwapRefused rsn
  if s.cmdPending 0x0C then s.cmdEnd reason else s

/-- The link is found down (R331). -/
def State.linkDown (s : State) : State :=
  if !s.on R.PAIR_STAT_LINK then s
  else ((s.wr R.PAIR_STAT_LINK 0).raise Ev.pairLinkDown s.stroke).resyncFail 2 |>.setPeer 0

/-- The link is judged at a stroke start: down when the ended stroke brought no message. -/
def State.linkStroke (s : State) : State :=
  if !s.paired then s
  else
    let s := if s.pair.heard then s else s.linkDown
    { s with pair := { s.pair with heard := false, resends := [], lagged := false } }

/-- A valid message arrives: the link is up, and its epoch is heard (R331, R340, R341). Answers whether the unit takes part. -/
def State.pairRx (s : State) (h : PairHdr) : Bool × State :=
  if !s.paired || !s.pgEn 0x44 || s.rd R.PAIR_LANES_INSERVICE = 0 || s.mode = 0 || s.mode = 7 || s.sys.latch then (false, s)
  else
    let s := { s.wr R.PAIR_STAT_LINK 1 with pair := { s.pair with heard := true, linkEpoch := h.epoch } }
    (true, s.heardEpoch h.epoch (h.epoch * 4))

/-- A lane fails (R330): with LANESPARE set, PL2 replaces a failed traffic lane. -/
def State.laneReplace (s : State) (l : Nat) : State :=
  let s := (s.wr R.PAIR_LANES_SPAREFOR (l + 1)).wr R.PAIR_LANES_INSERVICE
    ((s.rd R.PAIR_LANES_INSERVICE ||| 4) &&& (7 - 2 ^ l))
  (s.substitution 5 l).raise Ev.pairLaneSpared l

/-- With LANESPARE set, PL2 comes into service in place of the first failed traffic lane (R330). -/
def State.laneSpare (s : State) : State :=
  let failed := s.rd R.PAIR_LANES_FAILED
  if !s.on R.PAIR_CFG_LANESPARE || s.laneServes 2 || failed.testBit 2 then s
  else if failed.testBit 0 then s.laneReplace 0
  else if failed.testBit 1 then s.laneReplace 1
  else s

/-- LANE_FAIL. -/
def State.laneFail (s : State) (l : Nat) : State :=
  let failed := s.rd R.PAIR_LANES_FAILED
  if !s.paired || failed.testBit l then s
  else
    let s := (s.wr R.PAIR_LANES_FAILED (failed ||| 2 ^ l)).raise Ev.pairLaneFail l
    let s := s.wr R.PAIR_LANES_INSERVICE (s.rd R.PAIR_LANES_INSERVICE &&& (7 - 2 ^ l))
    let s := if l = 2 then s.wr R.PAIR_LANES_SPAREFOR 0
      else if s.on R.PAIR_CFG_LANESPARE && !s.laneServes 2 && !failed.testBit 2 then s.laneReplace l
      else s
    if s.rd R.PAIR_LANES_INSERVICE = 0 then s.linkDown else s

/-- A failed lane returns after 64 clean strokes; PL2 then returns to spare. -/
def State.laneRestored (s : State) (l : Nat) : State :=
  let failed := s.rd R.PAIR_LANES_FAILED
  if !failed.testBit l then s
  else
    let s := (s.wr R.PAIR_LANES_FAILED (failed &&& (7 - 2 ^ l))).raise Ev.pairLaneRestored l
    if l = 2 then s.laneSpare
    else if s.rd R.PAIR_LANES_SPAREFOR = l + 1 then
      let s := (s.wr R.PAIR_LANES_SPAREFOR 0).wr R.PAIR_LANES_INSERVICE
        ((s.rd R.PAIR_LANES_INSERVICE ||| 2 ^ l) &&& 3)
      (s.spareReturned 5).laneSpare
    else s.wr R.PAIR_LANES_INSERVICE (s.rd R.PAIR_LANES_INSERVICE ||| 2 ^ l)

/-- A message is resent on the other lane; 16 in a stroke fail the lane. -/
def State.messageResend (s : State) (l : Nat) : State :=
  if !s.paired then s
  else
    let n := SMap.get (fun _ => 0) s.pair.resends l + 1
    let s := { s.inc R.PAIR_CNT_RETRY_COUNT with pair := { s.pair with resends := SMap.set (fun _ => 0) l n s.pair.resends } }
    if n = 16 then s.laneFail l else s

/-! ### Heartbeats -/

/-- A configuration that must agree in the two units (R354, R359, 17 R539). -/
def State.pairConfig (s : State) : List Word :=
  [s.reg R.PAIR_CFG, s.reg R.CLAIM_CFG, s.reg R.SEC_PROFSEL,
   BitVec.ofNat 32 (((s.upd.regions.find? fun p => p.1 = 5).map fun p =>
     if p.2.activeB then p.2.b.version else p.2.a.version).getD 0)] ++ fbcStaged.map fun a => s.reg (a + liveBank)

/-- The unit's part as its heartbeat codes it. An ORPHANED unit is not in STANDBY (R338) and no code is its own: it reports 0 (DESIGN
CHOICE, log entry 186). -/
def State.peerCode (s : State) : Nat :=
  match s.pairState with | 1 => 1 | 2 => 2 | 4 => 3 | 5 => 4 | 6 => 5 | _ => 0

/-- The time-of-day registers a heartbeat carries (11 R413). -/
def todRegs : List Nat := [R.NET_TODOFSLO, R.NET_TODOFSHI, R.NET_TODRATE]

/-- A heartbeat: at each stroke start, and after 10 us without other traffic (R329). -/
def State.heartbeat (s : State) : State :=
  if s.paired && 2 ≤ s.mode && s.mode ≠ 7 then
    s.out (.heartbeat s.pairHdr ⟨s.peerCode, s.on R.PAIR_STAT_INTENT, s.pairConfig,
      todRegs.map (fun a => s.reg (a + liveBank)) ++ [BitVec.ofNat 32 (s.rd R.NET_TODSTAT_STATE)],
      (s.prog.map Program.signature).getD []⟩)
  else s

/-- HEARTBEAT received; a difference in NOUMPIRE, found when the link comes up, shows as CFG_MISMATCH (R354). -/
def State.heartbeatRx (s : State) (h : PairHdr) (i : HbInfo) : State :=
  let up := s.on R.PAIR_STAT_LINK
  let (ok, s) := s.pairRx h
  if !ok then s
  else
    let s := { s with pair := { s.pair with peerIntent := i.intent, peerConfig := i.config, peerSig := i.sig } }
    let s := if !up && (i.config.getD 0 0).getLsbD 0 ≠ s.on R.PAIR_CFG_NOUMPIRE then s.pairReason 3 else s
    let s := s.setPeer i.peer
    if s.mode = 4 then
      let s := (todRegs.zip i.tod).foldl (fun s p => s.setReg (p.1 + liveBank) p.2) s
      s.wr R.NET_TODSTAT_STATE ((i.tod.getD 3 0).toNat % 4)
    else s

/-! ### O-frames and claims (08 R296, R297) -/

/-- The O-frame a unit sends: whether it is a safe frame, and its claim; none where it sends none (08 R296, R350, R341). -/
def State.oFrame (s : State) : Option (Bool × Nat) :=
  let e := s.epoch * 4 + s.unitBit
  if !s.transmits || s.fbc.conflict then none
  else if s.paired then
    match s.mode with
    | 2 => some (true, e)
    | 3 => if s.pair.demoted then some (true, max s.epoch s.pair.higher * 4 + s.unitBit) else some (!s.exec.imaged, e + 2)
    | 4 => some (false, e)
    | _ => none
  else if s.umpire then none
  else match s.mode with
  | 2 => some (true, 0)
  | 3 => some (!s.exec.imaged, 2)
  | _ => none

/-- A unit's O-slot: the frame of R296 with ACTIVATE or SWITCH (R297). -/
def State.sendOutput (s : State) (i : Nat) : State :=
  match s.oFrame with
  | none => s.setReg R.CLAIM_OWN 0
  | some (safe, claim) =>
    let s := if s.paired then s.writeEpoch (claim / 4) else s
    let s := s.setReg R.CLAIM_OWN (BitVec.ofNat 32 claim)
    let act := match s.fbc.activated with
      | some (txid, n) => if n ≤ s.extStroke && s.extStroke < n + 16 then some txid else none
      | none => none
    let (flags, aux) := if s.mode = 2 && s.rd R.FBC_CFGSTAT_STATE = 2 then (4, (s.reg R.FBC_SWITCH).toNat)
      else match act with | some t => (2, t) | none => (0, 0)
    (s.seeEpoch (BitVec.ofNat 32 claim)).sendFrame 2 i claim (flags + safe.toNat) aux (if safe then [] else s.slotBytes i)

/-- The Umpire's answer, or a request, waits: REQ and REQLEN of NSTAT (08 R299). -/
def State.reqBits (s : State) : Nat :=
  match s.fbc.replies with
  | p :: _ => miniSlots (frameNs p.2.length) * 64 + 32
  | [] => 0

/-- The Umpire makes offers (R340): synchronised, and not listening. -/
def State.mayOffer (s : State) : Bool := (s.syncState = 4 || s.syncState = 5) && s.pair.listen = 0

/-- The Umpire's I-frame (R345): an offer that is due goes out with it (R347, R356), after the record is written (R339). Its word 2
is NSTAT (08 R299). -/
def State.sendUmpire (s : State) (i : Nat) : State :=
  let s := match s.pair.due with
    | some (u, sw, from') =>
      if from' ≤ s.extStroke && s.mayOffer then
        let e := s.pair.cur + 1
        let s := s.writeEpoch e
        let s := s.setReg R.CLAIM_OFFER (BitVec.ofNat 32 (e * 4 + 2 + u))
        { s.wrb R.CLAIM_UMP_SWAP sw with pair := { s.pair with due := none, offer := some (e, u, sw, 2), lastUnit := u } }
      else s
    | none => s
  let u := s.reg R.CLAIM_UMP
  let w2 := s.rd R.CLAIM_UMP_ABSENT * 0x10000 + s.rd R.CLAIM_CFG_K * 16 + bitsOf u 6 6 * 8 + bitsOf u 5 5 * 4 +
    bitsOf u 4 4 * 2 + bitsOf u 7 7
  let p := le32 (s.pair.cur * 4 + s.rd R.CLAIM_UMP_GRANTEE) ++ le32 (s.reg R.CLAIM_OFFER).toNat ++ le32 w2 ++
    le32 (s.reg R.CLAIM_GSTROKE).toNat ++ List.replicate (s.rd R.FBC_PAYLOAD_BYTES.live - 16) 0
  let nstat := s.reqBits + (if s.fbc.nodeSilent = 0 then 0 else 16) + s.fbc.nodeStat
  s.sendFrame 3 i (s.rd R.FBC_EPOCH_EH % 65536 * 0x10000 + nstat) 0 0 p

/-- SLOT_START: the owner of a static slot transmits (08 R288). -/
def State.slotStart (s : State) (i : Nat) : State :=
  if 254 ≤ i || s.nSlots liveBank ≤ i || s.slotOwner liveBank i ≠ s.ownAddr || !s.transmits then s
  else match s.slotKind liveBank i with
  | 1 => if s.compat liveBank then (if s.mode = 3 && s.exec.imaged && !s.sys.latch then s.out (.compatSlot i (s.slotBytes i)) else s)
    else s.sendOutput i
  | 2 => if s.umpire && s.mode = 6 then s.sendUmpire i else s
  | _ => s

/-- OUTPUT received: the other unit's claim, and what an active unit or the Umpire makes of it (R341, R342, R346). -/
def State.outputRx (s : State) (x : FlorynRx) : State :=
  let (ok, s) := s.slotFrame 2 x
  if !ok || s.compat liveBank then s
  else
    let f := x.frame
    let c := f.word2.toNat
    let s := s.nodeAnnounced f
    if !s.paired || f.sender ≠ s.peerAddr then s
    else
      let s := s.setReg R.CLAIM_PEER f.word2
      let s := { s with pair := { s.pair with activeSeen := s.pair.activeSeen || (c / 2 % 2 = 1 && c / 4 = s.epoch) } }
      if c / 4 > s.rd R.CLAIM_EPOCH_EPOCH || (c / 2 % 2 = 1 && c > s.epoch * 4 + 2 + s.unitBit) then s.demote (c / 4) c else s

/-- REFERENCE received (R341). -/
def State.referenceRx (s : State) (x : FlorynRx) (stamp : Nat) : State :=
  let (ok, s) := s.reference x stamp
  if ok && s.paired then s.heardEpoch (x.frame.word2.toNat / 4) x.frame.word2.toNat else s

/-- The words of an Umpire's payload. -/
def umpWord (f : FlorynFrame) (i : Nat) : Word := BitVec.ofNat 32 (ofBytes ((f.payload.drop (4 * i)).take 4))

/-- The Umpire's I-frame in Bow and Stern (R340, R341, R345, R352): the CLAIM page copies it. -/
def State.umpireFrame (s : State) (f : FlorynFrame) : State :=
  let w (i : Nat) := umpWord f i
  let e := (w 0).toNat / 4
  let s := { s with pair := { s.pair with umpEpoch := e } }
  let s := if s.on R.PAIR_STAT_UMPIRE then s else s.wr R.PAIR_STAT_UMPIRE 1
  let s := if s.pair.umpLost then { s with pair := { s.pair with umpLost := false } }.raise Ev.claimUmpireBack s.stroke else s
  let s := s.setReg R.CLAIM_OFFER (w 1)
  let u := (w 2).toNat
  let s := s.setReg R.CLAIM_UMP (BitVec.ofNat 32 (u / 0x10000 % 256 * 0x10000 + u % 2 * 128 + u / 8 % 2 * 64 +
    u / 4 % 2 * 32 + u / 2 % 2 * 16 + (w 0).toNat % 2))
  let s := s.setReg R.CLAIM_GSTROKE (w 3)
  let s := if (w 1).getLsbD 1 then s.raise Ev.claimOfferSeen ((w 1).toNat / 4 * 4 + (w 1).toNat % 2) else s
  s.heardEpoch e (w 0).toNat

/-- INPUT received (08 R302); the first copy of the Umpire's frame is read at once. -/
def State.inputRx (s : State) (x : FlorynRx) : State :=
  let first := !s.fbc.copies.any fun p => p.1 = x.frame.slot
  let (ok, s) := s.slotFrame 3 x
  if ok && first && x.frame.sender = 0xFD && s.paired then s.umpireFrame x.frame else s

/-- UMPIRE_LOST: its I-frame has been missing for 16 strokes (R352). -/
def State.umpireLost (s : State) : State :=
  if s.paired && s.on R.PAIR_STAT_UMPIRE then
    { s.wr R.PAIR_STAT_UMPIRE 0 with pair := { s.pair with umpLost := true } }.raise Ev.claimUmpireLost s.stroke
  else s

/-! ### The Umpire (R345 to R349) -/

/-- The units' O-frames of the present stroke that meet a condition on claim and SAFE. -/
def State.oCopies (s : State) (p : Nat → Bool → Bool) : List Nat :=
  ((s.fbc.copies.filter fun c => c.2.typ = 2 && s.slotKind liveBank c.1 = 1 && p c.2.frame.word2.toNat (c.2.frame.flags % 2 = 1)).map fun c =>
    c.2.frame.word2.toNat % 2).eraseDups

/-- Units with valid data O-frames of role 0 in the current epoch (R348). -/
def State.dataUnits (s : State) : List Nat := s.oCopies fun c safe => !safe && c / 2 % 2 = 0 && c / 4 = s.pair.cur

/-- The unit to be offered the epoch (R348). -/
def State.chooseUnit (s : State) : Nat :=
  match s.dataUnits with
  | [u] => u
  | _ :: _ => 0
  | [] => 1 - s.pair.lastUnit

/-- The first stroke whose I-frame of the Umpire starts at least 20 us after the present latch instant (R347). -/
def State.offerFrom (s : State) : Nat :=
  let latch := s.slotAt liveBank (s.rd R.FBC_SEGCFG_NO.live + s.rd R.FBC_SEGCFG_NT.live)
  let mine := (s.ownedSlots liveBank).find? fun i => s.slotOwner liveBank i = 0xFD
  match mine with
  | some i => if latch + 20000000 ≤ s.slotAt liveBank i then s.extStroke else s.extStroke + 1
  | none => s.extStroke + 1

/-- An offer taken or lapsed at a latch instant (R349). -/
def State.settleOffer (s : State) : State :=
  match s.pair.offer with
  | none => s
  | some (e, u, sw, left) =>
    match s.oCopies fun c _ => c / 2 % 2 = 1 && c / 4 = e with
    | v :: _ =>
      let s := { s with pair := { s.pair with cur := e, granted := true, offer := none } }
      let s := ((s.wr R.CLAIM_UMP_GRANTEE v).wr R.CLAIM_UMP_ABSENT 0).wr R.CLAIM_UMP_DECLARED 0
      (s.setReg R.CLAIM_GSTROKE (s.reg R.FBC_STROKE)).raise Ev.claimGranted (e * 4 + v)
    | [] =>
      if left ≤ 1 then { s with pair := { s.pair with offer := none } }.raise Ev.claimOfferLapsed (e * 4 + u)
      else { s with pair := { s.pair with offer := some (e, u, sw, left - 1) } }

/-- Absence at a latch instant (R346, R347). -/
def State.countAbsence (s : State) : State :=
  let g := s.rd R.CLAIM_UMP_GRANTEE
  let present := s.pair.granted && (s.oCopies fun c _ => c / 2 % 2 = 1 && c / 4 = s.pair.cur && c % 2 = g) ≠ []
  if present then (s.wr R.CLAIM_UMP_ABSENT 0).wr R.CLAIM_UMP_DECLARED 0
  else
    let s := s.inc R.CLAIM_UMP_ABSENT
    if s.rd R.CLAIM_UMP_ABSENT < s.rd R.CLAIM_CFG_K then s
    else
      let fresh := !s.on R.CLAIM_UMP_DECLARED
      let s := if fresh then (s.wr R.CLAIM_UMP_DECLARED 1).raise Ev.claimDeclared (0xFB + g) else s
      if s.pair.cur = 0x3FFFFFFF then (if fresh then s.raise Ev.claimEpochExhausted 0 else s)
      else if s.pair.offer.isSome then s
      else match s.pair.due with
      | some (_, false, _) => s
      | _ => { s with pair := { s.pair with due := some (s.chooseUnit, false, s.offerFrom) } }

/-- The Umpire's current epoch and its holder. It takes the highest epoch it has seen (R340); a unit whose valid O-frame with role 1
carries the current epoch holds it. -/
def State.umpireEpoch (s : State) : State :=
  let pending := match s.pair.offer with | some o => o.1 | none => 0
  let eh := s.rd R.FBC_EPOCH_EH
  let s := if s.pair.cur < eh && eh ≠ pending then { s with pair := { s.pair with cur := eh, granted := false } } else s
  if s.pair.granted then s
  else match s.oCopies fun c _ => c / 2 % 2 = 1 && c / 4 = s.pair.cur with
  | v :: _ => { s.wr R.CLAIM_UMP_GRANTEE v with pair := { s.pair with granted := true } }
  | [] => s

/-- The Umpire at a latch instant. An offer is settled whatever its synchronisation (R349); it counts absence only in SYNC and
HOLDOVER, when it does not listen, and makes no offer that was due before it lost them (R340). -/
def State.umpireLatch (s : State) : State :=
  if s.mode ≠ 6 then s
  else
    let seen (u : Nat) := (s.oCopies fun c _ => c % 2 = u) ≠ []
    let s := (s.wrb R.CLAIM_UMP_BOW (seen 0)).wrb R.CLAIM_UMP_STERN (seen 1)
    let s := s.wr R.CLAIM_OFFER_VALID 0
    let s := if s.pair.offer.isSome then s else s.wr R.CLAIM_UMP_SWAP 0
    let s := s.umpireEpoch.settleOffer
    if s.syncState ≠ 4 && s.syncState ≠ 5 then { s with pair := { s.pair with due := none } }
    else if 0 < s.pair.listen then { s with pair := { s.pair with listen := s.pair.listen - 1, due := none } }
    else s.countAbsence

/-- A SWAP request at the Umpire (R356). One that comes while the Umpire makes no offers is answered with STATUS 1 as well (DESIGN
CHOICE, log entry 187). -/
def State.umpireSwap (s : State) (sender id unit : Nat) : State :=
  let ok := s.mode = 6 && s.mayOffer && s.pair.due.isNone && s.pair.offer.isNone && !s.on R.CLAIM_UMP_DECLARED &&
    s.dataUnits.contains (unit % 2) && s.pair.cur ≠ 0x3FFFFFFF
  let s := { s with fbc := { s.fbc with replies := s.fbc.replies ++ [(sender, dataPayload id (if ok then 0 else 1) 3 unit [])] } }
  if ok then { s with pair := { s.pair with due := some (unit % 2, true, s.extStroke + 1) } } else s

/-- DATA received (08 R319): a response, the Umpire's answer to a swap, or at the Umpire a request. -/
def State.dataRx (s : State) (x : FlorynRx) (dest : Nat) : State :=
  let (ok, s) := s.florynRx 6 x
  let (first, s) := if ok then s.dynCopy x else (false, s)
  if !first || dest ≠ s.ownAddr then s
  else
    let p := x.frame.payload
    let w0 := BitVec.ofNat 32 (ofBytes (p.take 4))
    let index := ofBytes ((p.drop 4).take 4)
    let id := bitsOf w0 31 16
    let status := bitsOf w0 15 8
    match bitsOf w0 7 0 with
    | 3 =>
      if s.pair.swap = 2 && x.frame.sender = 0xFD && id = 0xFFFF && index = 1 - s.unitBit then
        if status = 0 then { s with pair := { s.pair with swap := 3 } } else s.swapFail 0x0A 0x20
      else s.acqResponse x.frame.sender id status (p.drop 8)
    | 0x40 => if s.umpire then s.umpireSwap x.frame.sender id index else s
    | 0x10 => if s.umpire then s.nodeService x.frame.sender id index (p.drop 8) else s
    | _ => s

/-! ### Offers and swaps in Bow and Stern (R350, R354 to R357) -/

/-- The restart of R78 with a requested kind (1 warm) is possible (02 R77, R78). -/
def State.restartKind (s : State) (warm : Bool) : Option Bool :=
  let valid := s.on R.RETAIN_STAT_VALID
  let same := (s.prog.map fun p => p.signature) = some s.memory.retainSig
  let fallback := s.on R.SYS_RSTCFG_COLD_FALLBACK
  if warm then (if valid && same then some true else if fallback then some false else none)
  else if valid || fallback || s.on R.SYS_STAT_CONSENT then some false else none

/-- What refuses a start in STOP, as a reason of R91, in the order of this list (R82, R85, 06 R224, 08 R298); a role conflict that
stands refuses it as well: DESIGN CHOICE, log entry 164. -/
def State.startRefusal (s : State) : Option Nat :=
  if !s.on R.SYS_FLOOR_CONTROL then some (s.floorMissing.getD 0)
  else if s.prog.isNone then some 0x03
  else if s.cfgBusy then some 0x21
  else if s.mbx.tripped ≠ 0 then some 0x27
  else if s.pstate = 2 && s.p2Conflict.isSome then some 0x20
  else if s.fbc.conflict then some 0x0E
  else none

/-- The kind of restart that the run intent asks for: the pending command's, else SYS_PONTGT.KIND. -/
def State.wantWarm (s : State) : Bool :=
  if s.cmdPending 2 then true else if s.cmdPending 3 then false else s.on R.SYS_PONTGT_KIND

/-- The unit may accept the active role (R350); none while a configuration is applied (08 R298). -/
def State.mayAccept (s : State) : Bool :=
  !s.cfgBusy && s.pair.accepted.isNone &&
    (s.pairState = 2 || s.pairState = 3 ||
      (s.mode = 2 && s.on R.PAIR_STAT_INTENT && s.startRefusal.isNone && (s.restartKind s.wantWarm).isSome))

/-- The unit takes an epoch (R350): its record is written, its run intent consumed (R328), and it enters RUN at the next boundary. -/
def State.acceptEpoch (s : State) (e : Nat) : State :=
  let s := (s.writeEpoch e).wr R.PAIR_STAT_INTENT 0
  { s with pair := { s.pair with accepted := some e } }

/-- Offers at input complete: this unit's, which an active unit that has requested a swap accepts as well (R350) and whose swap an
absence then supersedes (R356), and the one that carries its swap to the other unit. -/
def State.readOffer (s : State) : State :=
  match s.fbc.copies.find? fun p => p.2.typ = 3 && p.2.frame.sender = 0xFD with
  | none => s
  | some (_, c) =>
    let w := umpWord c.frame 1
    if !s.paired || !w.getLsbD 1 then s
    else if w.toNat % 2 = s.unitBit then
      if s.pairState = 1 && (s.pair.swap = 2 || s.pair.swap = 3) then (s.acceptEpoch (w.toNat / 4)).swapFail 0x0A 0x25
      else if s.mayAccept then s.acceptEpoch (w.toNat / 4) else s
    else if s.pair.swap = 2 || s.pair.swap = 3 then
      if (umpWord c.frame 2).getLsbD 3 then { s.writeEpoch (w.toNat / 4) with pair := { s.pair with swap := 4 } }
      else s.swapFail 0x0A 0x25
    else s

/-- The active unit's request of a swap at its dynamic segment (R355): in the place that its grants keep for it after the grant
frame. -/
def State.sendSwap (s : State) : State :=
  if s.pair.swap ≠ 1 || s.pairState ≠ 1 then s
  else if s.on R.PAIR_CFG_NOUMPIRE then
    let e := s.epoch + 1
    let s := s.writeEpoch e
    { s with pair := { s.pair with swap := 2, swapAt := some (s.extStroke + 2) } }.out
      (.swapAgreement s.pairHdr e (1 - s.unitBit))
  else if !s.dynMaster || s.ownGrants.length < 2 then s
  else { s with pair := { s.pair with swap := 2, swapSent := s.extStroke } }.sendData 0xFD
    (dataPayload 0xFFFF 0 0x40 (1 - s.unitBit) [])

/-- Self-promotion (R354). -/
def State.selfPromote (s : State) : State :=
  let e := s.epoch + 1
  (s.acceptEpoch e).raise Ev.pairSelfPromoted (e * 4)

/-- SWAP_AGREEMENT received without an Umpire (R354, R357). -/
def State.swapAgreed (s : State) (h : PairHdr) (e unit : Nat) : State :=
  let (ok, s) := s.pairRx h
  if !ok || !s.on R.PAIR_CFG_NOUMPIRE then s
  else if unit % 2 = s.unitBit then
    if s.pairState = 2 then { s.writeEpoch e with pair := { s.pair with swapAt := some (s.extStroke + 2) } }
    else if s.mode = 2 && s.mayAccept then s.selfPromote
    else s
  else { s with pair := { s.pair with linkEpoch := max s.pair.linkEpoch e } }

/-- A unit that grants itself counts at the latch instant (R354). -/
def State.aloneLatch (s : State) : State :=
  if !s.paired || !s.on R.PAIR_CFG_NOUMPIRE then s
  else
    let n := if s.pair.activeSeen || s.on R.PAIR_STAT_LINK then 0 else s.pair.alone + 1
    let s := { s with pair := { s.pair with alone := n } }
    if s.rd R.CLAIM_CFG_K ≤ n && s.mayAccept then s.selfPromote
    else if s.on R.PAIR_STAT_LINK && s.mode = 2 && s.on R.PAIR_STAT_INTENT && s.pair.peerIntent && s.unitBit = 0 && s.mayAccept then
      let s := s.selfPromote
      s.out (.swapAgreement s.pairHdr (s.rd R.CLAIM_EPOCH_EPOCH) 0)
    else s

/-- SYS_CMD SWAP's conditions (R355): the LASTRSN of the first that fails, or 0. -/
def State.swapRefusal (s : State) : Nat :=
  if s.rd R.PAIR_STAT_PEER ≠ 2 then 6
  else if ((s.pair.peerSince.map fun n => decide (s.extStroke < n + 64)).getD true) then 7
  else if !s.on R.PAIR_STAT_LINK then 2
  else if !s.on R.PAIR_CFG_NOUMPIRE && !s.on R.PAIR_STAT_UMPIRE then 8
  else if s.editSt = 4 && s.edit.agreed.isNone then 9
  else 0

/-! ### In step: inputs (R332 to R334) -/

/-- The digest of the I area as closed (R332). -/
def State.inputDigest (s : State) : List Byte :=
  Config.shake256 (s.bytes iBase 0x8000 ++ toBytes 8 s.extStroke) 16

/-- The unit follows the active unit in step. -/
def State.following (s : State) : Bool := s.mode = 4 && s.pairState = 2

/-- The input image is closed in a unit of a pair: the active unit sends its digest, the standby awaits it. -/
def State.pairInputs (s : State) (ws : List (Nat × Nat × Ecc)) : State :=
  if !s.paired then s.runLoops ws
  else
    let s := s.setDigest R.PAIR_IDIG0 s.inputDigest
    if s.following then
      { s with pair := { s.pair with awaiting := true, fetching := false }, exec := { s.exec with looping := true } }
    else
      let s := s.runLoops ws
      if s.pairState = 1 then s.out (.inputDigest s.pairHdr s.inputDigest)
      else if s.pairState = 3 then s.inc R.PAIR_CNT_ORPHAN_COUNT
      else s

/-- The standby starts its loops. -/
def State.startLoops (s : State) (ws : List (Nat × Nat × Ecc)) : State :=
  { s with pair := { s.pair with awaiting := false, fetching := false } }.runLoops ws

/-- INPUT_DIGEST received (R333). -/
def State.inputDigestRx (s : State) (h : PairHdr) (d : List Byte) (ws : List (Nat × Nat × Ecc)) : State :=
  let (ok, s) := s.pairRx h
  if !ok || !s.following || !s.pair.awaiting || !sameStroke h.stroke s.extStroke then s
  else if d = s.inputDigest then
    let s := if s.pair.fetchRun = 0 then s
      else { s with pair := { s.pair with fetchRun := 0 } }.raise Ev.pairDigestEnd (min s.pair.fetchRun 0xFFFFFFFF)
    s.startLoops ws
  else
    let s := if s.pair.fetchRun = 0 then s.raise Ev.pairDigestOnset s.stroke else s
    let s := { s with pair := { s.pair with fetching := true, fetchRun := s.pair.fetchRun + 1 } }
    (s.inc R.PAIR_CNT_FETCH_COUNT).out (.pairAck s.pairHdr .imageRequest)

/-- INPUT_IMAGE received: the I area is replaced by the active unit's (R333, R334). -/
def State.inputImageRx (s : State) (h : PairHdr) (img : List Host.Cell) (ws : List (Nat × Nat × Ecc)) : State :=
  let (ok, s) := s.pairRx h
  if !ok || !s.following || !s.pair.fetching || !sameStroke h.stroke s.extStroke then s
  else
    let s := (List.range 0x8000).foldl (fun s i => s.setByte (iBase + i) 0) s
    let s := (img.filter fun c => c.1 < 0x8000).foldl (fun s c => s.setByte (iBase + c.1) c.2) s
    s.startLoops ws

/-! ### In step: admission and load values (R333, R343, R344, 05 R208) -/

/-- The retired counts of the B executions that run (05 R209). -/
def State.bCounts (s : State) : List (Nat × Nat × Nat) :=
  (List.range 4).filterMap fun l =>
    let k := s.core (s.physOf l)
    k.bgRun.map fun r => (l, r.task, k.retired)

/-- The record of the admission just made (06 R241). -/
def State.mkRecordOf (s : State) (before : State) : AdmRecord :=
  { stroke := s.extStroke,
    admitted := (s.exec.admitted.filter fun a => a.scan = s.extStroke).map fun a => a.task,
    deferred := (s.exec.waiting.filterMap fun w => w.reason.map fun r => (w.task, r.code)),
    held := s.cox.held, port2 := before.port2List, hostWrites := before.exec.hostWrites,
    loopWrites := (before.loop.writes.filter fun w => w.lcore.isNone && !w.ready).map fun w => (w.addr, w.val),
    retired := s.bCounts }

/-- LOOP_COMPLETION: outputs, then the admission: Cox's own, the active unit's record, or in ORPHANED the substitute. -/
def State.loopCompletion (s : State) : State :=
  if !s.exec.looping || s.sys.latch || (s.following && s.pair.awaiting) then s
  else
    let s := s.loopsComplete
    match s.mode with
    | 3 =>
      let t := s.admission
      let r := t.mkRecordOf s
      let t := { t with evt := { t.evt with delivered := [], announced := r.port2 } }
      if t.pairState = 1 && t.on R.PAIR_STAT_LINK then t.out (.admissionRecord t.pairHdr r) else t
    | 4 => if s.pairState = 3 then s.substitute else s.takeRecord
    | 5 => s.publish
    | _ => s

/-- What a delta brings (03 R122, 05 R209): later retired counts, and the entries of port 2 anew; with the stroke's record not
applied yet, the record's entries. -/
def State.admissionDelta (s : State) (a : AdmRecord) : State :=
  let s := s.noteCounts a.retired
  let s := if s.exec.record.isNone then s.applyCounts else s
  if a.port2.isEmpty then s
  else match s.exec.record with
    | some r => { s with exec := { s.exec with record := some { r with port2 := a.port2 } } }
    | none => { s with evt := { s.evt with follow := a.port2.drop s.evt.delivered.length } }

/-- The standby acknowledges the host writes that a record forwards (R338). -/
def State.ackWrites (s : State) (a : AdmRecord) : State :=
  if a.hostWrites.isEmpty && a.loopWrites.isEmpty then s else s.out (.pairAck s.pairHdr .hostWrite)

/-- A full record arrives in step (R333): B executions may go on to its counts, and it is applied when the loops are complete and
they have. -/
def State.recordArrives (s : State) (a : AdmRecord) : State :=
  let s := s.ackWrites a
  let s := { s with pair := { s.pair with recordSeen := true }, exec := { s.exec with record := some a } }
  (s.noteCounts a.retired).applyCounts.takeRecord

/-- ADMISSION_RECORD received (R333); a full record of the current epoch ends ORPHANED (R344). Where the substitute record of the
stroke has been applied already, the executions it decides stand, and the rest of the record is taken. -/
def State.admissionRx (s : State) (h : PairHdr) (a : AdmRecord) : State :=
  let (ok, s) := s.pairRx h
  if !ok || s.mode ≠ 4 || s.sys.latch || !sameStroke h.stroke s.extStroke then s
  else if s.pairState = 3 then
    if h.epoch = s.epoch && s.pair.accepted.isNone && !a.delta then
      let s := s.setPair 2
      if s.exec.looping then s.recordArrives a
      else
        let s := s.ackWrites a
        let s := { s with pair := { s.pair with recordSeen := true },
                          evt := { s.evt with follow := a.port2, delivered := [] },
                          exec := { s.exec with hostWrites := s.exec.hostWrites ++ a.hostWrites } }
        ((s.noteCounts a.retired).applyCounts.forwardedLoopWrites a.loopWrites).readyAtAdmission
    else s
  else if a.delta then s.admissionDelta a
  else s.recordArrives a

/-- A load that waits takes a value (05 R208). -/
def State.loadArrives (s : State) (c : Nat) (v : Word) : State :=
  let k := s.core c
  match k.wait with
  | some (rd, _, _) =>
    let s := s.setCore c { k with wait := none }
    match s.env? c with
    | some e => State.endInstr e 1 (.done ((e.setReg rd v).advance))
    | none => s
  | none => s

/-- REGISTER_LOAD_VALUE received: the load that waits for it completes, or the value waits for its load. -/
def State.loadValueRx (s : State) (h : PairHdr) (l addr : Nat) (v : Word) : State :=
  let (ok, s) := s.pairRx h
  if !ok || s.mode ≠ 4 then s
  else
    let c := s.physOf l
    match (s.core c).wait with
    | some (_, a, _) => if a = addr then s.loadArrives c v
      else { s with pair := { s.pair with loads := s.pair.loads ++ [(l, addr, v)] } }
    | none => { s with pair := { s.pair with loads := s.pair.loads ++ [(l, addr, v)] } }

/-! ### In step: outputs (R32, R335, R336, R342 to R344) -/

/-- The fault code of an execution of the completed set. -/
def faultOf (fs : List Finished) (t scan : Nat) : Option Nat :=
  (fs.find? fun f => f.task = t && f.scan = scan).map fun f => f.fault

/-- The message of a unit's output cutoff, with the strokes agreed by it. The active unit keeps what it has sent since it last knew the
other in STANDBY, for R344: two strokes' messages while it is, and the latest 256 otherwise. -/
def State.outMessage (s : State) (done' : List Finished) : State :=
  let act := s.edit.agreed
  let pw := match s.pwr.due with
    | some n => if s.rd R.PWR_STAT_TARGET = 3 then none else some (n, s.rd R.PWR_STAT_TARGET)
    | none => none
  let cfg := if s.rd R.FBC_CFGSTAT_STATE = 2 && !s.pair.forwarded then
      some (s.reg R.FBC_SWITCH, fbcStaged.map fun a => (a, s.reg (a + applyBank))) else none
  let snap := match s.memory.store with | some st => if st.taken then none else st.atStroke | none => none
  let d : OutDig := { digest := s.digest s.exec.outImage, completed := done'.map (fun f => (f.task, f.scan, f.fault)),
                      ctxFaults := s.loop.faults, activation := act, power := pw, config := cfg, snapshot := snap,
                      stop := s.pair.stopAt }
  let keep := if s.pairState = 1 then s.pair.sentDigs ++ [(s.extStroke, d)] else []
  let keep := if s.rd R.PAIR_STAT_PEER = 2 then keep.drop (keep.length - 2) else keep.drop (keep.length - 256)
  { s with pair := { s.pair with forwarded := s.pair.forwarded || cfg.isSome, sentDigs := keep },
           pwr := { s.pwr with agreed := s.pwr.agreed || pw.isSome } }.out (.outputDigest s.pairHdr d)

/-! ### The active unit's side of a resynchronisation (R359) -/

/-- Blocks of 256 bytes of the copy: the data area, then retain memory. -/
def copyBlocks : Nat := 0x18000

/-- The address of a block. -/
def copyAddr (n : Nat) : Nat := if n < 0x10000 then 0x01000000 + 256 * n else retainBase + 256 * (n - 0x10000)

/-- The block of an address. -/
def copyBlockOf (a : Nat) : Option Nat :=
  if 0x01000000 ≤ a && a < 0x02000000 then some ((a - 0x01000000) / 256)
  else if retainBase ≤ a && a < retainBase + 0x800000 then some (0x10000 + (a - retainBase) / 256)
  else none

/-- The memory that a copy brings over; the Q area is the output image. -/
def State.copyMem (s : State) : List Host.Cell :=
  (s.mem.filter fun c => (copyBlockOf c.1).isSome && !(decide (qBase ≤ c.1) && decide (c.1 < qBase + 0x8000))) ++
    s.exec.outImage.map fun c => (qBase + c.1, c.2)

/-- The blocks written since they were sent, of those below a block. -/
def State.dirtyBlocks (s : State) (next : Nat) : List Nat :=
  let now := s.copyMem
  let was := s.pair.copySent
  let changed (l m : List Host.Cell) : List Nat := (l.filter fun c => !m.contains c).filterMap fun c => copyBlockOf c.1
  ((changed now was ++ changed was now).eraseDups).filter (· < next)

/-- A message of the state copy. -/
def State.sendCopy (s : State) (c : CopyBlock) : State := s.out (.stateCopy s.pairHdr c)

/-- Blocks are sent, and count as clean. -/
def State.sendBlocks (s : State) (bs : List Nat) : State :=
  let mem := s.copyMem
  let bytesOf (n : Nat) : List Byte :=
    let l := mem.filter fun c => copyBlockOf c.1 = some n
    (List.range 256).map fun i => ((l.find? fun c => c.1 = copyAddr n + i).map Prod.snd).getD 0
  let bad (n : Nat) : List Nat := s.memory.poison.filter fun w => copyAddr n / 32 ≤ w && w < copyAddr n / 32 + 8
  let s := bs.foldl (fun s n => s.sendCopy (.bytes (copyAddr n) (bytesOf n) (bad n))) s
  let here (c : Host.Cell) : Bool := match copyBlockOf c.1 with | some n => bs.contains n | none => false
  { s with pair := { s.pair with copySent := (s.pair.copySent.filter fun c => !here c) ++ mem.filter here } }

/-- Blocks that the traffic lanes carry in a number of us. -/
def State.lanesCarry (s : State) (us : Nat) : Nat :=
  us * 1250 * ((List.range 3).filter fun l => s.laneServes l).length / 256

/-- The program store's image and the signature, sent before the copy where the signatures differ (R359). -/
def State.sendProgram (s : State) : State :=
  let sig := (s.prog.map Program.signature).getD []
  if s.prog.isNone || sig = s.pair.peerSig then s
  else
    let x := (s.region 8).slot (s.region 8).activeB
    s.sendCopy (.program x.payload x.version s.markedTxs sig)

/-- A copy goes on at a stroke start of the active unit while the other reports RESYNC: the first pass, then passes of dirty blocks,
in half the lanes' capacity (DESIGN CHOICE, log entry 190). -/
def State.copyStroke (s : State) : State :=
  if s.pairState ≠ 1 || s.rd R.PAIR_STAT_PEER ≠ 3 || !s.on R.PAIR_STAT_LINK then
    { s with pair := { s.pair with copyNext := none, copySent := [] } }
  else
    let room := s.lanesCarry (s.rd R.FBC_STROKECFG_LEN.live) / 2
    match s.pair.copyNext with
    | none =>
      let s := { s with pair := { s.pair with copyNext := some 0, copySent := [], copyPasses := 0, copyFrom := s.tb.toNat } }
      s.sendProgram
    | some n =>
      let s := if n < copyBlocks then
          let m := min copyBlocks (n + room)
          let s := s.sendBlocks ((List.range (m - n)).map (n + ·))
          { s with pair := { s.pair with copyNext := some m } }
        else
          let s := s.sendBlocks ((s.dirtyBlocks n).take room)
          { s with pair := { s.pair with copyPasses := s.pair.copyPasses + 1 } }
      s.sendCopy (.progress (min n copyBlocks * 100 / copyBlocks) s.pair.copyPasses ((s.tb.toNat - s.pair.copyFrom) / 125000))

/-- The numbers of a loop context's record in a state copy; `loopOf` reads them. -/
def loopWords (c : LoopCtx) : List Nat :=
  let p := c.prof
  [c.reinit.toNat, (match c.region with | some r => r + 1 | none => 0), c.gains.1, c.gains.2.1, c.gains.2.2, c.sched.toNat, c.ptr,
   c.profen.toNat, c.failStart.toNat, p.r, p.goal, p.dr, p.r0, p.w, p.vp, p.k, p.left, p.gap, p.sa, p.sj, p.na, p.nj, p.vmax, p.amax,
   p.jmax]

/-- The pages whose registers a copy brings over (R359): PWR, COX, EXEC, LOOP and LOOPCTX. -/
def copyPages : List Nat := [0x02, 0x03, 0x10, 0x20] ++ (List.range 16).map (0x30 + ·)

/-- The page of a register's address, in whatever bank. -/
def pageOfReg (a : Nat) : Nat := a % 0x100000 / 0x1000

/-- What is sent last (R359): registers, loop contexts, the table area and the work ledger, as they stand at the cutoff. -/
def State.sendState (s : State) : State :=
  let s := copyPages.foldl (fun s p => s.sendCopy (.regs p (s.regs.filter fun r => pageOfReg r.1 = p))) s
  let s := s.loop.ctx.foldl (fun s c => s.sendCopy (.loop c.1 (loopWords c.2) c.2.prof.wa c.2.prof.wj)) s
  let s := s.loop.table.foldl (fun s w => s.sendCopy (.table w.1 [w.2])) s
  let kind (k : LedgerKind) : Nat := match k with
    | .net => 0 | .radio => 1 | .can => 2 | .acq => 3 | .mbx => 4 | .edit => 5 | .marker => 6
  s.sendCopy (.ledger ((s.memory.ledger.filter fun e => decide (e.kind ≠ .mbx)).map fun e => (kind e.kind, e.unit, e.id, e.started)))

/-- The join of the other unit to the stroke that starts next (R359), at an output cutoff: the first pass is over and the dirty
blocks fit in the time to the stroke start, beside the in-step messages of the stroke (`join`). -/
def State.joinCutoff (s : State) (join : Bool) : State :=
  match s.pair.copyNext with
  | none => s
  | some n =>
    let dirty := s.dirtyBlocks n
    if join && copyBlocks ≤ n && dirty.length ≤ s.lanesCarry (s.rd R.FBC_CUTOFF_US.live) && s.pairState = 1 &&
        s.rd R.PAIR_STAT_PEER = 3 && s.on R.PAIR_STAT_LINK then
      let s := ((s.sendBlocks dirty).sendState).setReg R.PAIR_JOIN (BitVec.ofNat 32 (s.stroke + 1))
      let pw := match s.pwr.due with | some k => if s.rd R.PWR_STAT_TARGET = 3 then none else some (k, s.rd R.PWR_STAT_TARGET)
                                     | none => none
      let snap := match s.memory.store with | some st => if st.taken then none else st.atStroke | none => none
      let s := s.sendCopy (.join (s.extStroke + 1) s.pstate s.edit.agreed pw snap)
      { s with pair := { s.pair with copyNext := none, copySent := [] } }
    else s

/-- OUTPUT_CUTOFF. -/
def State.outputCutoff (s : State) (join : Bool) : State :=
  match s.mode with
  | 3 =>
    let fs := s.exec.finished
    let s := (s.ownCutoff.readyAtCutoff.editCutoff).storeCutoff
    if s.paired then
      ((s.setDigest R.PAIR_ODIG0 (s.digest s.exec.outImage)).outMessage fs).joinCutoff join
    else s
  | 4 =>
    let s := { s with pair := { s.pair with cutSet := s.exec.finished } }
    let s := if s.pairState = 3 || !s.pair.recordSeen then s.raise Ev.coxFollowMissing s.stroke else s
    s.overruns.closeStroke
  | 2 =>
    let s := s.idleCutoff.editCutoff
    if s.paired && s.rd R.FBC_CFGSTAT_STATE = 2 && !s.pair.forwarded then s.outMessage [] else s
  | 5 => s.idleCutoff
  | _ => s

/-- OUTPUT_DIGEST received: the digest of the present stroke waits for the stroke start; one of a provisional stroke is compared
at once (R344). What it agrees stands from now on; a stroke that is none of the next 2^31 - 1 is no agreement (01 R16). -/
def State.outputDigestRx (s : State) (h : PairHdr) (d : OutDig) : State :=
  let (ok, s) := s.pairRx h
  if !ok then s
  else
    let s := match d.config with
      | some (k, regs) => if s.mode = 2 && !s.cfgBusy && (s.futureStroke k.toNat).isSome then s.cfgForwarded k regs else s
      | none => s
    if s.mode ≠ 4 then s
    else
      let s := match d.activation.bind s.futureStroke with
        | some n => if s.editSt = 4 then { s with edit := { s.edit with agreed := some n } } else s
        | none => s
      let s := match d.power.bind fun w => (s.futureStroke w.1).map fun n => (n, w.2) with
        | some (n, p) => { (s.wr R.PWR_STAT_PENDING 1).wr R.PWR_STAT_TARGET p with pwr := { s.pwr with due := some n, agreed := true } }
        | none => s
      let s := match d.snapshot.bind s.futureStroke with | some n => s.storeAgreed n | none => s
      let s := match d.stop.bind s.futureStroke with
        | some n => { s with pair := { s.pair with stopAt := some n } }
        | none => s
      if sameStroke h.stroke s.extStroke then { s with pair := { s.pair with outDig := some d } }
      else match s.pair.provisional.find? fun p => sameStroke p.1 h.stroke with
      | some p =>
        let s := { s with pair := { s.pair with provisional := s.pair.provisional.filter fun q => q.1 ≠ p.1 } }
        if p.2 = d.digest then s else s.diverge p.1 1
      | none => s

/-- The standby's output image of the ended stroke, built at the next stroke start from the completed set (R32, R335); with the
record or the digest missing the stroke is provisional and the image is the unit's own (R342, R343). -/
def State.standbyStroke (s : State) : State :=
  if s.mode ≠ 4 then s
  else
    let n := s.extStroke
    let clear (s : State) : State := { s with pair := { s.pair with outDig := none, recordSeen := false, cutSet := [],
                                                                    provNow := false, awaiting := false, fetching := false } }
    let own (s : State) : State :=
      let s := (s.freeze s.pair.cutSet).readyAtCutoff
      let dg := s.digest s.exec.outImage
      let s := s.setDigest R.PAIR_ODIG0 dg
      { s with pair := { s.pair with provisional := s.pair.provisional ++ [(n, dg)],
                                     provOld := if s.pairState = 2 then some n else s.pair.provOld } }
    match s.pair.outDig with
    | none => clear (own s)
    | some d =>
      if !s.pair.recordSeen then clear (own s)
      else
        let set := s.exec.finished.filter fun f => d.completed.any fun c => c.1 = f.task && c.2.1 = f.scan
        let late := d.completed.any fun c => (faultOf set c.1 c.2.1).isNone
        let faults := d.completed.any fun c => match faultOf set c.1 c.2.1 with | some x => x ≠ c.2.2 | none => false
        let ctx := !(s.loop.faults.all d.ctxFaults.contains && d.ctxFaults.all s.loop.faults.contains)
        let s := (s.freeze set).readyAtCutoff
        let dg := s.digest s.exec.outImage
        let s := s.setDigest R.PAIR_ODIG0 dg
        let s := if dg = d.digest then s else s.diverge n 1
        let s := if late then s.diverge n 2 else s
        let s := if ctx then s.diverge n 4 else s
        let s := if faults then s.diverge n 3 else s
        let s := if s.pair.provNow && s.pairState = 2 then { s with pair := { s.pair with provOld := some n } } else s
        clear s

/-- A provisional stroke is decided at the next latch instant (R342). -/
def State.orphanLatch (s : State) : State :=
  match s.pair.provOld with
  | none => s
  | some n =>
    let s := { s with pair := { s.pair with provOld := none } }
    if !s.following then s
    else if s.pair.activeSeen then s.diverge n 5
    else
      let s := { s with evt := { s.evt with follow := [] } }
      (s.setPair 3).raise Ev.pairOrphaned (n % strokeModulus)

/-! ### Mirrored items and forwarded writes (R338, R361, R363) -/

/-- The standby follows the numbers that the active unit gives to the items it accepts (11 R398). -/
def State.mirrorNext (s : State) (kind : ItemKind) (id : Nat) : State :=
  let n := (id + 1) % 65536
  match kind with
  | .net _ => { s with net := { s.net with nextId := n } }
  | .radio => { s with radio := { s.radio with nextId := n } }
  | .can c => s.setCan c { s.canSt c with nextId := n }
  | .acq => { s with fbc := { s.fbc with nextReq := n } }

/-- ITEM_MIRROR received: the standby keeps the item's last mirrored state, its ledger follows (01 R14), and it acknowledges
STARTED. -/
def State.itemMirrorRx (s : State) (h : PairHdr) (m : MirrorMsg) : State :=
  let (ok, s) := s.pairRx h
  if !ok || s.mode ≠ 4 then s
  else
    let same (i : MirItem) : Bool := decide (i.kind = m.kind) && i.id = m.id
    let put (l : List MirItem) : State := { s with pair := { s.pair with items := l } }
    let upd (f : MirItem → MirItem) : State := put (s.pair.items.map fun x => if same x then f x else x)
    let s := s.ledgerMirror m.kind m.id m.phase
    match m.phase with
    | .accepted w d =>
      let items := s.pair.items.filter fun x => !(same x && x.ended.isSome)
      if items.any same then put (items.map fun x => if same x then { x with words := w, data := d, started := false } else x)
      else (put (items ++ [⟨m.kind, m.id, w, d, false, none⟩])).mirrorNext m.kind m.id
    | .started => (upd fun x => { x with started := true }).out (.pairAck s.pairHdr (.started m.kind m.id))
    | .ended o r => upd fun x => { x with ended := some (o, r) }
    | p =>
      match m.kind, p with
      | .net k, _ => s.netMirrorRx k p
      | _, .session w => upd fun x => { x with words := x.words.take 4 ++ w }
      | _, _ => s

/-- MESSAGE_ACKNOWLEDGEMENT: an item may start, a forwarded host write's access ends, or the input image is asked for (R333). -/
def State.messageAck (s : State) (m : AckMsg) : State :=
  match m with
  | .started k id =>
    let s := s.mirrorAck k id
    match k with
    | .net n => s.netPush n
    | .radio => s.radioBegin
    | .can c => s.canServe c
    | .acq => s
  | .hostWrite => { s with pair := { s.pair with hostWait := none } }
  | .imageRequest =>
    if s.pairState ≠ 1 then s
    else
      let img := (s.mem.filter fun c => decide (iBase ≤ c.1) && decide (c.1 < qBase)).map fun c => (c.1 - iBase, c.2)
      s.out (.inputImage s.pairHdr img)

/-- MIRROR_LAG, once per stroke (R363). A forwarded host retain write that is not acknowledged fails with ACCESS_TIMEOUT. -/
def State.mirrorLag (s : State) (us : Nat) : State :=
  if s.pair.lagged || s.pair.waits.isEmpty then s
  else { s with pair := { s.pair with lagged := true } }.raise Ev.pairMirrorLag (min us 0xFFFF)

/-- Strokes since the parts of R358 were exercised. -/
def State.latentStroke (s : State) : State :=
  if !s.paired then s
  else
    let p := s.pair
    let bad := s.rd R.DIO_OUTFLT_OL ||| s.rd R.DIO_OUTFLT_OT ||| s.rd R.DIO_OWFLT_OPEN
    let drives := s.pairState = 1 && (s.dio.out &&& (0xFFFF - bad % 0x10000)) ≠ 0
    let m := if s.pairState = 1 && s.on R.FBC_SYNC_ACTING && s.transmits then 0 else p.latentMaster + 1
    let l := if drives then 0 else p.latentLocal + 1
    let s := { s with pair := { s.pair with latentMaster := m, latentLocal := l, latentCan := p.latentCan + 1,
                                            latentNet := p.latentNet + 1 } }
    let u (n : Nat) := min (n / 65536) 65535
    let s := (s.wr R.PAIR_LATENT0_TMASTER (u m)).wr R.PAIR_LATENT0_LOCALOUT (u l)
    (s.wr R.PAIR_LATENT1_CAN (u (p.latentCan + 1))).wr R.PAIR_LATENT1_NETRADIO (u (p.latentNet + 1))

/-! ### Resynchronisation (R359, R360) -/

/-- The reason that forbids a copy to begin, or 0 (R298, R359, 17 R539). -/
def State.resyncRefusal (s : State) : Nat :=
  if s.rd R.PAIR_STAT_PEER ≠ 1 then 1
  else if !s.on R.PAIR_STAT_LINK then 2
  else if s.pair.peerConfig ≠ s.pairConfig then 3
  else 0

/-- A unit in STOP begins to resynchronise: its recalled generation no longer serves a warm restart (R360). -/
def State.resyncBegin (s : State) : State :=
  if !s.paired || s.mode ≠ 2 || s.pair.copyStart.isSome || s.cfgBusy || s.mbx.tripped ≠ 0 then s
  else match s.resyncRefusal with
  | 0 =>
    let s := ((s.pairReason 0).wr R.SYS_STAT_RESYNC 1).setPair 4
    let s := s.wr R.RETAIN_STAT_VALID 0
    let s := ((s.wr R.PAIR_RESYNC_PCT 0).wr R.PAIR_RESYNC_PASSES 0).wr R.PAIR_RESYNC_MS 0
    { s with pair := { s.pair with copyStart := some s.tb.toNat, join := none, released := false } }.raise Ev.pairResyncStart 0
  | r => s.pairReason r

/-- RESYNC_START (02 R90): a target of RUN, or a RELEASE out of HOLD (R365), and an active unit start it without a command. -/
def State.resyncStart (s : State) : State :=
  if (s.rd R.SYS_PONTGT_MODE = 3 || s.pair.released) && s.rd R.PAIR_STAT_PEER = 1 then s.resyncBegin else s

/-- The ms a copy has run. -/
def State.copyMs (s : State) : Nat :=
  match s.pair.copyStart with | some t => (s.tb.toNat - t) / 125000 | none => 0

/-- The record of a loop context in a state copy. -/
def loopOf (w wa wj : List Nat) : LoopCtx :=
  let g (i : Nat) := w.getD i 0
  { reinit := g 0 ≠ 0, region := if g 1 = 0 then none else some (g 1 - 1), gains := (g 2, g 3, g 4), sched := g 5 ≠ 0,
    ptr := g 6, profen := g 7 ≠ 0, failStart := g 8 ≠ 0,
    prof := { r := g 9, goal := g 10, dr := g 11, r0 := g 12, w := g 13, vp := g 14, k := g 15, left := g 16, gap := g 17,
              sa := g 18, sj := g 19, na := g 20, nj := g 21, vmax := g 22, amax := g 23, jmax := g 24, wa := wa, wj := wj } }

/-- The kind of ledger entry a number names. -/
def ledgerKindOf : Nat → LedgerKind
  | 0 => .net | 1 => .radio | 2 => .can | 3 => .acq | 4 => .mbx | 5 => .edit | _ => .marker

/-- A page's registers as the active unit has them; PWR_STAT follows with the join (R359). -/
def State.copyRegs (s : State) (page : Nat) (l : List (Nat × Word)) : State :=
  if !copyPages.contains page then s
  else
    let old := (s.regs.filter fun r => pageOfReg r.1 = page && r.1 ≠ R.PWR_STAT).map Prod.fst
    let s := old.foldl (fun s a => s.setReg a (resetVal a)) s
    (l.filter fun r => pageOfReg r.1 = page && r.1 ≠ R.PWR_STAT).foldl (fun s r => s.setReg r.1 r.2) s

/-- The join stroke is named (R359): the extended stroke number takes the active unit's high half (04 R127), and the agreements that
are pending there are pending here. A number that is none of the next 2^31 - 1 strokes names none (01 R16). -/
def State.joinNamed (s : State) (n p : Nat) (act : Option Nat) (pw : Option (Nat × Nat)) (snap : Option Nat) : State :=
  match s.futureStroke n with
  | none => s
  | some k =>
    let s := { s with exec := { s.exec with strokeHi := (n - (k - s.extStroke)) / strokeModulus } }
    let s := { s with edit := { s.edit with agreed := act.bind s.futureStroke },
                      pair := { s.pair with
                        join := some (n, p, pw.bind fun w => (s.futureStroke w.1).map fun m => (m, w.2)) } }
    match snap.bind s.futureStroke with
    | some m => s.storeAgreed m
    | none => s

/-- The program store of the active unit, with the transactions activated there (R359): the unit writes both copies to its own and
loads the program. -/
def State.programRx (s : State) (d : List Byte) (version : Nat) (txs : List EditTx) (sig : List Byte) : State :=
  let (rsn, t) := s.loadBytes d txs
  if rsn ≠ 0 then s
  else
    let store (x : UpdSlot) : UpdSlot := { x with state := 1, version := version, payload := d }
    let r := t.region 8
    let t := t.setRegion 8 { r with a := store r.a, b := store r.b, activeB := false }
    { t with edit := { t.edit with flash := txs.map fun x => FlashTx.mk x true },
             memory := { t.memory with retainSig := sig }, sys := { t.sys with loadRsn := 0 } }.floorNow

/-- STATE_COPY received (R359). Blocks of the Q area are the output image as well; an uncorrectable source word is written as a
poisoned one (10 R370). -/
def State.stateCopyRx (s : State) (h : PairHdr) (c : CopyBlock) : State :=
  let (ok, s) := s.pairRx h
  if !ok || s.pair.copyStart.isNone then s
  else
    let s := s.wr R.PAIR_RESYNC_MS (min s.copyMs 0xFFFF)
    match c with
    | .bytes a d bad =>
      if qBase ≤ a && a < qBase + 0x8000 then
        let cells := (List.range d.length).zip d |>.map fun p => (a - qBase + p.1, p.2)
        let q := overlay (fun _ => 0) s.exec.qWork cells
        { s with exec := { s.exec with qWork := q, outImage := q } }
      else
        let s := (s.setBytes a d).wroteAll [(a, d)]
        let here (w : Nat) : Bool := a / 32 ≤ w && w < (a + d.length) / 32
        { s with memory := { s.memory with poison := (s.memory.poison.filter fun w => !here w) ++ bad.filter here } }
    | .regs p l => s.copyRegs p l
    | .table i l =>
      let t := l.zipIdx.foldl (fun t p => SMap.set (fun _ => 0) (i + p.2) p.1 t) s.loop.table
      { s with loop := { s.loop with table := t } }
    | .loop n w wa wj => s.setLctx n (loopOf w wa wj)
    | .ledger l =>
      let es := l.map fun e => (⟨ledgerKindOf e.1, e.2.1, e.2.2.1, e.2.2.2⟩ : LedgerItem)
      { s with memory := { s.memory with ledger := es } }
    | .program d version txs sig => s.programRx d version txs sig
    | .progress p n ms => ((s.wr R.PAIR_RESYNC_PCT p).wr R.PAIR_RESYNC_PASSES (min n 255)).wr R.PAIR_RESYNC_MS (min ms 0xFFFF)
    | .join n p act pw snap => s.joinNamed n p act pw snap

/-! ### What time alone brings -/

/-- A message of the pair link. -/
def Wire.onPair : Wire → Bool
  | .mirror .. | .heartbeat .. | .inputDigest .. | .admissionRecord .. | .loadValue .. | .outputDigest .. | .inputImage ..
  | .pairAck .. | .swapAgreement .. | .stateCopy .. | .editMsg .. => true
  | _ => false

/-- The retired counts of the B executions that run go to the standby once per us (05 R209). -/
def State.sendCounts (s : State) : State :=
  if s.mode = 3 && s.tb.toNat % 125 = 0 && s.bCounts ≠ [] then s.sendDelta [] s.bCounts else s

/-- A heartbeat goes out after 10 us without other traffic on the pair link (R329). -/
def State.quietBeat (s : State) : State :=
  if !s.paired || s.sys.latch then s
  else
    let n := (s.wire.filter Wire.onPair).length
    if n ≠ s.pair.sent then { s with pair := { s.pair with quiet := 0, sent := n } }
    else if s.pair.quiet < 1249 then { s with pair := { s.pair with quiet := s.pair.quiet + 1 } }
    else
      let s := s.heartbeat
      { s with pair := { s.pair with quiet := 0, sent := (s.wire.filter Wire.onPair).length } }

/-- A tick in which no command is waiting (log entry 3): the timebase goes on, and the pair link's messages that time alone makes
due are sent. -/
def State.idle (s : State) : State := s.tick.sendCounts.quietBeat

/-! ### The PAIR and CLAIM pages -/

/-- PAIR_CMD (09 "PAIR page"). -/
def State.pairCmd (s : State) (v : Word) : WRes :=
  if bitsOf v 31 16 ≠ 0x9A17 then accept s
  else match bitsOf v 7 0 with
  | 1 => if s.mode ≠ 2 then refuse .mode s else accept s.resyncBegin
  | 2 => if s.laneServes 2 then refuse .mode s
    else if 1 < bitsOf v 9 8 then refuse .range s
    else accept (s.laneReplace (bitsOf v 9 8))
  | 3 => if s.pair.copyStart.isNone then refuse .mode s else accept (s.resyncFail 5)
  | _ => accept s

/-- A write to the PAIR page. -/
def State.pairWrite (s : State) (r : Req) (a : Nat) (v : Word) : WRes :=
  if isCore r then refuse .requester s
  else if !s.paired then accept s
  else if a = R.PAIR_CFG then
    if (v.getLsbD 0 ≠ (s.reg a).getLsbD 0) && s.mode ≠ 2 then refuse .mode s else accept (s.plainWrite a v).laneSpare
  else if a = R.PAIR_CMD then s.pairCmd v
  else accept (s.plainWrite a v)

/-- A read of the PAIR page: 0 in a solo unit and in the Umpire. -/
def State.pairRead (s : State) (a : Nat) : Word := if s.paired then s.reg a else 0

/-- A write to the CLAIM page. -/
def State.claimWrite (s : State) (r : Req) (a : Nat) (v : Word) : WRes :=
  if isCore r then refuse .requester s
  else if a = R.CLAIM_CFG then
    if s.mode ≠ 2 && s.mode ≠ 6 then refuse .mode s
    else if bitsOf v 3 0 = 0 || 8 < bitsOf v 3 0 then refuse .range s
    else accept (s.plainWrite a v)
  else accept (s.plainWrite a v)

/-! ### Meanings -/

def execReference (x : FlorynRx) (stamp : Nat) (s : State) : Out := .next (s.referenceRx x stamp)
def execOutput (x : FlorynRx) (s : State) : Out := .next (s.outputRx x)
def execInput (x : FlorynRx) (s : State) : Out := .next (s.inputRx x)
def execNull (x : FlorynRx) (s : State) : Out := .next (s.slotFrame 4 x).2
def execGrant (x : FlorynRx) (s : State) : Out := .next (s.grantRx x)
def execData (x : FlorynRx) (dest : Nat) (s : State) : Out := .next (s.dataRx x dest)
def execProbe (x : FlorynRx) (t2 t3 : DWord) (s : State) : Out := .next (s.probe x t2 t3)
def execMasterChange (s : State) : Out := .next s.masterChange
def execHandover (s : State) : Out := .next s.handOver

/-- The bound of LISTEN or ALIGN has passed (08 R308): SYNC_FAILED with the state left; ALIGN goes back to LISTEN. -/
def execSyncFailed (s : State) : Out :=
  .next (match s.syncState with
    | 1 => s.raise Ev.fbcSyncFailed 1
    | 2 => (s.setSync 1).raise Ev.fbcSyncFailed 2
    | _ => s)

/-- HOLDOVER ends without a reference (08 R308). -/
def execHoldoverTimeout (s : State) : Out := .next (if s.syncState = 5 then s.setSync 1 else s)

def execFirstNodeClock (present : Bool) (offset : Int) (s : State) : Out := .next (s.firstNode present offset)
def execSlotStart (slot : Nat) (s : State) : Out := .next (s.slotStart slot)
def execAcqTimeout (id : Nat) (s : State) : Out := .next (s.acqTimeout id)

/-- The dynamic segment starts; the active unit's swap request is scheduled first after its grant frame (R355). -/
def execDynamicSegment (s : State) : Out := .next (s.dynamicSegment State.sendSwap)

def execHeartbeat (h : PairHdr) (i : HbInfo) (s : State) : Out := .next (s.heartbeatRx h i)
def execInputDigest (h : PairHdr) (d : List Byte) (ws : List (Nat × Nat × Ecc)) (s : State) : Out := .next (s.inputDigestRx h d ws)
def execAdmissionRecord (h : PairHdr) (a : AdmRecord) (s : State) : Out := .next (s.admissionRx h a)
def execRegisterLoadValue (h : PairHdr) (lcore addr : Nat) (v : Word) (s : State) : Out := .next (s.loadValueRx h lcore addr v)
def execOutputDigest (h : PairHdr) (d : OutDig) (s : State) : Out := .next (s.outputDigestRx h d)
def execItemMirror (h : PairHdr) (m : MirrorMsg) (s : State) : Out := .next (s.itemMirrorRx h m)

/-- EDIT_TRANSACTION received (04 R171). -/
def execEditTransaction (h : PairHdr) (m : EditMsg) (s : State) : Out :=
  let (ok, s) := s.pairRx h
  .next (if ok then s.editMsg s.loopConfigOk m else s)

def execInputImage (h : PairHdr) (img : List Host.Cell) (ws : List (Nat × Nat × Ecc)) (s : State) : Out := .next (s.inputImageRx h img ws)
def execStateCopy (h : PairHdr) (c : CopyBlock) (s : State) : Out := .next (s.stateCopyRx h c)
def execSwapAgreement (h : PairHdr) (epoch unit : Nat) (s : State) : Out := .next (s.swapAgreed h epoch unit)
def execMessageResend (lane : Fin 3) (s : State) : Out := .next (s.messageResend lane)
def execMessageAcknowledgement (m : AckMsg) (s : State) : Out := .next (s.messageAck m)
def execLaneFail (lane : Fin 3) (s : State) : Out := .next (s.laneFail lane)
def execLaneRestored (lane : Fin 3) (s : State) : Out := .next (s.laneRestored lane)
def execResyncStart (s : State) : Out := .next s.resyncStart
def execMirrorLag (us : Nat) (s : State) : Out := .next (s.mirrorLag us)
def execUmpireLost (s : State) : Out := .next s.umpireLost

/-- The run intent lapses (R328); the command that set it ends with NOT_ACTIVE. -/
def execIntentLapse (s : State) : Out :=
  .next (if s.on R.PAIR_STAT_INTENT then
      let s := s.wr R.PAIR_STAT_INTENT 0
      if s.cmdPending 2 || s.cmdPending 3 then s.cmdEnd 0x23 else s
    else s)

def execLoopCompletion (s : State) : Out := .next s.loopCompletion
def execOutputCutoff (join : Bool) (s : State) : Out := .next (if s.sys.latch then s else s.outputCutoff join)
def execExecutionStart (core : Fin 5) (s : State) : Out := .next (s.executionStart core)

/-- The latch instant at every synchronised node (08 R300): the controllers, the local I/O, the standby's decision, the
Umpire's count. After the supply-fail latch nothing of a stroke goes on (01 R45). -/
def execLatchInstant (pins : BitVec 16) (s : State) : Out :=
  .next (if s.sys.latch then s else (((s.florynLatch.dioLatch pins.toNat (3 ≤ s.syncState || s.on R.FBC_SYNC_ACTING)).orphanLatch.umpireLatch).aloneLatch))

/-- Input complete (01 R20, 08 R302, R427, 04 R150): the image is closed with the local inputs and forced, offers are read, and
the loop engine starts or awaits the active unit's digest. -/
def execInputComplete (ws : List (Nat × Nat × Ecc)) (s : State) : Out :=
  .next (
    if s.mode = 0 || s.mode = 1 || s.mode = 7 || s.sys.latch then s
    else
      let s := s.florynInputs
      let s := s.dioInputs.forceInputs
      let s := s.readOffer
      match s.mode with
      | 3 => s.pairInputs ws
      | 4 => s.pairInputs ws
      | 6 => s
      | _ => s.runLoops ws)

end Sys2Proof.Machine
end

