-- ==== Sys2Proof/Machine/Sparing.lean ====
section
/-!
DEFINITION. Machine/Sparing.lean: the failure and the substitution of cores (16 R515 to R518) and the SPARE page.
-/

namespace Sys2Proof.Machine

/-- The physical core held spare, if there is one that works (R513, R515). -/
def State.spareCore (s : State) : Option Nat :=
  let c := s.rd R.SPARE_STAT_SPARECORE
  if c < 5 && !(s.core c).failed then some c else none

/-- An execution of a failed core is abandoned with CODE_ERROR (R516). -/
def State.abandon (s : State) (c : Nat) (bgd : Bool) : State :=
  let k := s.core c
  if bgd then
    match k.bgRun with
    | some r => s.taskFault c true r k.bg.pc (.codeError 0)
    | none => s
  else
    match k.fgRun with
    | some r => s.taskFault c false r k.fg.pc (.codeError 0)
    | none => s

/-- A core fails (R515 to R517), with the cause of CORE_FAILED; `bgBad`: a word of its background context is
uncorrectable. -/
def State.coreFail (s : State) (c cause : Nat) (bgBad : Bool) : State :=
  if (s.core c).failed then s
  else
    let s := s.setCore c { s.core c with failed := true }
    let s := s.wr ⟨R.SPARE_STAT, c, c⟩ 1
    let s := s.raise Ev.spareCoreFailed (c + cause % 4 * 0x100)
    if s.rd R.SPARE_STAT_SPARECORE = c then
      ({ (s.wr R.SPARE_STAT_SPARECORE 7).spareFall 0 0 with spare := { s.spare with subst := none } }).floorElement .core s.coresWork
    else match s.lcoreOf c with
    | none => s
    | some l =>
      let s := s.abandon c false
      let s := if bgBad then s.abandon c true else s
      if s.on R.SPARE_CTL_AUTOCORE.live && s.spareCore.isSome then
        { s with spare := { s.spare with subst := some l } }
      else s.floorElement .core s.coresWork

/-- CORE_FAILED (R515): a core fails by an uncorrectable error (1) or by retiring nothing for 100 us (2). -/
def execCoreFailed (c : Fin 5) (cause : Fin 4) (bgBad : Bool) (s : State) : Out := .next (s.coreFail c.val cause.val bgBad)

/-- The self-test of the spare core is complete (R515). -/
def State.spareTested (s : State) (pass : Bool) : State :=
  match s.spareCore with
  | none => s
  | some c =>
    let s := { s with spare := { s.spare with testing := false, tested := some s.tb.toNat } }
    if pass then s.inc R.SPARE_TEST_PASSED else s.coreFail c 3 false

/-- SPARE_SELF_TEST (R515). -/
def execSpareSelfTest (pass : Bool) (s : State) : Out := .next (s.spareTested pass)

/-- The spare takes over a logical core (R516, R517): EXEC_COREMAP changes, the background context is the spare's, and a
displaced core that works becomes the spare. -/
def State.coreSwap (s : State) (l : Nat) : State :=
  match s.spareCore with
  | none => s.floorElement .core s.coresWork
  | some n =>
    let o := s.physOf l
    let old := s.core o
    let k := s.core n
    let s := s.setCore n { k with bg := old.bg, bgRun := old.bgRun, bgSusp := old.bgSusp, bgHeld := old.bgHeld, g := old.g,
                                  retired := old.retired, limit := old.limit, wait := old.wait, bClocks := old.bClocks }
    let s := s.setCore o { old with bg := {}, bgRun := none, bgSusp := false, bgHeld := false, wait := none, retired := 0,
                                    limit := 0, bClocks := 0 }
    let s := s.wr ⟨R.EXEC_COREMAP, 3 * l + 2, 3 * l⟩ n
    let s := s.wr R.SPARE_STAT_SPARECORE (if old.failed then 7 else o)
    let s := s.raise Ev.spareSubstituted o
    let s := s.inc R.SPARE_SUBST_COUNT
    let s := s.wrb R.SPARE_AVAIL_INSERVICE ((s.lcoreOf 4).isSome)
    (if old.failed then s.spareFall 0 0 else s).floorElement .core s.coresWork

/-- A pending substitution takes effect at a stroke boundary, in TRACK at the one at which the unit leaves TRACK (R516 to
R518, 06 R228); SPARE_CTL takes effect likewise. -/
def State.substBoundary (s : State) (leaving : Bool) : State :=
  let s := s.wrb R.SPARE_CTL_AUTOCORE.live (s.on R.SPARE_CTL_AUTOCORE)
  match s.spare.subst with
  | some l =>
    if s.mode = 4 && !leaving then s
    else { s with spare := { s.spare with subst := none } }.coreSwap l
  | none => s

/-- SPARE_CMD (R515, R517). -/
def State.spareCmd (s : State) (v : Word) : State :=
  let rsn (n : Nat) : State := s.wr R.SPARE_STAT_LASTRSN n
  if bitsOf v 31 16 ≠ 0x5AC0 then s
  else match bitsOf v 7 0 with
  | 1 =>
    if s.mode ≠ 2 && s.mode ≠ 4 then rsn 0x20
    else if s.spare.subst.isSome then rsn 0x21
    else if s.spareCore.isNone then rsn 0x2A
    else
      let s := rsn 0
      { s with spare := { s.spare with subst := some (bitsOf v 9 8) } }
  | 2 =>
    if s.spareCore.isNone then rsn 0x2A
    else if s.spare.testing then rsn 0x21
    else
      let s := rsn 0
      { s with spare := { s.spare with testing := true } }
  | _ => s

/-- A write to the SPARE page. -/
def State.spareWrite (s : State) (r : Req) (a : Nat) (v : Word) : WRes :=
  if isCore r then refuse .requester s
  else if a = R.SPARE_CMD then accept (s.spareCmd v)
  else accept (s.plainWrite a v)

/-- What SPARE_TEST reads: AGE in seconds since the latest self-test of the spare. -/
def State.spareRead (s : State) (a : Nat) : Option Word :=
  if a = R.SPARE_TEST then
    some (bitsSet (s.reg a) 15 0 (match s.spare.tested with
      | some t => min ((s.tb.toNat - t) / ticksPerSecond) 0xFFFF
      | none => 0))
  else none

end Sys2Proof.Machine
end

