-- ==== Sys2Proof/Machine/System.lean ====
section
/-!
DEFINITION. Machine/System.lean: the module's commands (02 R86 to R94), restarts (02 R77 to R79), mode transitions (02 R82 to
R89, 06 R228 to R231, 09 R353 to R365) and the stroke start (01 R15).
-/

namespace Sys2Proof.Machine

/-! ### Modes -/

/-- SYS_STOPRSN. -/
def State.stopReason (s : State) (code arg : Nat) : State := (s.wr R.SYS_STOPRSN_CODE code).wr R.SYS_STOPRSN_ARG arg

/-- The mode changes, with a reason of R91: MODE_CHANGE. In STOP the reason stands in SYS_STOPRSN; entry to RUN and TRACK clears
it and starts the watchdog's window (14 R479). -/
def State.setMode (s : State) (n reason : Nat) : State :=
  let old := s.mode
  let s := (s.wr R.SYS_MODE_PREV old).wr R.SYS_MODE_MODE n
  let s := if n = 2 then s.stopReason reason 0 else if n = 3 || n = 4 then (s.stopReason 0 0).wdtStart else s
  (s.raise Ev.sysModeChange (reason * 0x100 + old * 16 + n)).panelLight

/-- A unit that is no longer active leaves its radio line and its CAN buses (11 R418, R424); what it had begun stays begun. -/
def State.quiet (s : State) : State :=
  let s := { s with radio := { s.radio with inProgress := none } }
  let s := match s.radio.step with
    | .idle => s
    | .defer _ => s.radioStep .idle
    | .sending _ => ((s.out .radioCut).wr (lineBit 3) 0 |>.rts false).radioStep .idle
    | _ => (s.rts false).radioStep .idle
  [0, 1].foldl (fun s c =>
    let q := s.canSt c
    s.setCan c { q with items := q.items.map fun i => { i with onBus := false } }) s

/-- No core is halted outside STOP and HOLD's debugging. -/
def State.unhalt (s : State) : State :=
  ((List.range 5).foldl (fun s c =>
    let s := s.setCore c { s.core c with halted := false, stepping := false }
    s.wr (R.CORE_DBGSTAT_HALTSRC.off (0x1000 * c)) 0) s).freezeCheck

/-- What a unit keeps of following the other, or of leading it, ends with its mode. -/
def State.pairClear (s : State) : State :=
  { s with pair := { s.pair with
      activeSeen := false, awaiting := false, fetching := false, fetchRun := 0, recordSeen := false, outDig := none,
      cutSet := [], provNow := false, provOld := none, provisional := [], div := none, divOld := false, loads := [],
      demoted := false, higher := 0, counts := [], accepted := none, alone := 0, swapAt := none, swap := 0, swapSent := 0,
      released := false, copyStart := none, join := none, copyNext := none, copySent := [], stopAt := none, waits := [], acked := [] } }

/-- Entry to STOP (R84): no execution goes on. -/
def State.enterStop (s : State) (reason : Nat) : State :=
  let s := if s.pairState = 1 then s.quiet else s
  let s := if s.mode = 5 then s.unhalt else s
  let s := if s.on R.PAIR_STAT_SWAPPEND then s.swapFail 0x0A 0x25 else s
  let s := s.dropRuns.pairClear
  let s := { s with pair := { s.pair with items := [] } }
  let s := s.setMode 2 reason
  if s.paired then s.setPair 6 else s

/-- An active unit that leaves its part: a power-state request that is not agreed fails (06 R226), and so do an edit transaction
that is not agreed (04 R172), the host's mailbox commands (01 R48; their reason is log entry 178's choice) and an open update (17
R533). -/
def State.leaveActive (s : State) : State :=
  let s := if s.pwr.due.isSome && !s.pwr.agreed then s.pwrDrop 0x10 else s
  (s.editPairLost.mbxFailAll 0x04).updFailAll 0x10

/-- Entry to HOLD (09 R364): the cores are halted and the unit takes no part in the pair. -/
def State.enterHold (s : State) : State :=
  let s := s.dropRuns.pairClear
  let s := (List.range 5).foldl (fun s c => s.setCore c { s.core c with halted := true, stepping := false }) s
  let s := { s with pair := { s.pair with items := [] } }
  ((s.setMode 5 0).setPair 5).freezeCheck

/-! ### Restarts (R77 to R79) -/

/-- Work in flight ends at a restart, each item reported, and the ledger is clear (R79, 01 R48, 11 R411). -/
def State.endWork (s : State) : State :=
  let s := (((s.netCloseAll 7).radioCloseAll 7).canCloseAll 0 7).canCloseAll 1 7
  let s := ((s.acqFail (fun _ => true) 9).mbxFailAll 9).editRestart
  { s with memory := { s.memory with ledger := [] } }

/-- A restart of the program (R79): what executions of the debugger have written stands (05 R217), the event queues are cleared, then the work ledger is reported. The retain content is
valid from then on, under the program's signature. -/
def State.restartProgram (s : State) (warm fell : Bool) : State :=
  let s := (s.dropRuns.clearEvents.endWork.restartMemory (!warm)).execRestart (!warm)
  let s := ((s.loopRestart (!warm)).coxRestart.forceClear).wdtRestart
  let s := s.wr R.RETAIN_STAT_VALID 1
  let s := { s with memory := { s.memory with retainSig := (s.prog.map Program.signature).getD [] },
                    sys := { s.sys with autoRun := false } }
  let s := (s.wr R.SYS_STAT_CONSENT 0).wr R.PAIR_STAT_INTENT 0
  let s := if fell then s.raise Ev.sysWarmRefused 1 else s
  s.raise Ev.sysRestart warm.toNat

/-- A start from STOP with a requested kind (R78): RUN, or STOP with the reason that is answered. -/
def State.start (s : State) (warm : Bool) : Option Nat × State :=
  match s.startRefusal with
  | some r => (some r, s.stopReason r 0)
  | none =>
    match s.restartKind warm with
    | none =>
      if warm then (some 0x0C, (s.stopReason 0x0C 0).raise Ev.sysWarmRefused 0) else (some 0x0B, s.stopReason 0x0B 0)
    | some w => (none, (s.restartProgram w (warm && !w)).setMode 3 0)

/-! ### Takeover and swap (09 R353, R357, R361, R362) -/

/-- A mirrored item is settled at takeover (01 R48). -/
def State.takeItem (s : State) (m : MirItem) : State :=
  match m.kind with
  | .net k => s.netTake k m
  | .radio => s.radioTake m
  | .can c => s.canTake c m
  | .acq =>
    let q : AcqReq := ⟨m.id, 0, none, m.words.getD 0 0, m.words.getD 1 0, m.words.getD 2 0, m.data, m.started⟩
    match m.ended with
    | some (o, r) => s.acqEnd q o r 0 []
    | none => s.acqEnd q (if m.started then 3 else 2) 9 0 []

/-- Items of a kind that are carried, and that are possibly delivered. -/
def countItems (items : List MirItem) (k : ItemKind) : Nat × Nat :=
  let l := items.filter fun m => decide (m.kind = k) && m.ended.isNone
  ((l.filter fun m => !m.started).length, (l.filter fun m => m.started && m.words.getD 4 0 ≠ 1).length)

/-- Work resumes in the new active unit: announcements, sessions, radio and CAN (11 R404, R410, R418, R424). -/
def State.resumeWork (s : State) (items : List MirItem) : State :=
  let s := s.netResume
  let (a, b) := countItems items .radio
  let s := s.radioResume a b
  [0, 1].foldl (fun s c =>
    let (a, b) := countItems items (.can c)
    s.canResume c a b) s

/-- A unit in TRACK enters ACTIVE (09 R353): the program continues; an edit transaction without an agreed stroke fails unless the
units swap. -/
def State.takeover (s : State) (swap : Bool) : State :=
  let items := s.pair.items
  let s := { s.pairClear with pair := { s.pairClear.pair with items := [] },
                              evt := { s.evt with follow := [], delivered := [], announced := [] } }
  let s := ((s.setMode 3 0).setPair 1).inc R.CLAIM_COUNT_TAKEOVERS
  let s := if swap then (s.raise Ev.pairSwapDone (s.rd R.CLAIM_EPOCH_EPOCH * 4)).editSwap true else s.editPairLost
  ((items.foldl State.takeItem (s.updFailAll 0x10))).resumeWork items

/-- The queues of a unit whose items another unit has taken over are empty. -/
def State.dropItems (s : State) : State :=
  let s := { s with net := { s.net with items := [] }, radio := { s.radio with items := [] },
                    fbc := { s.fbc with acq := [] } }
  [0, 1].foldl (fun s c => s.setCan c { s.canSt c with items := [] }) s

/-- The requesting unit of a swap enters TRACK at the boundary at which the other becomes active (09 R357); a power-state request
that is not agreed fails (06 R226). -/
def State.swapOut (s : State) : State :=
  let items := s.mirrorItems
  let s := if s.pwr.due.isSome && !s.pwr.agreed then s.pwrDrop 0x10 else s
  let s := ((s.quiet.dropItems.wr R.PAIR_STAT_SWAPPEND 0).pairReason 0).pairClear
  let s := { s with pair := { s.pair with items := items } }
  let s := { s with evt := { s.evt with follow := [], delivered := [], announced := [] } }
  let s := (((s.setMode 4 0).setPair 2).editSwap false).updFailAll 0x10
  (s.raise Ev.pairSwapDone (s.rd R.CLAIM_EPOCH_EPOCH * 4)).cmdEnd 0

/-- The join (09 R359): the unit enters TRACK in the power state that the active unit sent, and the switch that is agreed there
is pending here. A power-state request of its own that has not taken effect ends with it (02 R94; log entry 168). -/
def State.joinPair (s : State) (p : Nat) (pw : Option (Nat × Nat)) : State :=
  let ms := s.copyMs
  let s := if s.pwr.due.isSome then s.pwrDrop 0x25 else s
  let s := match pw with
    | some (n, q) => { (s.wr R.PWR_STAT_PENDING 1).wr R.PWR_STAT_TARGET q with pwr := { s.pwr with due := some n, agreed := true } }
    | none => s
  let s := s.dropItems.pairClear
  let s := { s with exec := { s.exec with imaged := true },
                    evt := { s.evt with follow := [], delivered := [], announced := [] },
                    pair := { s.pair with items := [] } }
  let s := (s.wr R.SYS_STAT_RESYNC 0).setReg R.PAIR_JOIN (BitVec.ofNat 32 s.stroke)
  let s := if s.pstate = p then s else s.setPstate p
  (((s.setMode 4 0).setPair 2).wr R.PAIR_RESYNC_MS (min ms 0xFFFF)).raise Ev.pairResyncDone (min ms 0xFFFF)

/-! ### PARK (06 R229 to R231) -/

/-- Entry to PARK. -/
def State.enterPark (s : State) : State :=
  let old := s.pstate
  let s := ((s.resyncFail 4).dropRuns).pairClear
  let s := (((s.netCloseAll 6).radioCloseAll 6).canCloseAll 0 6).canCloseAll 1 6
  let s := s.acqFail (fun _ => true) 9
  let s := (s.setMode 7 0).linkDown
  let s := (s.setSync 0).showPll false
  let s := ((s.wr R.CLK_STAT_LOCK 0).wr R.CLK_STAT_COAST 0).floorElement .pll false
  let s := { s.dioSafe with pwr := { s.pwr with due := none, agreed := false, unpark := none } }
  let s := ((s.wr R.PWR_STAT_STATE 3).wr R.PWR_STAT_PENDING 0).wr R.PWR_TRANS_STROKE s.stroke
  s.raise Ev.pwrTransitionComplete (old * 4 + 3)

/-- A stroke start while PARK is being left (R231): the second boundary after synchronisation ends it in STOP. -/
def State.unparkStroke (s : State) : State :=
  match s.pwr.unpark with
  | some n =>
    if s.syncState ≠ 4 then s
    else if 1 < n then { s with pwr := { s.pwr with unpark := some (n - 1) } }
    else
      let p := s.rd R.PWR_STAT_TARGET
      let s := { s with pwr := { s.pwr with unpark := none } }
      let s := ((s.setPstate p).wr R.PWR_STAT_PENDING 0).wr R.PWR_TRANS_STROKE s.stroke
      let s := (s.raise Ev.pwrTransitionComplete (12 + p)).setMode 2 0
      if s.paired then s.setPair 6 else s
  | none => s

/-! ### The commands of SYS_CMD (R86 to R89) -/

/-- A command that ends at once, or is refused. -/
def State.cmdAnswer (s : State) (code reason : Nat) : State :=
  let s := s.wr R.SYS_CMDSTAT_REASON reason
  let s := if s.on R.SYS_CMDSTAT_PENDING then s else s.wr R.SYS_CMDSTAT_CODE code
  s.raise Ev.sysCmdDone (reason * 0x100 + code)

/-- A command is pending from now on; a transition of its own is due at the next stroke boundary (R83). -/
def State.cmdAccept (s : State) (code : Nat) : State :=
  let s := ((s.wr R.SYS_CMDSTAT_CODE code).wr R.SYS_CMDSTAT_REASON 0).wr R.SYS_CMDSTAT_PENDING 1
  { s with sys := { s.sys with accepted := s.sys.accepted + 1, cmdOrder := s.sys.accepted, cmdDue := s.extStroke + 1 } }

/-- STOP (R86, R87): in a pair the active unit agrees the stroke with the other. -/
def State.cmdStop (s : State) : State :=
  if s.mode = 4 then s.cmdAnswer 1 0x23
  else if s.mode ≠ 3 then s.cmdAnswer 1 0x20
  else
    let s := s.cmdAccept 1
    if s.paired then { s with pair := { s.pair with stopAt := some (s.extStroke + 2) } } else s

/-- START_WARM and START_COLD (R78, R86, R87, 09 R328): in a pair without an active unit the command sets the run intent. -/
def State.cmdStart (s : State) (warm : Bool) : State :=
  let code := if warm then 2 else 3
  if s.mode = 4 then s.cmdAnswer code 0x23
  else if s.mode ≠ 2 then s.cmdAnswer code 0x20
  else if s.paired && s.rd R.PAIR_STAT_PEER = 1 then s.cmdAnswer code 0x23
  else match s.startRefusal with
  | some r => s.cmdAnswer code r
  | none =>
    match s.restartKind warm with
    | none =>
      if warm then ((s.stopReason 0x0C 0).raise Ev.sysWarmRefused 0).cmdAnswer code 0x0C
      else (s.stopReason 0x0B 0).cmdAnswer code 0x0B
    | some _ =>
      let s := s.cmdAccept code
      if s.paired then s.wr R.PAIR_STAT_INTENT 1 else s

/-- PERSIST (R93). -/
def State.cmdPersist (s : State) : State := if s.mode = 0 then s.cmdAnswer 8 0x20 else s.cmdAccept 8

/-- COLD_CONSENT (R78). -/
def State.cmdConsent (s : State) : State :=
  if s.mode = 1 || s.mode = 2 then (s.wr R.SYS_STAT_CONSENT 1).cmdAnswer 9 0 else s.cmdAnswer 9 0x20

/-- HOLD (09 R364). -/
def State.cmdHold (s : State) : State :=
  if s.rd R.SYS_STRAP_ROLE = 0 then s.cmdAnswer 0xA 0x24
  else if s.mode ≠ 4 || s.pairState = 3 then s.cmdAnswer 0xA 0x20
  else if s.pair.swapAt.isSome || s.pair.accepted.isSome then s.cmdAnswer 0xA 0x21
  else s.cmdAccept 0xA

/-- RELEASE (09 R365). -/
def State.cmdRelease (s : State) : State := if s.mode = 5 then s.cmdAccept 0xB else s.cmdAnswer 0xB 0x20

/-- SWAP (09 R355). -/
def State.cmdSwap (s : State) : State :=
  if s.rd R.SYS_STRAP_ROLE = 0 then s.cmdAnswer 0xC 0x24
  else if s.pairState ≠ 1 then s.cmdAnswer 0xC 0x20
  else match s.swapRefusal with
  | 0 =>
    let s := ((s.cmdAccept 0xC).wr R.PAIR_STAT_SWAPPEND 1).pairReason 0
    { s with pair := { s.pair with swap := 1 } }
  | r => ((s.pairReason r).raise Ev.pairSwapRefused r).cmdAnswer 0xC 0x20

/-- A write of SYS_CMD (R86, R88): true when it makes a reset. -/
def State.sysCmd (s : State) (v : Word) : Bool × State :=
  let code := bitsOf v 7 0
  if bitsOf v 31 16 ≠ 0xC0C5 then (false, s.cmdAnswer code 0x22)
  else if s.on R.SYS_CMDSTAT_PENDING then (false, s.cmdAnswer code 0x21)
  else match code with
  | 0x01 => (false, s.cmdStop)
  | 0x02 => (false, s.cmdStart true)
  | 0x03 => (false, s.cmdStart false)
  | 0x06 => if [2, 4, 5, 6, 7].contains s.mode then (true, s.cmdAnswer 6 0) else (false, s.cmdAnswer 6 0x20)
  | 0x07 => (false, s.cmdAnswer 7 0x26)
  | 0x08 => (false, s.cmdPersist)
  | 0x09 => (false, s.cmdConsent)
  | 0x0A => (false, s.cmdHold)
  | 0x0B => (false, s.cmdRelease)
  | 0x0C => (false, s.cmdSwap)
  | n => (false, s.cmdAnswer n 0x20)

/-- The sequence number that PERSIST gives (R93): 1 where no copy is valid (DESIGN CHOICE, log entry 166). -/
def State.settingsSeq (s : State) : Word :=
  let n (c : Option Settings) : Nat := (c.map fun x => x.seq.toNat).getD 0
  BitVec.ofNat 32 (max (n s.sys.copy0) (n s.sys.copy1) + 1)

/-- The settings as they stand. -/
def State.settingsNow (s : State) : Settings := ⟨s.settingsSeq, s.reg R.SYS_PONTGT, s.reg R.SYS_RSTCFG⟩

/-- PERSIST_DONE (R93, 10 R378): the two writes are over; `bad0` and `bad1` name the flash blocks whose write fails in turn. A copy
whose write failed stays as it was. -/
def State.persistDone (s : State) (bad0 bad1 : List Nat) : State :=
  if !s.cmdPending 8 then s
  else
    let x := s.settingsNow
    let (ok0, s) := s.flashWrite 14 bad0
    let (ok1, s) := s.flashWrite 14 bad1
    let s := { s with sys := { s.sys with copy0 := if ok0 then some x else s.sys.copy0,
                                          copy1 := if ok1 then some x else s.sys.copy1 } }
    if ok0 || ok1 then (s.raise Ev.sysPersistDone 0).cmdEnd 0 else (s.raise Ev.sysPersistFailed 0).cmdEnd 0x28

/-- A supply failure or a reset of the Marshal cuts a PERSIST off at a point that the spec leaves open (R94): a free value
chooses among no write, copy 0 being written, copy 0 written, copy 1 being written, of those that leave a valid copy. -/
def State.persistCut (s : State) : State :=
  if !s.cmdPending 8 then s
  else
    let x := s.settingsNow
    let c := s.sys
    let ways := [(c.copy0, c.copy1), (none, c.copy1), (some x, c.copy1), (some x, none)].filter fun w => w.1.isSome || w.2.isSome
    let (a, b) := ways.getD (s.free.toNat % ways.length) (some x, c.copy1)
    { s.used with sys := { c with copy0 := a, copy1 := b } }

/-! ### Mode transitions at a stroke boundary (R89, 06 R228) -/

/-- The mode command that is due now. -/
def State.dueCmd (s : State) : Option Nat :=
  let c := s.rd R.SYS_CMDSTAT_CODE
  if !s.on R.SYS_CMDSTAT_PENDING || s.extStroke < s.sys.cmdDue then none
  else if c = 0xA || c = 0xB then some c
  else if (c = 1 || c = 2 || c = 3) && !s.paired then some c
  else none

/-- A PARK request is due now. -/
def State.parkDue (s : State) : Bool :=
  match s.pwr.due with
  | some n => decide (n ≤ s.extStroke) && s.rd R.PWR_STAT_TARGET = 3
  | none => false

/-- A commanded transition. -/
def State.doCmd (s : State) (c : Nat) : State :=
  match c with
  | 1 => if s.mode = 3 then (s.enterStop 1).cmdEnd 0 else s.cmdEnd 0x20
  | 0xA => if s.mode = 4 then s.enterHold.cmdEnd 0 else s.cmdEnd 0x20
  | 0xB =>
    if s.mode = 5 then
      let s := (s.enterStop 0).cmdEnd 0
      { s with pair := { s.pair with released := true } }
    else s.cmdEnd 0x20
  | _ => if s.mode = 2 then let (r, s) := s.start (c = 2); s.cmdEnd (r.getD 0) else s.cmdEnd 0x20

/-- An automatic transition wins over a mode command and a PARK request of its boundary (R89). -/
def State.supersede (s : State) : State :=
  let c := s.rd R.SYS_CMDSTAT_CODE
  let s := if [1, 2, 3, 0xA, 0xB].contains c then s.cmdEnd 0x25 else s
  if s.parkDue then s.pwrDrop 0x25 else s

/-- The reason of the STOP that falls on this boundary: a request or a trip, a divergence found before it (09 R336), a demotion
(R82, R89). A STOP by
program request or task fault counts as an automatic transition: DESIGN CHOICE, log entry 167. -/
def State.dueStop (s : State) : Option Nat :=
  if s.mode = 3 || s.mode = 4 then
    match s.sys.stopReqs.head? with
    | some r => some r
    | none => if s.mode = 4 && s.pair.div.isSome && s.pair.divOld then some 0x10 else if s.pair.demoted then some 0x0F else none
  else if s.mode = 5 then s.sys.stopReqs.find? fun r => r = 0x0D
  else none

/-- A divergence is reported with the STOP it makes (09 R336). -/
def State.reportDiv (s : State) : State :=
  match s.pair.div with
  | some (n, c) =>
    if s.mode = 4 then (s.setReg R.PAIR_DIVSTROKE (BitVec.ofNat 32 n)).raise Ev.pairDiverged c else s
  | none => s

/-- A unit accepts the active role at this boundary (09 R350). -/
def State.doAccept (s : State) : State :=
  if s.mode = 4 then s.supersede.takeover (s.on R.CLAIM_UMP_SWAP && s.on R.PAIR_STAT_UMPIRE)
  else if s.mode = 2 then
    let (r, s) := s.start s.wantWarm
    let s := { s with pair := { s.pair with accepted := none } }
    let s := s.wr R.PAIR_STAT_INTENT 0
    let s := if s.cmdPending 2 || s.cmdPending 3 then s.cmdEnd (r.getD 0) else s
    if r.isNone then
      let s := if s.parkDue then s.pwrDrop 0x25 else s
      ((s.setPair 1).inc R.CLAIM_COUNT_TAKEOVERS).resumeWork []
    else s
  else { s with pair := { s.pair with accepted := none } }.inc R.CLAIM_COUNT_TAKEOVERS

/-- A swap whose offer has not come by the second boundary after its request ends SUPERSEDED (09 R356, R357; log entry 188). -/
def State.swapLapse (s : State) : State :=
  if (s.pair.swap = 2 || s.pair.swap = 3) && s.pair.swapAt.isNone && s.pair.swapSent + 2 ≤ s.extStroke then s.swapFail 0x0A 0x25
  else s

/-- Mode transitions: automatic ones first, then the agreed stop, then commands in the order of acceptance, then a restart that
is due without a command. Nothing leaves STOP while a Floryn configuration is applied (08 R298): a PARK request that is due waits,
and a copy that would join ends. -/
def State.modeBoundary (s : State) : State :=
  let n := s.extStroke
  match s.dueStop with
  | some r =>
    let s : State := { s.reportDiv with sys := { s.sys with stopReqs := [] } }
    let s := if s.pairState = 1 then s.leaveActive else if s.edit.mirrored then s.editPairLost else s
    (s.enterStop r).supersede
  | none =>
    let s := { s with sys := { s.sys with stopReqs := [] } }
    if s.pair.accepted.isSome then s.doAccept
    else if s.mode = 3 && (s.pair.swap = 4 || s.pair.swapAt.any (· ≤ n)) then s.swapOut
    else if s.mode = 4 && s.pair.swapAt.any (· ≤ n) then s.supersede.takeover true
    else if (s.mode = 3 || s.mode = 4) && s.pair.stopAt.any (· ≤ n) then
      let s := s.editAlone.enterStop 1
      if s.cmdPending 1 then s.cmdEnd 0 else s
    else match s.mode, s.pair.join with
    | 2, some (k, p, pw) =>
      if s.parkDue && !s.cfgBusy then s.enterPark
      else if n < k then s
      else if s.cfgBusy then s.resyncFail 3
      else s.joinPair p pw
    | _, _ =>
      match s.dueCmd, s.parkDue && !s.cfgBusy with
      | some c, true =>
        if s.sys.cmdOrder < s.pwr.order then (s.doCmd c).pwrDrop 0x25 else s.enterPark.cmdEnd 0x25
      | some c, false => s.doCmd c
      | none, true => s.enterPark
      | none, false =>
        if s.mode = 2 && s.sys.autoRun && !s.cfgBusy then
          if s.paired then
            if s.rd R.PAIR_STAT_PEER = 1 then s
            else { s.wr R.PAIR_STAT_INTENT 1 with sys := { s.sys with autoRun := false } }
          else
            let s := { s with sys := { s.sys with autoRun := false } }
            (s.start (s.on R.SYS_PONTGT_KIND)).2
        else s

/-! ### The stroke start -/

/-- What ended with the stroke: the standby's image, the channels, the masters, the pair (R15, 08 R295, 09 R331, R335). -/
def State.endStroke (s : State) : State :=
  let s : State := { s with pair := { s.pair with divOld := s.pair.div.isSome } }
  let s := s.standbyStroke
  let s := ((s.channelsStroke.mastersStroke).measureStroke.mgmtStroke).grantStroke
  let s := (s.linkStroke.latentStroke).countStroke.clearStroke
  { s with pair := { s.pair with activeSeen := false } }

/-- An edit activation; the transaction's number goes out in the O-frames from this stroke on (06 R228, 08 R297), and the floors
follow the new program (02 R73, R76). -/
def State.activateBoundary (s : State) : State :=
  let t := s.editBoundary
  match s.edit.tx, t.edit.tx with
  | some x, none => { t with fbc := { t.fbc with activated := some (x.txid, t.extStroke + 1) } }.floorNow
  | _, _ => t

/-- The changes of a stroke boundary in the order of 06 R228. -/
def State.strokeChanges (s : State) : State :=
  ((s.substBoundary s.dueStop.isSome).powerBoundary.activateBoundary).swapLapse.modeBoundary

/-- The first stroke in which a unit operates with NOUMPIRE set raises NO_UMPIRE_MODE (09 R354). -/
def State.noteNoUmpire (s : State) : State :=
  if !s.paired || !s.on R.PAIR_CFG_NOUMPIRE || s.pair.umpNoted || (s.mode ≠ 3 && s.mode ≠ 4) then s
  else { s with pair := { s.pair with umpNoted := true } }.raise Ev.pairNoUmpireMode 0

/-- A stroke of INIT passes while Floryn synchronisation runs (R64). -/
def State.initStroke (s : State) : State :=
  if s.mode = 1 then { s with sys := { s.sys with initStrokes := min 64 (s.sys.initStrokes + 1) } } else s

/-- STROKE_START (R15). -/
def State.strokeStart (s : State) : State :=
  if s.mode = 0 || s.sys.stage < 7 || s.sys.latch || (s.mode = 7 && s.pwr.unpark.isNone) then s
  else
    let s := s.endStroke.initStroke
    let s := if s.mode = 7 then s.unparkStroke else s.strokeChanges.noteNoUmpire
    let s := (s.cfgSwitch.forceStroke).storeBoundary.coxStroke
    (s.showWorking.actingStroke).sendProbes.heartbeat.copyStroke

/-! ### Meanings -/

def execStrokeStart (s : State) : Out := .next s.strokeStart

def execPersistDone (bad0 bad1 : List Nat) (s : State) : Out := .next (s.persistDone bad0 bad1)

end Sys2Proof.Machine
end

