-- ==== Sys2Proof/Machine/Boot.lean ====
section
/-!
DEFINITION. Machine/Boot.lean: resets (02 R59 to R63), the power-on sequence (02 R64 to R67, R582), the end of INIT (02 R75, R95)
and the loss of the PLL's reference (14 R469, R470).
-/

namespace Sys2Proof.Machine

/-! ### What a reset keeps (02 R59, and the registers marked Kept) -/

/-- The sources of a reset, by their bit in SYS_RSTCAUSE. -/
inductive Cause where
  | powerOn | supplyReturn | rstN | watchdog | clockMonitor | hostCommand
  deriving DecidableEq, Repr

/-- The cause's bit. -/
def Cause.bit : Cause → Nat
  | .powerOn => 0 | .supplyReturn => 1 | .rstN => 2 | .watchdog => 3 | .clockMonitor => 4 | .hostCommand => 5

/-- Power was absent before it. -/
def Cause.power (c : Cause) : Bool := c.bit < 2

/-- It resets the Marshal, and the straps are sampled after it. -/
def Cause.marshal (c : Cause) : Bool := c.bit < 3

/-- Registers kept through every reset. -/
def keptAlways : List Nat := [
  R.SYS_STRAP, R.SYS_OUTAGE, R.FLASH_SPARE, R.FLASH_WRITTEN, R.LOG_DROP0, R.LOG_CLEARCNT, R.RETAIN_STORECNT0,
  R.RETAIN_STORECNT1, R.RETAIN_WEAKCNT, R.RETAIN_BANK, R.MEM_BANK, R.SPARE_AVAIL, R.SPARE_SUBST, R.SEC_PROFSEL, R.PANEL_UPDCNT,
  R.MBX_BOOTCNT, R.DIO_SURGE0, R.DIO_LEGS, R.CLAIM_EPOCH, R.CLAIM_COUNT]

/-- Registers kept through resets without a loss of power; among them EH, which starts at 0 at power-up alone (08 R306). -/
def keptPowered : List Nat := [R.CLK_LOSSCNT, R.MBX_MSTAT, R.SPARE_STAT, R.SPARE_TEST, R.FBC_EPOCH]

/-- Registers kept through resets that leave the Marshal running (14 R484). -/
def keptMarshal : List Nat := [
  R.WDT_EVCAUSE, R.WDT_EVPC0, R.WDT_EVTASK, R.WDT_EVSVCLO, R.WDT_EVSVCHI, R.WDT_EVSTROKE]

/-- A reset leaves the register at an address. The calendar's registers are kept but for its staged time and VBAT; the mailbox's
while the Marshal runs on. -/
def Cause.keeps (c : Cause) (a : Nat) : Bool :=
  let page := a % 0x100000 / 0x1000
  let row := match regSpec? a with | some (r, i) => a % 0x100000 - i * r.stride | none => 0
  if a % 0x1000 < 0x100 then false
  else if page = 7 then a < 0x100000 && ! [R.RTC_STGTIME, R.RTC_STGDATE, R.RTC_VBAT].contains a
  else if page = 0xF && !c.marshal then true
  else a < 0x100000 && (keptAlways.contains row || (!c.power && keptPowered.contains row) || (!c.marshal && keptMarshal.contains row))

/-- The persisted settings that a start uses: the valid copy with the higher sequence number (R93). -/
def State.settings (s : State) : Option Settings :=
  match s.sys.copy0, s.sys.copy1 with
  | some a, some b => if a.seq.toNat < b.seq.toNat then some b else some a
  | some a, none => some a
  | none, b => b

/-- The mailbox after a reset: open commands have failed with RESET; the ledger still holds them for the report (01 R48). -/
def State.mbxAfter (s : State) (c : Cause) : MbxState :=
  if c.marshal then { nextId := s.mbx.nextId }
  else
    let ended := s.mbx.cmds.map fun x => (⟨x.id, 2, false, 9, [], 0⟩ : MbxResult)
    { s.mbx with cmds := [], results := (ended.reverse ++ s.mbx.results).take 4096 }

/-- Open TCP sessions are closed with RST as a reset begins (11 R411); RTS is released. -/
def State.cutLines (s : State) : State :=
  let s := (List.range 128).foldl (fun s k =>
    let st := s.sessState k
    if st = 0 || st = 2 || s.sessKind k = 3 then s
    else s.sendSeg k ((s.nsess k).una + (s.nsess k).flight) false true false true []) s
  s.quiet

/-- The memories after a reset. -/
def State.memoryAfter (s : State) (c : Cause) : MemState :=
  let m : MemState := { slot0 := s.memory.slot0, slot1 := s.memory.slot1, weak := s.memory.weak, lifeWarned := s.memory.lifeWarned }
  if c.power then m
  else { m with poison := s.memory.poison, ledger := s.memory.ledger, retainSig := s.memory.retainSig }

/-- After every reset logical core n maps to MCn again (04 R126), so that MC4 is the spare unless it has failed. -/
def State.spareAfter (s : State) : State :=
  let bad := (s.core 4).failed
  let s := (s.wr R.SPARE_STAT_LASTRSN 0).wr R.SPARE_STAT_SPARECORE (if bad then 7 else 4)
  (s.wr R.SPARE_AVAIL_FREE (!bad).toNat).wr R.SPARE_AVAIL_INSERVICE 0

/-- The state right after a reset (R59 to R61, R582), in INIT or, where `recovery` says so, in RECOVERY (R57, R67). -/
def State.resetBy (s : State) (c : Cause) (recovery : Bool) : State :=
  let s := if c.marshal then s.persistCut else s.persistDone [] []
  let s := if c.power then s else s.cutLines
  let s := s.updReset
  let refclk := s.ready 1 && !c.marshal
  let b : State := { State.reset with
    pending := s.pending, wire := s.wire, fresh := s.fresh, tb := if c.power then 0 else s.tb,
    regs := s.regs.filter (fun p => c.keeps p.1), mem := if c.power then [] else s.mem,
    recorder := if c.power then s.logPowerOff.recorder else s.recorder,
    sys := { accepted := s.sys.accepted, copy0 := s.sys.copy0, copy1 := s.sys.copy1,
             epoch0 := s.sys.epoch0, epoch1 := s.sys.epoch1,
             stage := if c.marshal then 1 else if refclk then 3 else 2, failStart := s.sys.failStart,
             retainDue := if c.power then 1 else 2 },
    memory := s.memoryAfter c,
    exec := { cores := if c.power then [] else (List.range 5).filterMap fun n =>
      if (s.core n).failed then some (n, { failed := true }) else none },
    edit := { flash := s.edit.flash },
    wdt := if c.marshal then {} else { stage2 := s.wdt.stage2, monitor := s.wdt.monitor },
    rtc := { s.rtc with shadows := [] },
    dio := { raw := s.dio.raw, filt := s.dio.filt, leg1 := s.dio.leg1, leg2 := s.dio.leg2, supply := s.dio.supply },
    panel := { shown := s.panel.shown },
    mbx := s.mbxAfter c,
    spare := { tested := if c.power then none else s.spare.tested },
    upd := s.upd, sec := { keys := s.sec.keys } }
  let b := b.wr ⟨R.SYS_RSTCAUSE, c.bit, c.bit⟩ 1
  let b := b.wr R.SYS_MODE_MODE (if recovery then 0 else 1)
  let b := b.spareAfter
  let b := b.wr R.MBX_BOOTCNT_COUNT (s.rd R.MBX_BOOTCNT_COUNT + 1)
  let b := b.wr R.DIO_LEGS_FAILED 0
  let b := (b.wr R.FLASH_STAT_LIFE (s.rd R.FLASH_STAT_LIFE)).wrb R.FLASH_STAT_READONLY (s.on R.FLASH_STAT_READONLY)
  let b := b.wr R.CLAIM_EPOCH_EPOCH (max (s.sys.epoch0.getD 0) (s.sys.epoch1.getD 0))
  let b := if c.marshal then b.wr R.MBX_MSTAT_HEALTHY 0 else b
  let b := if s.pair.copyStart.isSome then b.wr R.PAIR_STAT_LASTRSN 0x0B else b
  let b := b.wr R.SEC_PROFILE_PROF (s.rd R.SEC_PROFSEL_PROF)
  let b := (b.wrb ⟨R.CLK_READY, 1, 1⟩ refclk).wrb ⟨R.CLK_READY, 2, 2⟩ (s.ready 2)
  let b := ((b.wr R.RTC_STAT_SHREL 0).wr R.RTC_STAT_VBATLOW 0).wr R.RTC_STAT_LASTRSN 0
  let b := if c.power then b
    else (b.wrb R.RETAIN_STAT_VALID (s.on R.RETAIN_STAT_VALID)).wrb R.RETAIN_STAT_HUREADY (s.on R.RETAIN_STAT_HUREADY)
  match b.settings with
  | some x => (b.setReg R.SYS_PONTGT x.pontgt).setReg R.SYS_RSTCFG x.rstcfg
  | none => if c.marshal then b else b.raise Ev.sysFactoryFallback 0

/-- The interval in which VIN24 was absent has ended (R80): its length in calendar seconds, or 0. -/
def State.outage (s : State) : State :=
  let n := match s.sys.outageFrom with
    | some t => if s.on R.RTC_STAT_VALID then min (s.rtc.secs - t) 0xFFFFFFFF else 0
    | none => 0
  s.wr R.SYS_OUTAGE_S n

/-- VIN24 has come back: a power-on or a supply-return reset; `calLost` says that the calendar domain has been without power
(15 R501), `vbatMin` the minimum of VBAT in mV that the calendar domain recorded during the outage (15 R500). -/
def State.powerUp (s : State) (c : Cause) (calLost : Bool) (vbatMin : Nat) : State :=
  let s := if calLost then s else s.outage
  let s := s.resetBy c false
  let s := if calLost then (s.wr R.SYS_OUTAGE_S 0).calendarReset else s
  let s := (s.wr R.RTC_VBAT_MIN (min vbatMin 0xFFFF)).vbat vbatMin
  if calLost then s.raise Ev.rtcCalendarLost 0 else s

/-- A reset that leaves VIN24 present; none after the supply-fail latch (R62, R63). -/
def State.resetNow (s : State) (c : Cause) (recovery : Bool) : State :=
  if s.sys.latch || s.sys.stage = 0 then s else s.resetBy c (recovery || (!c.marshal && s.rd R.SYS_STRAP_RECOV_N = 0))

/-! ### The power-on sequence -/

/-- The step of the sequence that has passed. -/
def State.setStage (s : State) (n : Nat) : State := { s with sys := { s.sys with stage := n } }

/-- The strap instant (R55 to R57): the Marshal's start, at which the persisted settings are read (R93). -/
def State.strapInstant (s : State) (role recov delay : Nat) : State :=
  if s.sys.stage ≠ 1 || s.sys.latch then s
  else
    let s := ((s.wr R.SYS_STRAP_ROLE role).wr R.SYS_STRAP_RECOV_N recov).wr R.SYS_STRAP_XTAL_DELAY delay
    let s := if s.settings.isNone then s.raise Ev.sysFactoryFallback 0 else s
    let s := if recov = 0 then s.wr R.SYS_MODE_MODE 0 else s
    s.setStage 2

/-- RECOVERY because no slot of a region passes (R65). -/
def State.regionFails (s : State) (n : Nat) : State := (s.setMode 0 0x12).stopReason 0x12 n

/-- A region starts (R65, 17 R535): `pass b` says whether slot b passes its verification. Answers whether one serves. -/
def State.bootRegion (s : State) (n : Nat) (pass : Bool → Bool) : Bool × State :=
  match s.updBoot n pass with
  | (some (_, p), s) => (true, { s with sys := { s.sys with preferred := s.sys.preferred && p } })
  | (none, s) => (false, s.regionFails n)

/-- BOOT2_VERIFIED (R64, R65). -/
def State.boot2 (s : State) (passA passB : Bool) : State :=
  if s.sys.stage ≠ 4 || s.mode ≠ 1 || s.sys.latch then s
  else
    let (ok, s) := s.bootRegion 1 fun b => if b then passB else passA
    if ok then s.setStage 5 else s

/-- CONFIG gives the Floryn configuration, staged and in force, and DIO_MAP (08 "FBC page", 12 R425): registers with values. -/
def State.loadConfig (s : State) (config : List (Nat × Word)) : State :=
  let s := config.foldl (fun s p =>
    if fbcStaged.contains p.1 then let s := s.plainWrite p.1 p.2; s.setReg (p.1 + liveBank) (s.reg p.1)
    else if p.1 = R.DIO_MAP then s.plainWrite p.1 p.2 else s) s
  (s.wr R.EXEC_STROKELEN_LEN (s.rd R.FBC_STROKECFG_LEN.live)).checkLine.2.showLanes

/-- REGIONS_LOADED (R65): for FW, MARSHAL, TABLES and CONFIG in that order, whether each slot passes; then the panel's size
and the registers that CONFIG gives, and the waveform table of TABLES. -/
def State.regionsLoaded (s : State) (pass : Fin 4 → Bool → Bool) (width height : Nat) (table : List Byte)
    (config : List (Nat × Word)) : State :=
  if s.sys.stage ≠ 5 || s.mode ≠ 1 || s.sys.latch then s
  else
    let (ok, s) := ([0, 1, 2, 3] : List (Fin 4)).foldl (fun (r : Bool × State) i =>
      if r.1 then r.2.bootRegion (2 + i.val) (pass i) else r) (true, s)
    if !ok then s
    else
      let s := (s.wr R.PANEL_GEOM_WIDTH width).wr R.PANEL_GEOM_HEIGHT height
      let s := ({ s with panel := { s.panel with table := table } }.showTable).loadConfig config
      s.setStage 6

/-- SELF_TEST_COMPLETE (R64, R72 to R74, 16 R515): the service paths that work, the cores that fail, the banks of main SRAM that
work, and the other elements, after the Marshal has brought spares in; `io` is the local I/O. The Marshal's own self-test has passed (MBX_MSTAT.HEALTHY). -/
def State.selfTest (s : State) (paths : BitVec 5) (failed : BitVec 5) (banks : BitVec 17) (evtCox io loop : Bool) : State :=
  if s.sys.stage ≠ 6 || s.mode ≠ 1 || s.sys.latch then s
  else
    let s := (List.range 5).foldl (fun s c => if failed.getLsbD c then s.coreFail c 3 false else s) s
    let s := (List.range 17).foldl (fun s b => s.wrb (R.MEM_BANK_OK.off (4 * b)) (banks.getLsbD b)) s
    let s := (s.wr R.SYS_FLOOR_PATHS paths.toNat).setWorks .pll (s.on R.CLK_STAT_LOCK)
    let s := ((s.setWorks .core s.coresWork).setWorks .sram s.banksWork).setWorks .evtCox evtCox
    let s := { s with sys := { s.sys with localIo := io } }
    let s := ((s.setWorks .retain s.recalled).setWorks .io (io || s.anyWorking)).setWorks .loop loop
    let s := ((s.evalFloor.setStage 7).substBoundary false).wr R.MBX_MSTAT_HEALTHY 1
    s.raise Ev.sysFloorChange (s.reg R.SYS_FLOOR).toNat

/-- PATH_RETRY (R72): with the diagnostic floor unmet the service paths are tried again. -/
def State.pathRetry (s : State) (host eth1 radio : Bool) : State :=
  if s.mode ≠ 1 || s.sys.stage < 7 || s.diagMet then s
  else ((s.floorElement .hostPort host).floorElement .eth1 eth1).floorElement .radio radio

/-! ### The program and the ledger (R64, 01 R48, R49) -/

/-- An item that a loss of power or a reset found in flight is reported, and its identity is not used again. -/
def State.reportItem (s : State) (e : LedgerItem) : State :=
  let o := if e.started then 3 else 2
  let n := (e.id + 1) % 65536
  match e.kind with
  | .net => { s.netEnd ⟨e.id, e.unit, [], e.started⟩ o 7 with net := { (s.netEnd ⟨e.id, e.unit, [], e.started⟩ o 7).net with nextId := n } }
  | .radio =>
    let t := s.radioEnd { id := e.id, prio := 0, ackReq := false, data := [], begun := e.started } o 7
    { t with radio := { t.radio with nextId := n } }
  | .can =>
    let t := s.canEnd e.unit { id := e.id, txid := 0, cfg := 0, data := [], begun := e.started } o 7
    t.setCan e.unit { t.canSt e.unit with nextId := n }
  | .acq =>
    let t := s.acqEnd ⟨e.id, 0, none, 0, 0, 0, [], e.started⟩ o 9 0 []
    { t with fbc := { t.fbc with nextReq := n } }
  | .mbx => s.mbxOutcome ⟨e.id, 0, 0, []⟩ 2 9 false []
  | .edit =>
    if s.edit.flash.any fun f => f.tx.txid = e.id then s else s.raise Ev.editFailed (s.editData e.id)
  | _ => s

/-- The ledger is reported and empty (R49); staged transactions without a marker, which stood in flash or in this ledger, have
failed. -/
def State.reportLedger (s : State) : State :=
  let marked := s.markedTxs
  let s := s.memory.ledger.foldl State.reportItem s
  { s with memory := { s.memory with ledger := [] } }.reportTxs marked

/-- PROGRAM_LOADED (R64, 17 R540): the stored program, of the first copy that reads back well, with every marked transaction, is
loaded and checked. -/
def State.programLoaded (s : State) (okA okB : Bool) : State :=
  if s.sys.stage ≠ 7 || s.mode ≠ 1 || s.sys.latch then s
  else
    let r := s.region 8
    let x := if okA && r.a.state = 1 then some r.a else if okB && r.b.state = 1 then some r.b else none
    let (rsn, s) := match x with
      | some x => s.loadBytes x.payload s.markedTxs
      | none => (3, { s with prog := none })
    let s := if rsn = 0 then s else { s with prog := none }
    let s := { s with sys := { s.sys with loadRsn := rsn } }
    let s := s.reportLedger.updReport
    s.floorNow.setStage 8

/-! ### The end of INIT (R75, R95) -/

/-- What the end of INIT raises beside the mode: the reset's cause, the recorder's START, watchdog and clock-monitor resets, an
alarm missed, a state copy that a reset interrupted (09 R360). -/
def State.initEvents (s : State) : State :=
  let s := s.raise Ev.sysResetCause (s.reg R.SYS_RSTCAUSE).toNat
  let s := if s.sys.failStart then { s with sys := { s.sys with failStart := false } }.logStart else s
  let s := match s.wdt.stage2 with
    | some c => s.raise Ev.wdtStage2Reset c
    | none => s
  let s := match s.wdt.monitor with
    | some c => s.raise Ev.wdtMonitorReset c
    | none => s
  let s := { s with wdt := { s.wdt with stage2 := none, monitor := none } }.alarmMissed
  if s.paired && s.rd R.PAIR_STAT_LASTRSN = 0x0B then s.raise Ev.pairResyncFailed 0x0B else s

/-- STOP at the end of INIT, and the target RUN (R75, R95, 06 R224): a pair unit with MODE RUN notes it whatever the reason
(09 R328). A floor element missing is shown before a role conflict, and both before what a start would lack: DESIGN CHOICE,
log entry 164. -/
def State.initStop (s : State) : State :=
  let want := s.rd R.SYS_PONTGT_MODE = 3
  let conflict := if s.pstate = 2 then s.p2Conflict else none
  let rsn := if !s.on R.SYS_FLOOR_CONTROL then s.floorMissing.getD 0
    else if s.fbc.conflict then 0x0E
    else if s.prog.isNone then s.sys.loadRsn
    else if conflict.isSome then 0x20
    else 0
  let s := match conflict with
    | some t => s.raise Ev.pwrP2Conflict t
    | none => s
  let s := s.setMode 2 rsn
  let s := if s.paired then s.setPair 6 else s
  { s with sys := { s.sys with autoRun := want && (s.paired || rsn = 0) } }

/-- Floryn synchronisation holds INIT no longer: the module has synchronised, or 64 strokes have passed (R64). -/
def State.syncOver (s : State) : Bool := 64 ≤ s.sys.initStrokes || s.syncState = 4 || s.syncState = 5

/-- INIT_END (R64, R75, R95): the program is loaded, synchronisation is over, the diagnostic floor is met and, in the Umpire,
the PLL is locked. Regions that started from their preferred slots become active. PSTATE is entered before the mode, PARK
included: DESIGN CHOICE, log entry 165. -/
def State.initEnd (s : State) : State :=
  if s.sys.stage ≠ 8 || s.mode ≠ 1 || s.sys.latch || !s.diagMet || !s.syncOver || (s.umpire && !s.on R.CLK_STAT_LOCK) then s
  else
    let s := (s.setStage 9).wr R.SYS_STAT_INITDONE 1
    let s := if s.sys.preferred then regionCodes.foldl State.updActivate s else s
    let p := s.rd R.SYS_PONTGT_PSTATE
    let s := if s.pstate = p then s else s.setPstate p
    let s := s.initEvents
    let s := if s.umpire then
        { s with pair := { s.pair with cur := max s.pair.cur (s.rd R.CLAIM_EPOCH_EPOCH), listen := 16 } }.setMode 6 0
      else if s.rd R.SYS_PONTGT_MODE = 7 && s.on R.SYS_FLOOR_CONTROL && !s.fbc.conflict then s.enterPark
      else s.initStop
    s.raise Ev.sysInitEnd s.mode

/-! ### The PLL (R64, R66, 14 R465 to R471) -/

/-- The PLL of a running module coasts: links fall, synchronisation is lost, and so is the control floor (R469). -/
def State.coasting (s : State) : State :=
  let s := if s.on R.CLK_STAT_COAST then s.wr R.CLK_STAT_LOCK 0 else s.coast
  let s := [(false, false), (false, true), (true, false), (true, true)].foldl (fun s p => s.linkChange p.1 p.2 false) s
  let s := (s.ethLink false 0).ethLink true 0
  let s := if s.syncState = 0 then s else s.setSync 1
  s.floorElement .pll false

/-- REF_LOST (R469): the reference in use loses its ready flag. -/
def State.refLost (s : State) : State :=
  if !s.on R.CLK_STAT_LOCK then s
  else
    let ref := s.rd R.CLK_STAT_PLLREF
    let s := ((s.setReady (refSource ref) false).raise Ev.clkRefLost ref).coasting
    s.fallback ref

/-- The source of a switch that has not completed loses its ready flag (R473): the switch is abandoned and the selector returns. -/
def State.switchLost (s : State) (src : Nat) : State :=
  if !s.clk.switching || refSource (s.rd R.CLK_SEL_PLLREF) ≠ src then s
  else
    let s := (s.wr R.CLK_SEL_PLLREF s.clk.old).switchRefused 0 src
    let s := if s.on R.CLK_STAT_COAST then s.wr R.CLK_STAT_PLLREF s.clk.old else s
    { s with clk := { s.clk with switching := false } }

/-- A source's ready flag changes (R465, R470; with REFCLK's the PLL starts, 02 R582): the reference in use losing it is REF_LOST; a coasting PLL without a reference takes
one that becomes ready. A flag that never changes by itself, and those of the PLL's domains, are not touched. -/
def State.readyChange (s : State) (src : Nat) (b : Bool) : State :=
  if src = 0 || 4 < src then s
  else if !b && s.on R.CLK_STAT_LOCK && refSource (s.rd R.CLK_STAT_PLLREF) = src then s.refLost
  else
    let s := s.setReady src b
    let s := if src = 1 && b && s.sys.stage = 2 && !s.sys.latch then s.setStage 3 else s
    let s := if b then s else s.switchLost src
    if s.on R.CLK_STAT_COAST && !s.ready (refSource (s.rd R.CLK_STAT_PLLREF)) then s.fallback 3 else s

/-- PLL_LOCK: the PLL locks after its start, or on a reference applied while it coasts; operand: the ms of the coast. -/
def State.pllLock (s : State) (coastMs : Nat) : State :=
  let ref := if s.on R.CLK_STAT_RUN then s.rd R.CLK_STAT_PLLREF else s.rd R.CLK_SEL_PLLREF
  let start := s.sys.stage = 3 || (s.mode = 7 && s.pwr.unpark.isSome)
  if s.on R.CLK_STAT_LOCK || s.sys.latch || !s.ready (refSource ref) then s
  else if s.on R.CLK_STAT_COAST then
    let s := (s.wr R.CLK_STAT_COAST 0).wr R.CLK_STAT_LOCK 1
    let s := (s.raise Ev.clkPllLock ref).raise Ev.clkCoastEnd (min coastMs 0xFFFF)
    let s := if s.clk.switching then { s with clk := { s.clk with switching := false } }.switchDone 0 ref else s
    s.floorElement .pll true
  else if start then
    let s := ((s.wr R.CLK_STAT_LOCK 1).wr R.CLK_STAT_PLLREF ref).showPll true
    let s := s.raise Ev.clkPllLock ref
    let s := if s.clk.switching then { s with clk := { s.clk with switching := false } }.switchDone 0 ref else s
    if s.mode = 7 then (s.floorElement .pll true).setSync 1 else (s.setStage 4).setSync 1
  else s

/-- PLL_LOCK_TIMEOUT (R66): the recovered reference is tried where BUSREF permits; without one, or when it does not lock either, the
module stays in INIT at the diagnostic floor and the host port runs on REFCLK. -/
def State.lockTimeout (s : State) : State :=
  if s.sys.stage ≠ 3 || s.on R.CLK_STAT_LOCK || s.sys.latch then s
  else
    let bus := if s.on R.SYS_RSTCFG_BUSREF && s.rd R.CLK_SEL_PLLREF = 0 then
        [1, 2].find? fun r => s.ready (refSource r)
      else none
    match bus with
    | some r => s.wr R.CLK_SEL_PLLREF r
    | none => { s.stopReason 0x05 0 with sys := { s.sys with hpOut := true } }

/-! ### Meanings -/

/-- POWER_ON: the module has not started yet; operands: the calendar domain has been without power, the lowest VBAT in mV. -/
def execPowerOn (calLost : Bool) (vbatMin : Nat) (s : State) : Out :=
  .next (if s.sys.stage = 0 then s.powerUp .powerOn calLost vbatMin else s)

/-- SUPPLY_RETURN (R63): only after the supply-fail latch. -/
def execSupplyReturn (calLost : Bool) (vbatMin : Nat) (s : State) : Out :=
  .next (if s.sys.latch then
    { s with sys := { s.sys with failStart := true } }.powerUp .supplyReturn calLost vbatMin else s)

/-- RST_N (R59, R62). -/
def execRstN (s : State) : Out := .next (s.resetNow .rstN false)

/-- STRAP_INSTANT: the straps as sampled. -/
def execStrapInstant (role : Fin 4) (recov : Fin 2) (delay : Fin 8) (s : State) : Out :=
  .next (s.strapInstant role.val recov.val delay.val)

/-- REFCLK_READY (R64, R465): the strap delay after the oscillator is enabled has passed. -/
def execRefclkReady (s : State) : Out :=
  .next (if s.sys.stage = 2 && !s.sys.latch then (s.setReady 1 true).setStage 3 else s)

def execPllLock (coastMs : Nat) (s : State) : Out := .next (s.pllLock coastMs)
def execPllLockTimeout (s : State) : Out := .next s.lockTimeout

/-- HP_ERR_RELEASE (R64). -/
def execHpErrRelease (s : State) : Out :=
  .next (if 4 ≤ s.sys.stage && !s.sys.latch then { s with sys := { s.sys with hpOut := true } } else s)

def execBoot2Verified (passA passB : Bool) (s : State) : Out := .next (s.boot2 passA passB)

/-- REGIONS_LOADED: for each of FW, MARSHAL, TABLES and CONFIG whether slots A and B pass. -/
def execRegionsLoaded (passA passB : BitVec 4) (width height : Nat) (table : List Byte) (config : List (Nat × Word))
    (s : State) : Out :=
  .next (s.regionsLoaded (fun i b => (if b then passB else passA).getLsbD i.val) width height table config)

def execSelfTestComplete (paths failed : BitVec 5) (banks : BitVec 17) (evtCox io loop : Bool) (s : State) : Out :=
  .next (s.selfTest paths failed banks evtCox io loop)

def execProgramLoaded (okA okB : Bool) (s : State) : Out := .next (s.programLoaded okA okB)
def execInitEnd (s : State) : Out := .next s.initEnd
def execPathRetry (host eth1 radio : Bool) (s : State) : Out := .next (s.pathRetry host eth1 radio)

/-- An element's own state as FLOOR_CHANGE reports it; the io element is the local I/O's, beside the channels, and main SRAM's is
that of a bank (R73). -/
def State.floorReport (s : State) (e : FloorElem) (working : Bool) (bank : Nat) : State :=
  match e with
  | .io => { s with sys := { s.sys with localIo := working } }.showIo
  | .sram => (s.wrb (R.MEM_BANK_OK.off (4 * bank)) working).floorNow
  | _ => s.floorElement e working

/-- FLOOR_CHANGE (R74, R76). -/
def execFloorChange (e : FloorPart) (working : Bool) (s : State) : Out :=
  .next (s.floorReport e.elem working e.bank.val)

def execReadyChange (src : Fin 12) (ready : Bool) (s : State) : Out := .next (s.readyChange src.val ready)
def execRefLost (s : State) : Out := .next s.refLost

/-- SUPPLY_FAIL (06 R245, 02 R62, 16 R524): the latch sets; operand: HOLDUP in mV. -/
def execSupplyFail (mv : Nat) (s : State) : Out :=
  .next (if s.sys.latch || s.sys.stage = 0 then s
    else
      let s := s.raise Ev.pwrSupplyFail (min mv 0xFFFF)
      let s := (s.persistCut.supplyStore).panelAbandon.logLatch.dioSafe
      let at' := if s.on R.RTC_STAT_VALID then some s.rtc.secs else none
      { s with sys := { s.sys with latch := true, hpOut := false, outageFrom := at' } })

/-- VIN_LOW, VOUTA_LOW, VOUTB_LOW (06 R245): the supply in mV. -/
def execVinLow (mv : Nat) (s : State) : Out := .next (if s.sys.latch then s else s.raise Ev.pwrVinLow (min mv 0xFFFF))
def execVoutaLow (mv : Nat) (s : State) : Out := .next (if s.sys.latch then s else s.raise Ev.pwrVoutaLow (min mv 0xFFFF))
def execVoutbLow (mv : Nat) (s : State) : Out := .next (if s.sys.latch then s else s.raise Ev.pwrVoutbLow (min mv 0xFFFF))

/-- EXPIRY (14 R483): the count has reached WDT_PERIOD. -/
def execExpiry (s : State) : Out :=
  .next (if !s.wdtCounting || s.on R.WDT_STAT_FROZEN then s
    else
      let (rst, s) := s.wdtExpiry 1
      if rst then s.resetNow .watchdog false else s)

/-- MONITOR_RESET (14 R486): the clock that the watchdog does not use has stopped. -/
def execMonitorReset (s : State) : Out :=
  .next (if !s.wdtCounting then s
    else { s with wdt := { s.wdt with monitor := some (s.rd R.WDT_CTL_CLKSEL) } }.resetNow .clockMonitor false)

/-- PROBE_REPLY (08 R310); another unit in this unit's place is ROLE_CONFLICT (02 R58). -/
def execProbeReply (x : FlorynRx) (t4 : DWord) (nodes : Option (List FlorynNode)) (s : State) : Out :=
  let t := s.probeReply x t4 nodes
  .next (if t.fbc.conflict && !s.fbc.conflict then
      let t := t.raise Ev.sysRoleConflict t.ownAddr
      if t.mode = 2 then { t.stopReason 0x0E 0 with sys := { t.sys with autoRun := false } } else t
    else t)

/-- LINK_CHANGE (08 R303): no link while the PLL is not locked. -/
def execLinkChange (chanB port2 up : Bool) (s : State) : Out :=
  .next (if up && !s.on R.CLK_STAT_LOCK then s else s.linkChange chanB port2 up)

end Sys2Proof.Machine
end

