-- ==== Sys2Proof/Machine/Page.lean ====
section
/-!
DEFINITION. Machine/Page.lean: the header that every page opens with (03 R99 to R107), locking (R108 to R111), block reset and
disabling (R101 to R103, R584).
-/

namespace Sys2Proof.Machine

/-! ### What the header reads -/

/-- PG_ID.TYPE of a block (R96). -/
def blockType : Blk → Nat
  | .sys => 0x01 | .clk => 0x02 | .pwr => 0x03 | .cox => 0x04 | .evt => 0x05 | .wdt => 0x06 | .rtc => 0x07 | .mem => 0x08
  | .retain => 0x09 | .flash => 0x0A | .upd => 0x0B | .log => 0x0C | .spare => 0x0D | .sec => 0x0E | .mbx => 0x0F
  | .exec => 0x10 | .edit => 0x11 | .force => 0x12 | .core => 0x13 | .loop => 0x20 | .loopctx => 0x21 | .fbc => 0x30
  | .fbx => 0x31 | .slot => 0x32 | .pair => 0x33 | .claim => 0x34 | .net => 0x40 | .sess => 0x41 | .radio => 0x42
  | .can => 0x43 | .dio => 0x50 | .panel => 0x51 | .host => 0x52

/-- The page whose header holds a page's PG_CTL, PG_STAT and PG_LOCKKEY: EVT's pages share page 0x004's (R584). -/
def ctlPage (page : Nat) : Nat := if page = 5 then 4 else page

/-- PG_CTL.LOCK and PG_STAT.LOCKOUT of a page, and behind PG_LOCKKEY the stored key and the refused unlocks (R109, R110). -/
def lockFld (page : Nat) : Fld := ⟨hdr (ctlPage page) 0x008, 2, 2⟩
def lockoutFld (page : Nat) : Fld := ⟨hdr (ctlPage page) 0x00C, 3, 3⟩
def keyFld (page : Nat) : Fld := ⟨hdr (ctlPage page) 0x028, 15, 0⟩
def failsFld (page : Nat) : Fld := ⟨hdr (ctlPage page) 0x028, 17, 16⟩

/-- The page is locked. -/
def State.locked (s : State) (page : Nat) : Bool := s.on (lockFld page)

/-- CORE_STAT of a physical core (05 "Debug access"). -/
def State.coreStat (s : State) (c : Nat) : Word :=
  let k := s.core c
  let bg := k.fgRun.isNone && k.bgRun.isSome
  let x := if bg then k.bg else k.fg
  let run := if bg then k.bgRun else k.fgRun
  let state := if k.failed then 5 else if k.halted then 4 else if k.fgRun.isSome then 2
    else if k.bgRun.isSome && !k.bgSusp then 3 else if (s.lcoreOf c).isNone then 0 else 1
  let fl := x.fl.s.toNat * 16 + x.fl.n.toNat * 8 + x.fl.z.toNat * 4 + x.fl.c.toNat * 2 + x.fl.v.toNat
  BitVec.ofNat 32 (state * 0x10000000 + (s.lcoreOf c).isSome.toNat * 0x8000000 + (s.lcoreOf c).getD 0 * 0x2000000 +
    k.bgSusp.toNat * 0x1000000 + (match run with | some r => r.task % 64 | none => 0) * 0x10000 +
    x.las.length * 0x200 + x.la.toNat * 0x100 + fl)

/-- The host port is slow (18 R562), and the image window answers in the same cycle (18 R555): in every mode but those of R70,
R230 and R541, and not while the port is slow. -/
def State.hostSlow (s : State) : Bool := s.on R.CLK_STAT_MARREF || s.on R.CLK_STAT_COAST
def State.imageAnswers (s : State) : Bool := s.mode ≠ 0 && s.mode ≠ 1 && s.mode ≠ 7

/-- PG_STAT.BLOCK: what the block's chapter puts there, as the requester reads it. -/
def State.statBlock (s : State) (r : Req) (page : Nat) : Nat :=
  let high (a : Nat) : Nat := bitsOf (s.reg a) 31 16
  match page with
  | 0x00 => bitsOf (s.reg R.SYS_STAT) 15 0
  | 0x01 => high R.CLK_STAT
  | 0x06 => bitsOf (bitsSet (s.reg R.WDT_STAT) 28 28 s.wdtCounting.toNat) 31 16
  | 0x07 => bitsOf (bitsSet (s.reg R.RTC_STAT) 28 28 (s.rtcShadow r).isSome.toNat) 31 16
  | 0x40 => high R.FBC_SYNC
  | 0x41 => bitsOf (s.fbxStat false) 15 0
  | 0x42 => bitsOf (s.fbxStat true) 15 0
  | 0x44 => bitsOf (s.pairRead R.PAIR_STAT) 31 16
  | 0x61 => high R.CAN_STAT
  | 0x62 => high (R.CAN_STAT + 0x1000)
  | 0x70 => high R.DIO_STAT
  | 0x71 => high R.PANEL_STAT
  | 0x72 => bitsOf (bitsSet (s.reg R.HOST_STAT) 17 16 (s.hostSlow.toNat * 2 + (s.imageAnswers && !s.hostSlow).toNat)) 31 16
  | n => if 0x18 ≤ n && n ≤ 0x1C then bitsOf (s.coreStat (n - 0x18)) 31 16 else 0

/-- PG_STAT: READY is the enable once INIT has ended, for a core that has not failed; a failed core is the one fault that a block
cannot correct. -/
def State.pgStat (s : State) (r : Req) (page : Nat) : Word :=
  let p := ctlPage page
  let failed := decide (0x18 ≤ p) && decide (p ≤ 0x1C) && (s.core (p - 0x18)).failed
  let ready := s.pgEn p && s.on R.SYS_STAT_INITDONE && !failed
  let spared := decide (bitsOf (s.pgSpare p) 23 16 ≠ 0)
  BitVec.ofNat 32 (s.statBlock r p * 0x10000 + s.rd (lockoutFld p) * 8 + spared.toNat * 4 + failed.toNat * 2 + ready.toNat)

/-- A later profile than the frozen one is presented (R100, 17 R551). -/
def State.laterProfile (s : State) : Bool := 1 < s.rd R.SEC_PROFILE_PROF

/-- What a header register reads for a requester (R99). What a later profile presents as VERSION and PG_CAP is not stated:
constants of Config (R100, log entry 170). -/
def State.hdrRead (s : State) (r : Req) (page off : Nat) : Word :=
  match off with
  | 0x000 =>
    match blockAt page with
    | some (b, i) =>
      let v := if s.laterProfile then (Config.profileVersion (s.rd R.SEC_PROFILE_PROF)).toNat else 1
      BitVec.ofNat 32 (blockType b * 0x10000 + i * 0x100 + v)
    | none => 0
  | 0x004 => if s.laterProfile then Config.profileCap (s.rd R.SEC_PROFILE_PROF) page else 0
  | 0x008 => s.reg (hdr (ctlPage page) 0x008) &&& 5
  | 0x00C => s.pgStat r page
  | 0x010 => s.reg (hdr page 0x010)
  | 0x014 => s.reg (hdr page 0x014)
  | 0x01C => s.reg (hdr page 0x01C)
  | 0x020 => s.pgSpare page
  | 0x024 => s.reg (hdr page 0x024)
  | _ => 0

/-! ### Block reset (R101, R102, R584) -/

/-- The page map marks a block reset and a disabling of the page as refused, and the mode is RUN, TRACK or HOLD (R102). -/
def State.blockRefused (s : State) (page : Nat) : Bool :=
  (s.mode = 3 || s.mode = 4 || s.mode = 5) &&
  (match blockAt page with
  | some (.core, c) => match s.lcoreOf c with | some l => s.pinned l | none => false
  | some (.loop, _) => s.usesLoops
  | some (.loopctx, _) => s.usesLoops
  | some (.fbx, 0) => !s.on (fbx true R.FB_STAT_WORKING)
  | some (.fbx, _) => !s.on (fbx false R.FB_STAT_WORKING)
  | some (b, _) => [Blk.sys, .clk, .pwr, .cox, .evt, .wdt, .mem, .retain, .exec, .fbc, .slot, .pair, .claim].contains b
  | none => false)

/-- A block reset leaves the register at an address: its Reset column says Kept, it counts since manufacture or PG_SPARE's units,
or it shows what the block does not hold and a block reset does not change: the power state (02 R94), the core held spare and
the legs in service (log entry 171). -/
def blockKeeps (page a : Nat) : Bool :=
  let row := match regSpec? a with | some (r, i) => a % 0x100000 - i * r.stride | none => 0
  a % 0x1000 < 0x100 ||
  (if page = 0x0F then a < 0x100000 && (row = R.MBX_BOOTCNT || row = R.MBX_MSTAT)
   else row = R.PANEL_GEOM || row = R.PWR_STAT || row = R.COX_EPC || row = R.COX_PBASE ||
     (Cause.hostCommand.keeps a && row ≠ R.CLK_LOSSCNT))

/-- The registers of pages at their reset values. -/
def State.resetRegs (s : State) (pages : List Nat) : State :=
  { s with regs := s.regs.filter fun p =>
      let page := p.1 % 0x100000 / 0x1000
      !pages.contains page || blockKeeps page p.1 }

/-- The work in flight of a block ends (R101, 01 R46): failed, or possibly delivered where its transmission had begun. -/
def State.blockEnds (s : State) (page : Nat) : State :=
  match page with
  | 0x09 => if s.memory.store.isSome then s.storeRefuse 0x25 else s
  | 0x0B => s.updReset
  | 0x0F => s.mbxFailAll 9
  | 0x10 => s.dropRuns
  | 0x11 => s.editRestart
  | 0x12 => s.forceClear
  | 0x40 => s.acqFail (fun _ => true) 9
  | 0x44 => s.resyncFail 0x0B
  | 0x50 => s.netCloseAll 7
  | 0x60 => s.radioCloseAll 7
  | 0x61 => s.canCloseAll 0 7
  | 0x62 => s.canCloseAll 1 7
  | 0x71 => s.panelAbandon
  | n =>
    if 0x58 ≤ n && n < 0x60 then (List.range 16).foldl (fun s k => s.sessAbort (16 * (n - 0x58) + k) 7 true) s else s

/-- What stands behind a block's registers, after a block reset. -/
def State.blockClear (s : State) (page : Nat) : State :=
  match page with
  | 0x01 => { s with clk := {} }
  | 0x02 =>
    let s := ((s.wr R.PWR_STAT_LASTRSN 0).wr R.PWR_STAT_PENDING 0).wr R.PWR_STAT_TARGET s.pstate
    { s with pwr := { energy := s.pwr.energy, energyRest := s.pwr.energyRest } }
  | 0x03 => { s with cox := {} }
  | 0x06 =>
    let s := { s with wdt := { stage2 := s.wdt.stage2, monitor := s.wdt.monitor } }.freezeCheck
    { s with wdt := { s.wdt with rcHeld := true } }
  | 0x07 => (((({ s with rtc := { s.rtc with shadows := [] } } : State).wr R.RTC_STAT_SHREL 0).wr R.RTC_STAT_VBATLOW 0).wr
      R.RTC_STAT_LASTRSN 0)
  | 0x09 => { s with memory := { s.memory with store := none } }
  | 0x0D => { (s.wr R.SPARE_STAT_LASTRSN 0) with spare := { s.spare with subst := none, testing := false } }
  | 0x0E => { s with sec := { s.sec with kdata := [], attest := [] } }
  | 0x0F => { s with mbx := { s.mbx with wdata := [], nonces := [] } }
  | 0x10 => s.wr R.EXEC_STROKELEN_LEN (s.rd R.FBC_STROKECFG_LEN.live)
  | 0x11 => match s.prog with
    | some p => s.setSig R.EDIT_PROGSIG0 p.signature
    | none => s
  | 0x20 => { s with loop := { s.loop with writes := s.loop.writes.filter fun w => w.addr / 0x1000 ≠ 0x20 && w.addr < 0x8000000 } }
  | 0x40 =>
    let f : FbcState := { acqDone := s.fbc.acqDone, nextReq := s.fbc.nextReq, conflict := s.fbc.conflict }
    if s.on R.CLK_STAT_LOCK then { s with fbc := f }.wr R.FBC_SYNC_STATE 1 else { s with fbc := f }
  | 0x44 =>
    let p : PairState := { s.pair with
      join := none, swap := 0, swapAt := none, waits := [], acked := [], items := [], loads := [], provisional := [],
      div := none, stopAt := none, hostWait := none, forwarded := false }
    { s with pair := p }
  | 0x45 => { s with pair := { s.pair with listen := 0, offer := none, due := none, granted := false, accepted := none } }
  | 0x50 => { s with net := { results := s.net.results, nextId := s.net.nextId } }
  | 0x60 => { s with radio := { results := s.radio.results, nextId := s.radio.nextId } }
  | 0x61 => s.setCan 0 { results := (s.canSt 0).results, nextId := (s.canSt 0).nextId }
  | 0x62 => s.setCan 1 { results := (s.canSt 1).results, nextId := (s.canSt 1).nextId }
  | 0x70 => { (s.wr R.DIO_LEGS_FAILED 0) with dio := {
      raw := s.dio.raw, filt := s.dio.filt, leg1 := s.dio.leg1, leg2 := s.dio.leg2, supply := s.dio.supply } }
  | 0x71 => { s with panel := { s.panel with request := none, refreshDue := false, mordDue := false, railFaults := 0, inRange := 0 } }
  | n =>
    if 0x18 ≤ n && n ≤ 0x1C then
      let k : CoreSt := { failed := (s.core (n - 0x18)).failed, g := (s.core (n - 0x18)).g }
      (s.setCore (n - 0x18) k).freezeCheck
    else if 0x30 ≤ n && n < 0x40 then
      let mine (k : Nat) : Bool := k / 16 = n - 0x30
      { s with loop := { s.loop with ctx := s.loop.ctx.filter fun x => !mine x.1,
                                     writes := s.loop.writes.filter fun w => w.addr / 0x1000 ≠ n } }.showLanes
    else s

/-- A block reset of a page (R101, R584): the work in flight is reported after PG_EVPEND and PG_ERR have gone to 0. -/
def State.blockReset (s : State) (page : Nat) : State :=
  if page = 4 || page = 5 then
    let s := s.clearEvents.resetRegs [4, 5]
    let s := { s with evt := {} }
    ((((s.setReg (hdr 4 0x014) 0).setReg (hdr 5 0x014) 0).setReg (hdr 4 0x01C) 0).setReg (hdr 5 0x01C) 0)
  else
    let s := (s.setReg (hdr page 0x014) 0).setReg (hdr page 0x01C) 0
    ((s.blockEnds page).resetRegs [page]).blockClear page

/-- What follows when a block is enabled again or disabled: waiting items are served; a Floryn channel's WORKING follows. -/
def State.enableChanged (s : State) (page : Nat) : State :=
  match page with
  | 0x41 => s.showWorking
  | 0x42 => s.showWorking
  | 0x50 => if s.pgEn page then (List.range 128).foldl (fun s k => s.netPush k) s else s
  | 0x60 => if s.pgEn page then s.radioServe else s
  | 0x61 => if s.pgEn page then s.canServe 0 else s
  | 0x62 => if s.pgEn page then s.canServe 1 else s
  | 0x70 => if s.pgEn page then (s.showSupply 0).showSupply 1 else s
  | _ => s

/-! ### Writing the header -/

/-- A write of PG_CTL (R101, R102, R108). -/
def State.writeCtl (s : State) (page : Nat) (v : Word) : WRes :=
  let p := ctlPage page
  let en := v.getLsbD 0
  let brst := v.getLsbD 1
  if s.locked p then (if brst || en ≠ s.pgEn p then refuse .locked s else accept s)
  else if brst && p = 0 then refuse .mode s
  else if (brst || !en) && s.blockRefused p then refuse .mode s
  else
    let s := if brst then s.blockReset p else s
    let was := s.pgEn p
    let s := s.wrb ⟨hdr p 0x008, 0, 0⟩ en
    accept (if was = en then s else s.enableChanged p)

/-- A write of PG_LOCKKEY (R109, R110). -/
def State.writeLockKey (s : State) (page : Nat) (v : Word) : WRes :=
  let key := bitsOf v 15 0
  match bitsOf v 31 16 with
  | 0x4C4B => accept (if s.locked page then s else (s.wr (lockFld page) 1).wr (keyFld page) key)
  | 0x554C =>
    if !s.locked page then accept s
    else if key ≠ 0 && key = s.rd (keyFld page) && !s.on (lockoutFld page) then
      accept (((s.wr (lockFld page) 0).wr (keyFld page) 0).wr (failsFld page) 0)
    else
      let s := s.inc (failsFld page)
      refuse .badLockkey (if s.rd (failsFld page) = 3 then s.wr (lockoutFld page) 1 else s)
  | _ => accept s

/-- A write of a header register (R99, R104 to R106, R108). -/
def State.hdrWrite (s : State) (page off : Nat) (v : Word) : WRes :=
  match off with
  | 0x008 => s.writeCtl page v
  | 0x010 =>
    let w := v &&& BitVec.ofNat 32 (definedBits page)
    if s.locked page then (if w = s.reg (hdr page 0x010) then accept s else refuse .locked s)
    else accept (s.setReg (hdr page 0x010) w)
  | 0x014 => accept (s.setReg (hdr page 0x014) (s.reg (hdr page 0x014) &&& ~~~v))
  | 0x018 => s.forceEvents page v
  | 0x01C => accept (if v.getLsbD 31 then s.setReg (hdr page 0x01C) 0 else s)
  | 0x028 => s.writeLockKey page v
  | _ => accept s

end Sys2Proof.Machine
end

