-- ==== Sys2Proof/Machine/RegRead.lean ====
section
/-!
DEFINITION. Machine/RegRead.lean: what a read of a register page gives (03 R97, R103, R118, R119, and the page section of each
chapter): the registers that show what stands behind them, and the reads with an effect (00 R10).
-/

namespace Sys2Proof.Machine

/-- Why an access to register space fails: the page is unassigned (R97), it does not answer in the mode (02 R70, 06 R230,
17 R541), or it refuses the access (R106). -/
inductive AccErr where
  | unmapped
  | notAvailable
  | pg (e : PgErr)
  deriving DecidableEq, Repr

/-- Pages that answer the host and a management session in a mode: in RECOVERY SYS, UPD, SEC, LOG and MBX (17 R541), in INIT SYS,
MBX, EVT and LOG (02 R70), in PARK SYS, PWR, EVT, RTC, MBX, LOG and PANEL (06 R230), else all. -/
def pageAnswers (mode page : Nat) : Bool :=
  match mode with
  | 0 => [0x00, 0x0B, 0x0E, 0x0C, 0x0F].contains page
  | 1 => [0x00, 0x0F, 0x04, 0x05, 0x0C].contains page
  | 7 => [0x00, 0x02, 0x04, 0x05, 0x07, 0x0F, 0x0C, 0x71].contains page
  | _ => true

/-! ### Registers that show what stands behind them -/

/-- The context that CORE_REGSEL selects. -/
def State.selCtx (s : State) (c : Nat) : Ctx :=
  if s.on (R.CORE_REGSEL_CTX.off (0x1000 * c)) then (s.core c).bg else (s.core c).fg

/-- The bits of a logic accumulator stack, bit 0 nearest the top. -/
def stackBits : List Bool → Nat
  | [] => 0
  | b :: t => b.toNat + 2 * stackBits t

/-- FL as a number (05 R174). -/
def flBits (f : Flags) : Nat := f.s.toNat * 16 + f.n.toNat * 8 + f.z.toNat * 4 + f.c.toNat * 2 + f.v.toNat

/-- A CORE page's register, at MC0's address. -/
def State.coreRead (s : State) (c a : Nat) : Word :=
  let k := s.core c
  let x := s.selCtx c
  let n := s.rd (R.CORE_REGSEL_REG.off (0x1000 * c))
  if a = R.CORE_STAT then s.coreStat c
  else if a = R.CORE_PC then (if k.fgRun.isNone && k.bgRun.isSome then k.bg.pc else k.fg.pc)
  else if a = R.CORE_REGDATA then
    if n = 0 then 0
    else if n < 16 then SMap.get (fun _ => 0) k.g n
    else SMap.get (fun _ => 0) x.f (n - 16)
  else if a = R.CORE_LAS then BitVec.ofNat 32 (x.la.toNat * 0x1000000 + x.las.length * 0x10000 + stackBits x.las)
  else if a = R.CORE_FL then BitVec.ofNat 32 (flBits x.fl)
  else if a = R.CORE_WFUSE then BitVec.ofNat 32 (k.bg.window.length * 0x10000 + k.fg.window.length * 0x100)
  else if a = R.CORE_SPILLP then BitVec.ofNat 32 x.spillp
  else if a = R.CORE_RETIRED then BitVec.ofNat 32 k.retired
  else s.reg (a + 0x1000 * c)

/-- The staged forcing entry that FORCE_INDEX selects (04 R148). -/
def State.forceSel (s : State) : Word × Word × Word := forceEntry s.force.staged (s.rd R.FORCE_INDEX_INDEX)

/-- CLK_GATE (14 R475): the units with no work to do. A core is gated when it is out of service in P2, PARK, spare or failed; one that
leaves service in P2 does so when its M or D execution is complete (06 R227). -/
def State.clkGate (s : State) : Nat :=
  let idleCan (c : Nat) : Bool := !s.pgEn (0x61 + c) || (s.canSt c).items.isEmpty
  let idleRadio := !s.pgEn 0x60 || (s.radio.items.isEmpty && decide (s.radio.step = .idle))
  let idlePanel := !s.pgEn 0x71 || (s.panel.main.isNone && s.panel.mord.isNone && decide (s.panel.rails = .off))
  let idleCore (c : Nat) : Bool := !s.pgEn (0x18 + c) || (s.core c).failed ||
    (match s.lcoreOf c with | some l => (s.pstate = 2 && l ≠ 0 && (s.core c).fgRun.isNone) || s.pstate = 3 | none => true)
  let cores := ((List.range 5).map fun c => if idleCore c then 2 ^ c else 0).sum
  idlePanel.toNat * 512 + idleRadio.toNat * 256 + (idleCan 1).toNat * 128 + (idleCan 0).toNat * 64 +
    (!s.pgEn 0x20 || !s.exec.looping).toNat * 32 + cores

/-- The size in MiB of a flash partition (10 R377). -/
def partSize (n : Nat) : Nat :=
  [4, 4, 64, 64, 8, 8, 16, 16, 16, 16, 64, 64, 64, 16, 1, 7767].getD n 0

/-- A register of a LOOPCTX page (07 R258): RW fields as last written; the others as they stood at the latest loop completion, with
PEND while a write waits. -/
def State.loopctxRead (s : State) (a : Nat) : Word :=
  let e := (a % 0x1000 - 0x100) % 0xF0
  if e < 0xB0 then s.reg a
  else
    let w := s.reg a
    if e = 0xB0 then
      let start := a - e
      bitsSet w 18 18 (s.loop.writes.any fun x => start ≤ x.addr && x.addr < start + 0xF0).toNat
    else w

/-- Registers of which each requester has its own copy beside those that the table marks. -/
def alsoBanked : List Nat := [
  R.NET_TXSTAT, R.NET_RXINFO, R.RADIO_TXSTAT, R.CAN_TXSTAT, R.CAN_TXSTAT + 0x1000, R.LOG_RSTAT, R.MBX_SUBSTAT]

/-- Each requester has its own copy of the register. -/
def isBanked (a : Nat) : Bool := (match regSpec? a with | some (x, _) => x.banked | none => false) || alsoBanked.contains a

/-- What a register holds for a requester. -/
def State.stored (s : State) (r : Req) (a : Nat) : Word := s.reg (if isBanked a then s.bk r a else a)

/-- What a block-specific register reads for a requester, but for the effect of the read. -/
def State.peek (s : State) (r : Req) (a : Nat) : Word :=
  let plain := s.stored r a
  match blockAt (a / 0x1000) with
  | some (.clk, _) => if a = R.CLK_GATE then BitVec.ofNat 32 s.clkGate else plain
  | some (.evt, _) => if isBanked a then plain else s.evtRead a
  | some (.wdt, _) => if a = R.WDT_STAT then bitsSet plain 28 28 s.wdtCounting.toNat else plain
  | some (.rtc, _) => if a = R.RTC_STAT then bitsSet plain 28 28 (s.rtcShadow r).isSome.toNat else plain
  | some (.flash, _) =>
    if a = R.FLASH_PINFO then BitVec.ofNat 32 (partSize (s.rd (s.bf r R.FLASH_PSEL_PART)) * 0x10000 + s.free.toNat % 101)
    else plain
  | some (.upd, _) => (s.updRead r a).getD plain
  | some (.log, _) => (s.logRead a).getD plain
  | some (.spare, _) => (s.spareRead a).getD plain
  | some (.sec, _) => (s.secRead r a).getD plain
  | some (.mbx, _) => (s.mbxRead r a).getD plain
  | some (.force, _) =>
    if a = R.FORCE_ENTRY then s.forceSel.1
    else if a = R.FORCE_MASK then s.forceSel.2.1
    else if a = R.FORCE_VALUE then s.forceSel.2.2
    else plain
  | some (.core, c) => s.coreRead c (a - 0x1000 * c)
  | some (.loop, _) => if a = R.LOOP_TDATA then BitVec.ofNat 32 (s.tableWord (s.rd (s.bf r R.LOOP_TADDR_INDEX))) else plain
  | some (.loopctx, _) => s.loopctxRead a
  | some (.fbc, _) =>
    if a = R.FBC_ACQ_DEST || a = R.FBC_ACQ_INDEX || a = R.FBC_ACQ_LEN || a = R.FBC_ACQ_SEL then plain else s.fbcRead r a
  | some (.fbx, c) => s.fbxRead (c = 1) a
  | some (.slot, _) =>
    if s.on R.SLOT_CTL_VIEW && R.SLOT_ENT0 ≤ a && a < R.SLOT_NODE then s.reg (a + liveBank) else plain
  | some (.pair, _) => s.pairRead a
  | some (.net, _) => if a = R.NET_ITSTAT then s.netItstat r else plain
  | some (.radio, _) => if a = R.RADIO_ITSTAT then s.radioItstat r else plain
  | some (.can, c) => if a = R.CAN_ITSTAT + 0x1000 * c then s.canItstat r c else plain
  | some (.dio, _) => plain
  | some (.panel, _) =>
    if a = R.PANEL_WDATA then (s.panelData r false).1
    else if a = R.PANEL_MWDATA then (s.panelData r true).1
    else plain
  | some (.host, _) =>
    if a = R.HOST_STAT then
      bitsSet plain 17 16 (s.hostSlow.toNat * 2 + (s.imageAnswers && !s.hostSlow).toNat)
    else plain
  | _ => plain

/-! ### Reads with an effect -/

/-- The scan stroke of the execution that a core runs; 0 for any other requester (04 EXEC_SCANLO). -/
def State.scanOf (s : State) : Req → Nat
  | .core c =>
    match (s.core c.val).fgRun with
    | some x => x.scan
    | none => match (s.core c.val).bgRun with | some x => x.scan | none => 0
  | _ => 0

/-- EXEC_STROKELO: the snapshot of the extended stroke number. -/
def State.strokeSnapshot (s : State) : Word × State :=
  (BitVec.ofNat 32 s.extStroke, s.wr64 R.EXEC_STROKELO s.extStroke)

/-- EXEC_SCANLO: the snapshot of the reading core's scan stroke. -/
def State.scanSnapshot (s : State) (r : Req) : Word × State :=
  (BitVec.ofNat 32 (s.scanOf r), s.wr64 (s.bk r R.EXEC_SCANLO) (s.scanOf r))

/-- PWR_EMODLO: the snapshot of the module's energy. -/
def State.energySnapshot (s : State) : Word × State :=
  (BitVec.ofNat 32 s.pwr.energy, s.wr64 R.PWR_EMODLO s.pwr.energy)

/-- LOOP_TDATA: the word at LOOP_TADDR, which advances. -/
def State.tableTake (s : State) (r : Req) : Word × State :=
  (BitVec.ofNat 32 (s.tableWord (s.rd (s.bf r R.LOOP_TADDR_INDEX))), s.advanceTaddr r)

/-- A read of a block-specific register with its effect. -/
def State.blockRead (s : State) (r : Req) (a : Nat) : Word × State :=
  if a = R.EXEC_STROKELO then s.strokeSnapshot
  else if a = R.EXEC_SCANLO then s.scanSnapshot r
  else if a = R.PWR_EMODLO then s.energySnapshot
  else if a = R.LOOP_TDATA then s.tableTake r
  else if a = R.FBC_ACQ_RDATA then s.acqTake r
  else if a = R.NET_TODOFSLO then s.todSnapshot
  else if a = R.NET_RXINFO then s.netRxinfo r
  else if a = R.NET_RXDATA then s.netRxdata r
  else if a = R.RADIO_RXINFO then s.radioRxinfo
  else if a = R.RADIO_RXDATA then s.radioRxdata
  else if a = R.CAN_RXHEAD then s.canRxhead 0
  else if a = R.CAN_RXHEAD + 0x1000 then s.canRxhead 1
  else if a = R.CAN_RXDATA then s.canRxdata 0
  else if a = R.CAN_RXDATA + 0x1000 then s.canRxdata 1
  else if R.RTC_SEC ≤ a && a < R.RTC_SEC + 32 then s.rtcRead r ((a - R.RTC_SEC) / 4)
  else if a = R.MBX_RDATA then s.mbxTakeData r
  else if a = R.MBX_NONCE0 then s.mbxNonce r
  else if a = R.LOG_RDATA0 then s.logSnapshot r none
  else if a = R.SEC_ATTDATA then s.attestTake r
  else if a = R.PANEL_WDATA then s.panelData r false
  else if a = R.PANEL_MWDATA then s.panelData r true
  else if a = R.FLASH_PINFO then (s.peek r a, s.used)
  else (s.peek r a, s)

/-- The event port that a register's read takes from, if it is an EVT_PnHEAD. -/
def headPort (a : Nat) : Option Nat := ([0, 1, 2, 3] : List Nat).find? fun n => a = R.EVT_PHEAD + 16 * n

/-- A requester's read of the register at an address of register space: an error, or the value, and the state after it. -/
def State.regRead (s : State) (r : Req) (a : Nat) (be : BitVec 4 := 15) : Option AccErr × Word × State :=
  let page := a / 0x1000
  if hostSide r && !pageAnswers s.mode page then (some .notAvailable, 0, s)
  else if (blockAt page).isNone then (some .unmapped, 0, s)
  else if be ≠ 15#4 then (some (.pg .width), 0, s)
  else if a % 0x1000 < 0x100 then (none, s.hdrRead r page (a % 0x1000), s)
  else if (regSpec? a).isNone then (none, 0, s)
  else match headPort a with
  | some n =>
    if portReader r n then
      let (w, s) := s.portRead r n
      (none, w, s)
    else (some (.pg .requester), 0, s)
  | none =>
    let (w, s) := s.blockRead r a
    (none, w, s)

end Sys2Proof.Machine
end

