-- ==== Sys2Proof/Machine/RegWrite.lean ====
section
/-!
DEFINITION. Machine/RegWrite.lean: a write of a register page: the checks every page makes (03 R97, R103, R106, R108, 09 R337,
04 R147), who may write which page, and the page's own rule for the register.
-/

namespace Sys2Proof.Machine

/-! ### Pages without a file of their own -/

/-- A write asks for a reset: 0 the watchdog's, 1 the host command's, 2 the host command into RECOVERY. -/
def State.askReset (s : State) (n : Nat) : State := { s with sys := { s.sys with resetDue := some n } }

/-- A reset that an access has asked for since the state `before` is made (02 R59). -/
def State.settle (before s : State) : State :=
  match s.sys.resetDue with
  | none => s
  | some n =>
    if before.sys.resetDue = some n then s
    else
      let s := { s with sys := { s.sys with resetDue := none } }
      if n = 0 then s.resetNow .watchdog false else s.resetNow .hostCommand (n = 2)

/-- SYS page (02 R86, R92, R93). -/
def State.sysWrite (s : State) (a : Nat) (v : Word) : WRes :=
  if a = R.SYS_CMD then
    let (rst, s) := s.sysCmd v
    accept (if rst then s.askReset 1 else s)
  else if (a = R.SYS_PONTGT || a = R.SYS_RSTCFG) && s.mode < 2 then refuse .mode s
  else if a = R.SYS_PONTGT && (! [2, 3, 7].contains (bitsOf v 6 4) || bitsOf v 1 0 = 3) then refuse .range s
  else accept (s.plainWrite a v)

/-- CLK_SEL (14 R472, R474). -/
def State.clkSelWrite (s : State) (v : Word) : WRes :=
  let new := bitsOf v 1 0
  if s.mode ≠ 2 && s.mode ≠ 6 && s.mode ≠ 7 then refuse .mode (s.wr R.CLK_STAT_LASTRSN 0x02)
  else if new = 3 then refuse .range s
  else if new = s.rd R.CLK_SEL_PLLREF then accept (s.wr R.CLK_STAT_LASTRSN 0)
  else if !s.ready (refSource new) then refuse .range (s.switchRefused 0 (refSource new))
  else
    let old := if s.clk.switching then s.clk.old else s.rd R.CLK_SEL_PLLREF
    let s := (s.wr R.CLK_SEL_PLLREF new).wr R.CLK_STAT_LASTRSN 0
    let s := { s with clk := ⟨true, old⟩ }
    accept (if s.mode = 7 then s else (s.wr R.CLK_STAT_PLLREF new).coasting)

/-- CLK page (14 R472 to R478). -/
def State.clkWrite (s : State) (a : Nat) (v : Word) : WRes :=
  if a = R.CLK_SEL then s.clkSelWrite v
  else if a = R.CLK_OUTCTL then s.clkoutWrite v
  else if a = R.FMC_CTL then
    if s.fmcRuns then refuse .mode s
    else if bitsOf v 23 0 = 0 || 11 < bitsOf v 31 28 || 11 < bitsOf v 27 24 then refuse .range s
    else accept (s.plainWrite a v)
  else if a = R.FMC_CMD then s.fmcCmd v
  else accept (s.plainWrite a v)

/-- COX page (06 R234, R237, R243): an entry's cost only in STOP. -/
def State.coxWrite (s : State) (a : Nat) (v : Word) : WRes :=
  if a = R.COX_EDEPTH then if 2000000 < bitsOf v 20 0 then refuse .range s else accept (s.plainWrite a v)
  else if a = R.COX_HEAT then
    if bitsOf v 7 0 < 85 || 120 < bitsOf v 7 0 || bitsOf v 11 8 = 0 then refuse .range s else accept (s.plainWrite a v)
  else if R.COX_TCOST ≤ a && (a - R.COX_TCOST) % 8 = 0 then if s.mode ≠ 2 then refuse .mode s else accept (s.plainWrite a v)
  else accept (s.plainWrite a v)

/-- WDT page (14 R479 to R482): a check-in is a core's. -/
def State.wdtWrite (s : State) (r : Req) (a : Nat) (v : Word) : WRes :=
  if a = R.WDT_SERVICE then
    let (rst, s) := s.wdtService v
    accept (if rst then s.askReset 0 else s)
  else if a = R.WDT_CHECKIN then if isCore r then accept (s.wdtCheckin (bitsOf v 5 0)) else refuse .requester s
  else if [R.WDT_CTL, R.WDT_PERIOD, R.WDT_OPEN, R.WDT_EXPECT0, R.WDT_EXPECT1].contains a then s.wdtCfgWrite a v
  else accept (s.plainWrite a v)

/-- A capture register and its companions: writing 1 to VALID clears the capture. -/
def State.clearCapture (s : State) (v : Word) (regs : List Nat) : State :=
  if v.getLsbD 31 then regs.foldl (fun s a => s.setReg a (resetVal a)) s else s

/-- MEM page (10 R371). -/
def State.memWrite (s : State) (a : Nat) (v : Word) : WRes :=
  if R.MEM_ECAP ≤ a && a < R.MEM_ECAP + 0x80 && (a - R.MEM_ECAP) % 0x20 = 0 then
    accept (s.clearCapture v [a, a + 4, a + 8])
  else accept (s.plainWrite a v)

/-- RETAIN page (10 R387). -/
def State.retainWrite (s : State) (a : Nat) (v : Word) : WRes :=
  if a = R.RETAIN_CMD then accept (s.retainCmd v)
  else if a = R.RETAIN_ECAP then accept (s.clearCapture v [R.RETAIN_ECAP, R.RETAIN_EADDR])
  else accept (s.plainWrite a v)

/-- EXEC_STOPREQ (04 R157). -/
def State.stopReq (s : State) (r : Req) (v : Word) : WRes :=
  if !isCore r then refuse .requester s
  else if bitsOf v 31 16 ≠ 0x57D0 then refuse .range s
  else accept ((s.raise Ev.execProgramStop ((s.taskOf r).getD 0 % 64)).askStop 0x02)

/-- EXEC page (04 R133, R134, R156, R157). -/
def State.execWrite (s : State) (r : Req) (a : Nat) (v : Word) : WRes :=
  let t := (a - R.EXEC_TCFG0) / 16
  let e := (a - R.EXEC_TCFG0) % 16
  let entry := decide (R.EXEC_TCFG0 ≤ a && a < R.EXEC_TCFG0 + 0x400)
  if a = R.EXEC_STOPREQ then s.stopReq r v
  else if a = R.EXEC_FLTINFO then
    accept (s.clearCapture v [R.EXEC_FLTINFO, R.EXEC_FLTPC, R.EXEC_FLTADDR, R.EXEC_FLTSTROKE])
  else if (a = R.EXEC_TEN0 || a = R.EXEC_TEN1 || (entry && e ≠ 12)) && s.mode ≠ 2 then refuse .mode s
  else if entry && e < 8 then
    let s' := s.plainWrite a v
    if taskCfgOk (s'.reg (R.EXEC_TCFG0 + 16 * t)) (s'.reg (R.EXEC_TCFG1 + 16 * t)) then accept s' else refuse .range s
  else if entry && e = 8 && v.toNat % 8 ≠ 0 then refuse .range s
  else accept (s.plainWrite a v)

/-- EDIT page (04 R158 to R160, R166): EDIT_TXID is writable in IDLE only. -/
def State.editWrite (s : State) (a : Nat) (v : Word) : WRes :=
  if a = R.EDIT_CMD then accept (s.editCmd s.loopConfigOk v)
  else if a = R.EDIT_WDATA then accept (s.editWdata v)
  else if a = R.EDIT_TXID && s.editSt ≠ 0 then refuse .mode s
  else if a = R.EDIT_TMO && bitsOf v 15 0 = 0 then refuse .range s
  else accept (s.plainWrite a v)

/-- FORCE page (04 R148): an entry's words are the staged entry's at FORCE_INDEX. -/
def State.forceWrite (s : State) (a : Nat) (v : Word) : WRes :=
  let i := s.rd R.FORCE_INDEX_INDEX
  let e := s.forceSel
  let put (e : Word × Word × Word) : WRes :=
    accept { s with force := { s.force with staged := setForceEntry s.force.staged i e } }
  if a = R.FORCE_ENTRY then put (v &&& 0xC0001FFF, e.2)
  else if a = R.FORCE_MASK then put (e.1, v, e.2.2)
  else if a = R.FORCE_VALUE then put (e.1, e.2.1, v)
  else if a = R.FORCE_CMD then accept (s.forceCmd v)
  else accept (s.plainWrite a v)

/-- The selected context of a core becomes x. -/
def State.setSelCtx (s : State) (c : Nat) (x : Ctx) : State :=
  let k := s.core c
  s.setCore c (if s.on (R.CORE_REGSEL_CTX.off (0x1000 * c)) then { k with bg := x } else { k with fg := x })

/-- CORE page, register a of MC0 for core c (05 R215, R216): state is written only in STOP and HOLD, on a halted core, and
G1 to G15 only in STOP. -/
def State.coreWrite (s : State) (c a : Nat) (v : Word) : WRes :=
  let k := s.core c
  let x := s.selCtx c
  let n := s.rd (R.CORE_REGSEL_REG.off (0x1000 * c))
  let no : WRes := refuse .mode (s.dbgRefuse c 1)
  if a = R.CORE_DBGCMD then s.coreCmd c v
  else if R.CORE_BP0 ≤ a && a < R.CORE_BP0 + 16 then
    if s.debugMode then accept (s.plainWrite (a + 0x1000 * c) v) else no
  else if a = R.CORE_REGDATA || a = R.CORE_LAS || a = R.CORE_FL then
    if !s.debugMode || !k.halted then no
    else if a = R.CORE_REGDATA then
      if n = 0 then accept s
      else if n < 16 then if s.mode = 2 then accept (s.setCore c { k with g := SMap.set (fun _ => 0) n v k.g }) else no
      else accept (s.setSelCtx c { x with f := SMap.set (fun _ => 0) (n - 16) v x.f })
    else if a = R.CORE_LAS then
      let d := bitsOf v 20 16
      if 16 < d then refuse .range s
      else accept (s.setSelCtx c { x with la := v.getLsbD 24, las := (List.range d).map fun i => v.getLsbD i })
    else accept (s.setSelCtx c { x with fl := ⟨v.getLsbD 4, v.getLsbD 3, v.getLsbD 2, v.getLsbD 1, v.getLsbD 0⟩ })
  else accept (s.plainWrite (a + 0x1000 * c) v)

/-- An accepted write of the active unit's host to the loop engine waits for the standby (09 R338). -/
def State.hostWaits (s : State) (r : Req) (retain : Option Nat) : State :=
  if hostSide r && s.mirrorOn then { s with pair := { s.pair with hostWait := some retain } } else s

/-- LOOP page (07 R256, R257); in a pair the active unit forwards a host's write of LOOP_FLT, and both units apply it at one input
complete (R258). -/
def State.loopPageWrite (s : State) (r : Req) (a : Nat) (v : Word) : WRes :=
  if a = R.LOOP_TADDR then
    if tableWords ≤ bitsOf v 18 0 then refuse .range s else accept (s.setReg (s.bk r a) (v &&& 0x7FFFF))
  else if a = R.LOOP_TDATA then
    match s.tableWrite r v with
    | .ok s => accept (s.hostWaits r none)
    | .error e => refuse e s
  else if hostSide r && s.mirrorOn && R.LOOP_FLT0 ≤ a && a < R.LOOP_FLT0 + 0x20 then
    accept ((s.loopQueue r a v).hostWaits r none)
  else accept (s.plainWrite a v)

/-- A LOOPCTX page (07 R249, R256, R257). -/
def State.loopctxWrite (s : State) (r : Req) (a : Nat) (v : Word) : WRes :=
  let off := a % 0x1000 - 0x100
  let n := (a / 0x1000 - 0x30) * 16 + off / 0xF0
  let e := off % 0xF0
  match regSpec? a with
  | some (x, _) =>
    if x.rw = 0 then accept s
    else match s.loopWrite r n (R.LOOPCTX_CTL + e) (writeBits x (s.reg a) v) with
    | (.ok s, _) => accept (s.hostWaits r none)
    | (.error e, s) => refuse e s
  | none => accept s

/-- HOST page (18). -/
def State.hostPageWrite (s : State) (a : Nat) (v : Word) : WRes :=
  if a = R.HOST_CFG then
    if bitsOf v 25 16 = 0 || 1000 < bitsOf v 25 16 || 13 < bitsOf v 11 8 then refuse .range s else accept (s.plainWrite a v)
  else if a = R.HOST_ECAP then accept (s.clearCapture v [R.HOST_ECAP, R.HOST_EADDR])
  else accept (s.plainWrite a v)

/-- FLASH_PSEL is banked. -/
def State.flashPageWrite (s : State) (r : Req) (a : Nat) (v : Word) : WRes :=
  if a = R.FLASH_PSEL then accept (s.setReg (s.bk r a) (v &&& 0xF)) else accept (s.plainWrite a v)

/-- EVT pages (03 R116, R121, R123). -/
def State.evtWrite (s : State) (r : Req) (a : Nat) (v : Word) : WRes :=
  if a = R.EVT_RAISE then s.programRaise r v
  else if a = R.EVT_RDATA then accept (s.setReg (s.bk r a) v)
  else accept (s.plainWrite a v)

/-- The block's own rule for a write of one of its registers. -/
def State.blockWrite (s : State) (r : Req) (a : Nat) (v : Word) : WRes :=
  match blockAt (a / 0x1000) with
  | some (.sys, _) => s.sysWrite a v
  | some (.clk, _) => s.clkWrite a v
  | some (.pwr, _) => if a = R.PWR_CMD then accept (s.pwrCmd v) else accept (s.plainWrite a v)
  | some (.cox, _) => s.coxWrite a v
  | some (.evt, _) => s.evtWrite r a v
  | some (.wdt, _) => s.wdtWrite r a v
  | some (.rtc, _) => s.rtcWrite a v
  | some (.mem, _) => s.memWrite a v
  | some (.retain, _) => s.retainWrite a v
  | some (.flash, _) => s.flashPageWrite r a v
  | some (.upd, _) =>
    let (rst, e, s) := s.updWrite r a v
    (e, if rst then s.askReset 1 else s)
  | some (.log, _) => s.logWrite r a v
  | some (.spare, _) => s.spareWrite r a v
  | some (.sec, _) => s.secWrite r a v
  | some (.mbx, _) => s.mbxWrite r a v
  | some (.exec, _) => s.execWrite r a v
  | some (.edit, _) => s.editWrite a v
  | some (.force, _) => s.forceWrite a v
  | some (.core, c) => s.coreWrite c (a - 0x1000 * c) v
  | some (.loop, _) => s.loopPageWrite r a v
  | some (.loopctx, _) => s.loopctxWrite r a v
  | some (.fbc, _) => s.fbcWrite r a v
  | some (.fbx, _) => accept (s.plainWrite a v)
  | some (.slot, _) => s.slotWrite a v
  | some (.pair, _) => s.pairWrite r a v
  | some (.claim, _) => s.claimWrite r a v
  | some (.net, _) => s.netWrite r a v
  | some (.sess, _) => s.sessWrite r a v
  | some (.radio, _) => s.radioWrite r a v
  | some (.can, _) => s.canWrite r a v
  | some (.dio, _) => s.dioWrite s.slotOverlaps a v
  | some (.panel, _) => s.panelWrite r a v
  | some (.host, _) => s.hostPageWrite a v
  | none => accept s

/-! ### The checks every page makes -/

/-- Pages that take writes from the host port and management sessions only, and pages that take none from a core. -/
def hostPages : List Nat := [0x00, 0x11, 0x0F, 0x71]
def corelessPages : List Nat := [0x01, 0x03, 0x07, 0x09, 0x0B, 0x0D, 0x0E, 0x44, 0x45, 0x72]

/-- A requester may write to a page (03 R106): by its chapter's own words. -/
def mayWrite (r : Req) (page a : Nat) : Bool :=
  if hostPages.contains page then hostSide r
  else if corelessPages.contains page then !isCore r
  else if a = R.PWR_CMD then !isCore r
  else true

/-- Pages that a standby and an orphaned unit close to host writes (09 R337). -/
def standbyClosed (page : Nat) : Bool :=
  [0x10, 0x11, 0x20, 0x40, 0x43, 0x03].contains page || (0x30 ≤ page && page < 0x40)

/-- The register accepts writes while its block is disabled (03 R103): a CAN controller's configuration (11 R419). -/
def disabledWrite (page a : Nat) : Bool :=
  let x := a - 0x1000 * (page - 0x61)
  (page = 0x61 || page = 0x62) &&
    (x = R.CAN_CFG || x = R.CAN_NBT || x = R.CAN_DBT || (R.CAN_FILTID ≤ x && x < R.CAN_FILTID + 0x100))

/-- A write of a block-specific register that its page lets through (R103, R108): disabled, locked, else the block's rule. -/
def State.openWrite (s : State) (r : Req) (a : Nat) (v : Word) : WRes :=
  let page := a / 0x1000
  match regSpec? a with
  | none => accept s
  | some (x, _) =>
    if !s.pgEn page && !disabledWrite page a then refuse .disabled s
    else if s.locked page && x.rw ≠ 0 then
      let rw := BitVec.ofNat 32 x.rw
      if v &&& rw = s.peek r a &&& rw then accept s else refuse .locked s
    else s.blockWrite r a v

/-- A write to an assigned page (R7, R97, R106): width, reserved registers, the standby's and the pair's rules, the requester,
the header, then the register. -/
def State.pageWrite (s : State) (r : Req) (a : Nat) (v : Word) (be : BitVec 4) : WRes :=
  let page := a / 0x1000
  let off := a % 0x1000
  if be ≠ 15#4 then refuse .width s
  else if (0x02C ≤ off && off < 0x100) || (0x100 ≤ off && (regSpec? a).isNone) then accept s
  else if hostSide r && (s.pairState = 2 || s.pairState = 3) && standbyClosed page then
    refuse .mode (if a = R.EDIT_CMD then s.editRefuse 0x03 else s)
  else if page = 0x12 && off ≠ 0x014 && s.rd R.SYS_STRAP_ROLE ≠ 0 then refuse .mode s
  else if !mayWrite r page a then refuse .requester s
  else if off < 0x100 then s.hdrWrite page off v
  else s.openWrite r a v

/-- A requester's write at an address of register space: an error, or none, and the state after it; a page's refusal is captured
in its PG_ERR (R106). -/
def State.regWrite (s : State) (r : Req) (a : Nat) (v : Word) (be : BitVec 4) : Option AccErr × State :=
  let page := a / 0x1000
  if hostSide r && !pageAnswers s.mode page then (some .notAvailable, s)
  else if (blockAt page).isNone then (some .unmapped, s)
  else match s.pageWrite r a v be with
  | (none, s) => (none, s)
  | (some e, s) => (some (.pg e), s.capture page (a % 0x1000) r e)

/-- A requester's read, with a refusal captured in the page's PG_ERR (R106); a narrower read fails (00 R7). -/
def State.regReadCap (s : State) (r : Req) (a : Nat) (be : BitVec 4 := 15) : Option AccErr × Word × State :=
  match s.regRead r a be with
  | (some (.pg e), w, s) => (some (.pg e), w, s.capture (a / 0x1000) (a % 0x1000) r e)
  | x => x

end Sys2Proof.Machine
end

