-- ==== Sys2Proof/Machine/Access.lean ====
section
/-!
DEFINITION. Machine/Access.lean: accesses as their requesters make them: the host port's (18 R553 to R565), a management session's,
a core's with LDW and STW (05 R193, R208), and the register commands that every command row goes through.
-/

namespace Sys2Proof.Machine

/-! ### The host port -/

/-- A host access fails (18 R554, R565): HP_ERR_n, the count, the capture, and ACCESS_ERROR except while HP_ERR_n is held low
(02 R68). -/
def State.hostFail (s : State) (reason addr : Nat) (write : Bool) : State :=
  let s := s.inc R.HOST_ERRCNT_COUNT
  let s := if s.on R.HOST_ECAP_VALID then s.wr R.HOST_ECAP_MORE 1
    else (s.setReg R.HOST_ECAP (BitVec.ofNat 32 (0x80000000 + reason * 0x10000 + write.toNat))).setReg R.HOST_EADDR
      (BitVec.ofNat 32 (addr % 2 ^ 24))
  let s := if s.sys.hpOut then s.raise Ev.hostAccessError (reason * 0x1000000 + addr % 2 ^ 24) else s
  s.out (.hpErr reason)

/-- The reason of a failed host access to register space (18 R565). -/
def AccErr.reason : AccErr → Nat
  | .unmapped => 1
  | .notAvailable => 4
  | .pg _ => 8

/-- A requester can make an access: the module has power, no supply failure is latched, a session is open, a core executes. -/
def State.reaches (s : State) (r : Req) : Bool :=
  !s.sys.latch && s.sys.stage ≠ 0 &&
    (match r with
    | .mgmt n => s.mbx.sessions.any fun x => x.n = n
    | .core c => (s.env? c.val).isSome
    | _ => true)

/-- A core's refused access faults its task (03 R97, R106): REQUESTER for an event port that a core may not read, else
ACCESS. -/
def accFault (a : Nat) (write : Bool) (e : AccErr) : Flt :=
  if !write && decide (e = .pg .requester) then .requester (0x40000000 + a) else .access (0x40000000 + a)

/-- What a failed access to register space does beside its page's capture. -/
def State.accFails (s : State) (r : Req) (a : Nat) (write : Bool) (e : AccErr) : State :=
  match r with
  | .host => s.hostFail e.reason (0x40000 + a) write
  | .core c =>
    match s.env? c.val with
    | some x => s.taskFault c.val x.bgd x.run x.ctx.pc (accFault a write e)
    | none => s
  | _ => s

/-- The host's access while HP_ERR_n is held low (02 R68): it fails and has no effect; the spec names no reason for it: a free
value. -/
def State.heldAccess (s : State) (addr : Nat) (write : Bool) : State :=
  s.used.hostFail (s.free.toNat % 256) addr write

/-- A requester's write of a word to an address of register space, with the reset that it may ask for. -/
def State.cmdWrite (s : State) (r : Req) (a : Nat) (v : Word) (be : BitVec 4 := 15) : State :=
  if !s.reaches r then s
  else if r = .host && !s.sys.hpOut then s.heldAccess (0x40000 + a) true
  else match s.regWrite r a v be with
  | (none, s') => s.settle s'
  | (some e, s') => s.settle (s'.accFails r a true e)

/-- A requester's read of a register, whose value goes to the requester; a failed read of the host returns 0 (18 R554). -/
def State.cmdRead (s : State) (r : Req) (a : Nat) (be : BitVec 4 := 15) : State :=
  if !s.reaches r then s
  else if r = .host && !s.sys.hpOut then s.heldAccess (0x40000 + a) false
  else match s.regReadCap r a be with
  | (none, v, s) => s.out (.readValue r a v)
  | (some e, _, s) => s.accFails r a false e

/-- A command word: KEY in [31:16] and what the low half holds. -/
def cmdWord (key low : Nat) : Word := BitVec.ofNat 32 (key * 0x10000 + low)

/-! ### LDW and STW (05 R193, R208) -/

/-- A load from this address returns each unit's own value in TRACK (R208): an event port's, or a banked register. -/
def ownValue (a : Nat) : Bool := (headPort a).isSome || isBanked a

/-- A load from a register page (R208): in TRACK a unit in step takes the value of the active unit's load, which may still have
to arrive; the active unit sends its value. -/
def Env.loadReg (e : Env) (rd : BitVec 5) (a : Nat) : IRes :=
  let r : Req := .core (Fin.ofNat 5 e.c)
  let ra := a - 0x40000000
  match e.s.regReadCap r ra with
  | (some err, _, s) => .flt (accFault ra false err) s
  | (none, v, s) =>
    let l := s.lcore e.c
    if s.mode = 4 && s.pairState = 2 && !ownValue ra then
      match s.pair.loads.find? fun x => x.1 = l && x.2.1 = a with
      | some x =>
        let s := { s with pair := { s.pair with loads := s.pair.loads.erase x } }
        .done (({ e with s := s }).setReg rd x.2.2).advance
      | none => .waits { e with s := s } rd a v
    else
      let s := if s.mirrorOn && !ownValue ra then s.out (.loadValue s.pairHdr l a v) else s
      .done (({ e with s := s }).setReg rd v).advance

/-- A load from a register page with its transfer over the fabric. -/
def Env.loadPage (e : Env) (rd : BitVec 5) (a : Nat) (d : Ecc) : IRes :=
  match e.checkPage a d false with
  | .error (f, s') => .flt f s'
  | .ok e => e.loadReg rd a

/-- LDW (R193). -/
def execLdw (x : At) (rd ra : BitVec 5) (imm : BitVec 15) (d : Ecc) (s : State) : Out :=
  .next (s.instr x (s.clocksOf x fun e => accessClocks (e.dataAddr ra imm) 3) fun e =>
    if badDest rd then .flt (.illegal 5) e.s
    else
      let a := e.dataAddr ra imm
      match loadFault e.s a 4 with
      | some f => .flt f e.s
      | none => if areaOf a = .page then e.loadPage rd a d else e.loadMem 4 (BitVec.ofNat 32) rd a d)

/-- A store to a register page, which takes effect in each unit (R208). -/
def Env.storeReg (e : Env) (rd : BitVec 5) (a : Nat) : IRes :=
  let r : Req := .core (Fin.ofNat 5 e.c)
  let ra := a - 0x40000000
  match e.s.regWrite r ra (e.reg rd) 15 with
  | (none, s) => .done ({ e with s := s } : Env).advance
  | (some err, s) => .flt (accFault ra true err) s

/-- A store to a register page with its transfer over the fabric. -/
def Env.storePage (e : Env) (rd : BitVec 5) (a : Nat) (d : Ecc) : IRes :=
  match e.checkPage a d true with
  | .error (f, s') => .flt f s'
  | .ok e => e.storeReg rd a

/-- STW (R193). -/
def execStw (x : At) (rd ra : BitVec 5) (imm : BitVec 15) (d : Ecc) (s : State) : Out :=
  .next (s.settle (s.instr x (s.clocksOf x fun e => accessClocks (e.dataAddr ra imm) 1) fun e =>
    let a := e.dataAddr ra imm
    match storeFault e.s a 4 with
    | some f => .flt f e.s
    | none => if areaOf a = .page then e.storePage rd a d else e.storeMem 4 rd a d))

/-- LOAD_VALUE_TIMEOUT (09 R342): the standby uses its own value, and the stroke is provisional. -/
def execLoadValueTimeout (c : Fin 5) (s : State) : Out :=
  .next (match (s.core c.val).wait with
    | some (_, _, own) =>
      let s := if s.mode = 4 && s.pairState = 2 then { s with pair := { s.pair with provNow := true } } else s
      s.loadArrives c.val own
    | none => s)

end Sys2Proof.Machine
end

