-- ==== Sys2Proof/Machine/Commands.lean ====
section
/-!
DEFINITION. Machine/Commands.lean: the command rows that are a write or a read of one register: each is that access, with the word
its table gives the command, by the requester it names.
-/

namespace Sys2Proof.Machine

/-! ### SYS_CMD (02 R86) -/

def State.sysCommand (s : State) (r : Req) (code : Nat) : Out := .next (s.cmdWrite r R.SYS_CMD (cmdWord 0xC0C5 code))

/-- STOP (R86, R87). -/
def execStop (r : Req) (s : State) : Out := s.sysCommand r 0x01
/-- START_WARM (R78, R86). -/
def execStartWarm (r : Req) (s : State) : Out := s.sysCommand r 0x02
/-- START_COLD (R78, R86). -/
def execStartCold (r : Req) (s : State) : Out := s.sysCommand r 0x03
/-- RESET (R59, R86). -/
def execReset (r : Req) (s : State) : Out := s.sysCommand r 0x06
/-- PERSIST (R93). -/
def execPersist (r : Req) (s : State) : Out := s.sysCommand r 0x08
/-- COLD_CONSENT (R78). -/
def execColdConsent (r : Req) (s : State) : Out := s.sysCommand r 0x09
/-- HOLD (09 R364). -/
def execHold (r : Req) (s : State) : Out := s.sysCommand r 0x0A
/-- RELEASE (09 R365). -/
def execRelease (r : Req) (s : State) : Out := s.sysCommand r 0x0B
/-- SWAP (09 R355). -/
def execSwap (r : Req) (s : State) : Out := s.sysCommand r 0x0C

/-! ### PWR_CMD, RETAIN_CMD -/

def State.pwrCommand (s : State) (r : Req) (code : Nat) : Out := .next (s.cmdWrite r R.PWR_CMD (cmdWord 0x9A7E code))

/-- P0 (06 R225). -/
def execP0 (r : Req) (s : State) : Out := s.pwrCommand r 0
/-- P1 (06 R225). -/
def execP1 (r : Req) (s : State) : Out := s.pwrCommand r 1
/-- P2 (06 R225). -/
def execP2 (r : Req) (s : State) : Out := s.pwrCommand r 2
/-- PARK (06 R229). -/
def execPark (r : Req) (s : State) : Out := s.pwrCommand r 3

/-- STORE (10 R387). -/
def execStore (r : Req) (s : State) : Out := .next (s.cmdWrite r R.RETAIN_CMD (cmdWord 0x4E56 1))

/-! ### The program: EDIT, FORCE, EXEC, CORE, LOOP pages -/

def State.editCommand (s : State) (r : Req) (code : Nat) : Out := .next (s.cmdWrite r R.EDIT_CMD (cmdWord 0xED17 code))

/-- EDIT_CMD OPEN (04 R159). -/
def execEditOpen (r : Req) (s : State) : Out := s.editCommand r 1
/-- EDIT_CMD BLOCK (04 R160). -/
def execBlock (r : Req) (s : State) : Out := s.editCommand r 2
/-- EDIT_CMD COMMIT (04 R162). -/
def execCommit (r : Req) (s : State) : Out := s.editCommand r 3
/-- EDIT_CMD ABORT (04 R170). -/
def execEditAbort (r : Req) (s : State) : Out := s.editCommand r 4
/-- EDIT_WDATA (04 R160). -/
def execEditWdata (r : Req) (v : Word) (s : State) : Out := .next (s.cmdWrite r R.EDIT_WDATA v)

/-- ELIGIBLE (04 R158): the flash write of the transaction ends; `bad` names the blocks whose write fails in turn (10 R378). -/
def execEligible (bad : List Nat) (s : State) : Out :=
  .next (if s.sys.latch || s.editSt ≠ 3 || s.edit.written then s
    else
      let (ok, s) := s.flashWrite 12 bad
      s.editWritten ok)

/-- NEVER_IDLE (04 R166). -/
def execNeverIdle (s : State) : Out := .next s.editNeverIdle

def State.forceCommand (s : State) (r : Req) (code : Nat) : Out := .next (s.cmdWrite r R.FORCE_CMD (cmdWord 0xF0CE code))

/-- FORCE_CMD APPLY (04 R148). -/
def execApply (r : Req) (s : State) : Out := s.forceCommand r 1
/-- FORCE_CMD CLEAR_ALL (04 R149). -/
def execClearAll (r : Req) (s : State) : Out := s.forceCommand r 2
/-- FORCE_CMD REVERT (04 R148). -/
def execRevert (r : Req) (s : State) : Out := s.forceCommand r 3

/-- EXEC_STOPREQ (04 R157). -/
def execExecStopreq (r : Req) (v : Word) (s : State) : Out := .next (s.cmdWrite r R.EXEC_STOPREQ v)
/-- EXEC_STROKELO (00 R10). -/
def execExecStrokelo (r : Req) (s : State) : Out := .next (s.cmdRead r R.EXEC_STROKELO)
/-- EXEC_SCANLO (00 R10). -/
def execExecScanlo (r : Req) (s : State) : Out := .next (s.cmdRead r R.EXEC_SCANLO)
/-- PWR_EMODLO (00 R10). -/
def execPwrEmodlo (r : Req) (s : State) : Out := .next (s.cmdRead r R.PWR_EMODLO)

def State.coreCommand (s : State) (r : Req) (c : Fin 5) (low : Nat) : Out :=
  .next (s.cmdWrite r (R.CORE_DBGCMD + 0x1000 * c.val) (cmdWord 0xDB60 low))

/-- CORE_DBGCMD HALT (05 R216). -/
def execHalt (r : Req) (c : Fin 5) (s : State) : Out := s.coreCommand r c 1
/-- CORE_DBGCMD RESUME (05 R216). -/
def execResume (r : Req) (c : Fin 5) (s : State) : Out := s.coreCommand r c 2
/-- CORE_DBGCMD STEP (05 R216). -/
def execStep (r : Req) (c : Fin 5) (s : State) : Out := s.coreCommand r c 3
/-- CORE_DBGCMD RUNTASK (05 R217). -/
def execRuntask (r : Req) (c : Fin 5) (task : Fin 64) (s : State) : Out := s.coreCommand r c (task.val * 0x100 + 4)

/-- LOOP_TDATA (07 R256): a write of a table word, or a read of one. -/
def execLoopTdata (r : Req) (write : Option Word) (s : State) : Out :=
  .next (match write with
    | some v => s.cmdWrite r R.LOOP_TDATA v
    | none => s.cmdRead r R.LOOP_TDATA)

/-! ### Page headers and the event controller (03) -/

/-- EVT_PnHEAD (R119). -/
def execEvtPnhead (r : Req) (port : Fin 4) (s : State) : Out := .next (s.cmdRead r (R.EVT_PHEAD + 16 * port.val))

/-- EVT_RAISE (R123). -/
def execEvtRaise (r : Req) (source : BitVec 8) (code : BitVec 7) (s : State) : Out :=
  .next (s.cmdWrite r R.EVT_RAISE (BitVec.ofNat 32 (source.toNat * 0x100 + code.toNat)))

/-- PG_EVFORCE of a page (R105). -/
def execPgEvforce (r : Req) (page : BitVec 7) (bits : Word) (s : State) : Out :=
  .next (s.cmdWrite r (hdr page.toNat 0x018) bits)

/-- PG_LOCKKEY 0x4C4B (R109). -/
def execLock (r : Req) (page : BitVec 7) (key : BitVec 16) (s : State) : Out :=
  .next (s.cmdWrite r (hdr page.toNat 0x028) (cmdWord 0x4C4B key.toNat))

/-- PG_LOCKKEY 0x554C (R109, R110). -/
def execUnlock (r : Req) (page : BitVec 7) (key : BitVec 16) (s : State) : Out :=
  .next (s.cmdWrite r (hdr page.toNat 0x028) (cmdWord 0x554C key.toNat))

/-- PG_CTL.BRST of a page (R101, R102); the EN that the write carries is the present one. -/
def execBlockReset (r : Req) (page : BitVec 7) (s : State) : Out :=
  .next (s.cmdWrite r (hdr page.toNat 0x008) (BitVec.ofNat 32 (2 + (s.pgEn page.toNat).toNat)))

/-- PG_CTL.EN of a page (R102, R103). -/
def execBlockDisable (r : Req) (page : BitVec 7) (en : Bool) (s : State) : Out :=
  .next (s.cmdWrite r (hdr page.toNat 0x008) (BitVec.ofNat 32 en.toNat))

/-- A write of any register: the word of register space, the value, the byte enables (00 R7, R8, 03 R97, R106). -/
def execRegisterWrite (r : Req) (w : BitVec 17) (v : Word) (be : BitVec 4) (s : State) : Out :=
  .next (s.cmdWrite r (4 * w.toNat) v be)

/-! ### Floryn and the pair (08, 09) -/

/-- FBC_APPLY APPLY (R291). -/
def execFbcApply (r : Req) (s : State) : Out := .next (s.cmdWrite r R.FBC_APPLY (cmdWord 0xFB0C 1))
/-- FBC_APPLY REVERT (R291). -/
def execFbcRevert (r : Req) (s : State) : Out := .next (s.cmdWrite r R.FBC_APPLY (cmdWord 0xFB0C 2))
/-- FBC_ACQ_CMD SUBMIT (R319). -/
def execAcqSubmit (r : Req) (s : State) : Out := .next (s.cmdWrite r R.FBC_ACQ_CMD (cmdWord 0xAC9E 1))
/-- FBC_ACQ_RDATA (R319). -/
def execFbcAcqRdata (r : Req) (s : State) : Out := .next (s.cmdRead r R.FBC_ACQ_RDATA)

/-- PAIR_CMD RESYNC (R359). -/
def execResync (r : Req) (s : State) : Out := .next (s.cmdWrite r R.PAIR_CMD (cmdWord 0x9A17 1))
/-- PAIR_CMD SPARE_LANE (R330). -/
def execSpareLane (r : Req) (lane : Fin 4) (s : State) : Out :=
  .next (s.cmdWrite r R.PAIR_CMD (cmdWord 0x9A17 (lane.val * 0x100 + 2)))
/-- PAIR_CMD ABORT_RESYNC (R360). -/
def execAbortResync (r : Req) (s : State) : Out := .next (s.cmdWrite r R.PAIR_CMD (cmdWord 0x9A17 3))

/-! ### Ethernet, radio and CAN (11) -/

/-- NET_TXCMD SUBMIT (R406). -/
def execNetSubmit (r : Req) (s : State) : Out := .next (s.cmdWrite r R.NET_TXCMD (cmdWord 0x7E70 1))

def State.sessCommand (s : State) (r : Req) (sess : Fin 128) (code : Nat) : Out :=
  .next (s.cmdWrite r (R.SESS_CMD + 0x1000 * (sess.val / 16) + 0xF0 * (sess.val % 16)) (cmdWord 0x5E55 code))

/-- SESS_CMD OPEN (R405). -/
def execSessOpen (r : Req) (sess : Fin 128) (s : State) : Out := s.sessCommand r sess 1
/-- SESS_CMD CLOSE (R405). -/
def execSessClose (r : Req) (sess : Fin 128) (s : State) : Out := s.sessCommand r sess 2
/-- SESS_CMD ABORT (R405). -/
def execSessAbort (r : Req) (sess : Fin 128) (s : State) : Out := s.sessCommand r sess 3

/-- NET_RXINFO (R408). -/
def execNetRxinfo (r : Req) (s : State) : Out := .next (s.cmdRead r R.NET_RXINFO)
/-- NET_RXDATA (R408). -/
def execNetRxdata (r : Req) (s : State) : Out := .next (s.cmdRead r R.NET_RXDATA)
/-- NET_TODOFSLO (00 R10). -/
def execNetTodofslo (r : Req) (s : State) : Out := .next (s.cmdRead r R.NET_TODOFSLO)

def State.radioCommand (s : State) (r : Req) (code : Nat) : Out := .next (s.cmdWrite r R.RADIO_CMD (cmdWord 0x4AD0 code))

/-- RADIO_CMD SUBMIT (R415). -/
def execRadioSubmit (r : Req) (s : State) : Out := s.radioCommand r 1
/-- RADIO_CMD ACK (R416). -/
def execRadioAck (r : Req) (s : State) : Out := s.radioCommand r 2
/-- RADIO_CMD CANCEL (R416). -/
def execRadioCancel (r : Req) (s : State) : Out := s.radioCommand r 3
/-- RADIO_RXINFO (R417). -/
def execRadioRxinfo (r : Req) (s : State) : Out := .next (s.cmdRead r R.RADIO_RXINFO)
/-- RADIO_RXDATA (R417). -/
def execRadioRxdata (r : Req) (s : State) : Out := .next (s.cmdRead r R.RADIO_RXDATA)

def State.canCommand (s : State) (r : Req) (ctl : Fin 2) (code : Nat) : Out :=
  .next (s.cmdWrite r (R.CAN_CMD + 0x1000 * ctl.val) (cmdWord 0xCA4F code))

/-- CANx_CMD SUBMIT (R420). -/
def execCanSubmit (r : Req) (ctl : Fin 2) (s : State) : Out := s.canCommand r ctl 1
/-- CANx_CMD CANCEL (R421). -/
def execCanCancel (r : Req) (ctl : Fin 2) (s : State) : Out := s.canCommand r ctl 2
/-- CANx_CMD RECOVER (R422). -/
def execRecover (r : Req) (ctl : Fin 2) (s : State) : Out := s.canCommand r ctl 3
/-- CANx_RXHEAD (R423). -/
def execCanxRxhead (r : Req) (ctl : Fin 2) (s : State) : Out := .next (s.cmdRead r (R.CAN_RXHEAD + 0x1000 * ctl.val))
/-- CANx_RXDATA (R423). -/
def execCanxRxdata (r : Req) (ctl : Fin 2) (s : State) : Out := .next (s.cmdRead r (R.CAN_RXDATA + 0x1000 * ctl.val))

/-! ### Local I/O and the panel (12, 13) -/

/-- DIO_CMD SPARE_LEG (12 R441). -/
def execSpareLeg (r : Req) (ch : Fin 16) (s : State) : Out :=
  .next (s.cmdWrite r R.DIO_CMD (cmdWord 0xD10C (ch.val * 0x100 + 1)))

def State.panelCommand (s : State) (r : Req) (code : Nat) : Out := .next (s.cmdWrite r R.PANEL_CMD (cmdWord 0xE7AB code))

/-- PANEL_CMD CLEAR (13 R451). -/
def execClear (r : Req) (s : State) : Out := s.panelCommand r 1
/-- PANEL_CMD FULL (13 R451). -/
def execFull (r : Req) (s : State) : Out := s.panelCommand r 2
/-- PANEL_CMD PARTIAL (13 R451). -/
def execPartialUpdate (r : Req) (s : State) : Out := s.panelCommand r 3
/-- A MORDANT update: PANEL_CMD MORDANT by a requester, or without one the start of an update that is due (13 R451, R461). -/
def execMordant (via : Option Req) (s : State) : Out :=
  match via with
  | some r => s.panelCommand r 4
  | none => .next s.mordantNext

/-- PANEL_WDATA (13 R445): a write of a host-plane word, or a read of one. -/
def execPanelWdata (r : Req) (write : Option Word) (s : State) : Out :=
  .next (match write with
    | some v => s.cmdWrite r R.PANEL_WDATA v
    | none => s.cmdRead r R.PANEL_WDATA)

/-- PANEL_MWDATA (13 R460): a write of a bitmap word, or a read of one. -/
def execPanelMwdata (r : Req) (write : Option Word) (s : State) : Out :=
  .next (match write with
    | some v => s.cmdWrite r R.PANEL_MWDATA v
    | none => s.cmdRead r R.PANEL_MWDATA)

/-! ### Clocks, the watchdog and the calendar (14, 15) -/

/-- CLK_SEL (14 R474). -/
def execClkSel (r : Req) (ref : BitVec 2) (s : State) : Out := .next (s.cmdWrite r R.CLK_SEL (ref.setWidth 32))

/-- CLK_OUTCTL (14 R476). -/
def execClkoutSet (r : Req) (en : Bool) (src : BitVec 4) (div : BitVec 12) (s : State) : Out :=
  .next (s.cmdWrite r R.CLK_OUTCTL (BitVec.ofNat 32 (en.toNat * 0x80000000 + src.toNat * 0x10000 + div.toNat)))

/-- FMC_CMD START (14 R477). -/
def execFmcStart (r : Req) (s : State) : Out := .next (s.cmdWrite r R.FMC_CMD (cmdWord 0xF3C0 1))
/-- FMC_CMD ABORT (14 R478). -/
def execFmcAbort (r : Req) (s : State) : Out := .next (s.cmdWrite r R.FMC_CMD (cmdWord 0xF3C0 2))

/-- A service of the watchdog (14 R481). The count of a watchdog that runs on the RC, which this model's ticks do not advance,
comes with the command; while the count is frozen (R485) the first command after the freeze gives it, and it stays. -/
def execService (r : Req) (count : Option Nat) (s : State) : Out :=
  let s := match count with
    | some n =>
      if s.on R.WDT_CTL_CLKSEL && s.wdtCounting && !(s.on R.WDT_STAT_FROZEN && s.wdt.rcHeld) then
        { s.wr R.WDT_COUNT_COUNT n with wdt := { s.wdt with rcHeld := true } }
      else s
    | none => s
  .next (s.cmdWrite r R.WDT_SERVICE 0x0000A5C3)

/-- WDT_CHECKIN (14 R482). -/
def execCheckin (r : Req) (task : Fin 64) (s : State) : Out :=
  .next (s.cmdWrite r R.WDT_CHECKIN (BitVec.ofNat 32 task.val))

/-- RTC_CTL.COMMIT (15 R493). -/
def execRtcCommit (r : Req) (s : State) : Out := .next (s.cmdWrite r R.RTC_CTL 1)
/-- RTC_CTL.ARM (15 R496). -/
def execArm (r : Req) (s : State) : Out := .next (s.cmdWrite r R.RTC_CTL 2)
/-- RTC_CTL.DISARM (15 R496). -/
def execDisarm (r : Req) (s : State) : Out := .next (s.cmdWrite r R.RTC_CTL 4)
/-- RTC_SEC (15 R491). -/
def execRtcSec (r : Req) (s : State) : Out := .next (s.cmdRead r R.RTC_SEC)
/-- RTC_YEAR_HI (15 R491). -/
def execRtcYearHi (r : Req) (s : State) : Out := .next (s.cmdRead r R.RTC_YEAR_HI)
/-- RTC_TRIM (15 R499). -/
def execTrimSet (r : Req) (ppm10 : BitVec 16) (s : State) : Out := .next (s.cmdWrite r R.RTC_TRIM (ppm10.setWidth 32))

/-- OSC_STOP (15 R501): the calendar oscillator stops: the count stops and is not valid. -/
def execOscStop (s : State) : Out :=
  .next (let s := (s.wr R.RTC_STAT_VALID 0).wr R.RTC_STAT_OSCSTOP 1
    (s.setReady 2 false).raise Ev.rtcOscStop 0)

/-! ### The Marshal, sparing and the recorder (16) -/

/-- MBX_SUBMIT SUBMIT (R505). -/
def execMbxSubmit (r : Req) (s : State) : Out := .next (s.cmdWrite r R.MBX_SUBMIT (cmdWord 0x3B0C 1))
/-- MBX_SUBMIT CANCEL (R507). -/
def execMbxCancel (r : Req) (s : State) : Out := .next (s.cmdWrite r R.MBX_SUBMIT (cmdWord 0x3B0C 2))
/-- MBX_NONCE0 (R508). -/
def execMbxNonce0 (r : Req) (s : State) : Out := .next (s.cmdRead r R.MBX_NONCE0)
/-- MBX_RDATA (R506). -/
def execMbxRdata (r : Req) (s : State) : Out := .next (s.cmdRead r R.MBX_RDATA)

/-- ENTER_RECOVERY (02 R67, 16 R509): verified, it resets the module into RECOVERY. -/
def execEnterRecovery (late : Bool) (s : State) : Out :=
  .next (s.mbxTake 0x10 fun c s =>
    let (reason, s) := s.mbxVerify c rightRecovery
    if reason ≠ 0 then s.mbxOutcome c 2 reason false []
    else (s.mbxOutcome c 1 0 late []).resetNow .hostCommand true)

/-- SPARE_CMD SUBST_CORE (R517). -/
def execSubstCore (r : Req) (lcore : Fin 4) (s : State) : Out :=
  .next (s.cmdWrite r R.SPARE_CMD (cmdWord 0x5AC0 (lcore.val * 0x100 + 1)))
/-- SPARE_CMD TEST_SPARE (R515). -/
def execTestSpare (r : Req) (s : State) : Out := .next (s.cmdWrite r R.SPARE_CMD (cmdWord 0x5AC0 2))

/-- LOG_RDATA0 (R525); operand: what flash returns for the record, where it is not what was written. -/
def execLogRdata0 (r : Req) (stored : Option (List Byte)) (s : State) : Out :=
  .next (match stored with
    | none => s.cmdRead r R.LOG_RDATA0
    | some b =>
      if !s.reaches r || (r = .host && !s.sys.hpOut) || (hostSide r && !pageAnswers s.mode 0x0C) then s.cmdRead r R.LOG_RDATA0
      else
        let (v, s) := s.logSnapshot r (some b)
        s.out (.readValue r R.LOG_RDATA0 v))

def State.logCommand (s : State) (r : Req) (code : Nat) : Out := .next (s.cmdWrite r R.LOG_RCMD (cmdWord 0x10C6 code))

/-- LOG_RCMD NEXT (R525). -/
def execNext (r : Req) (s : State) : Out := s.logCommand r 1
/-- LOG_RCMD PREV (R525). -/
def execPrev (r : Req) (s : State) : Out := s.logCommand r 2
/-- LOG_RCMD FIRST (R525). -/
def execFirst (r : Req) (s : State) : Out := s.logCommand r 3
/-- LOG_RCMD LAST (R525). -/
def execLast (r : Req) (s : State) : Out := s.logCommand r 4

/-! ### Updates, keys and attestation (17) -/

def State.updCommand (s : State) (r : Req) (code : Nat) : Out := .next (s.cmdWrite r R.UPD_CMD (cmdWord 0x0DA7 code))

/-- UPD_CMD OPEN (R530). -/
def execUpdOpen (r : Req) (s : State) : Out := s.updCommand r 1
/-- UPD_CMD FINISH (R532). -/
def execFinish (r : Req) (s : State) : Out := s.updCommand r 2
/-- UPD_CMD ABORT (R533). -/
def execUpdAbort (r : Req) (s : State) : Out := s.updCommand r 3
/-- UPD_CMD UNSTAGE (R534). -/
def execUnstage (r : Req) (s : State) : Out := s.updCommand r 4
/-- UPD_WDATA (R531). -/
def execUpdWdata (r : Req) (v : Word) (s : State) : Out := .next (s.cmdWrite r R.UPD_WDATA v)

def State.keyCommand (s : State) (r : Req) (code : Nat) : Out := .next (s.cmdWrite r R.SEC_KCMD (cmdWord 0x6E4B code))

/-- SEC_KCMD OPEN (R546). -/
def execKcmdOpen (r : Req) (s : State) : Out := s.keyCommand r 1
/-- SEC_KCMD ENROLL (R546). -/
def execEnroll (r : Req) (s : State) : Out := s.keyCommand r 2
/-- SEC_KCMD REVOKE (R546). -/
def execRevoke (r : Req) (s : State) : Out := s.keyCommand r 3
/-- SEC_ATTCMD REPORT (R549). -/
def execReport (r : Req) (s : State) : Out := .next (s.cmdWrite r R.SEC_ATTCMD (cmdWord 0xA77E 1))
/-- SEC_ATTCMD CERT (R549). -/
def execCert (r : Req) (s : State) : Out := .next (s.cmdWrite r R.SEC_ATTCMD (cmdWord 0xA77E 2))
/-- SEC_ATTDATA (R549). -/
def execSecAttdata (r : Req) (s : State) : Out := .next (s.cmdRead r R.SEC_ATTDATA)
/-- SEC_PROFSEL (R551). -/
def execSecProfsel (r : Req) (prof : BitVec 8) (s : State) : Out := .next (s.cmdWrite r R.SEC_PROFSEL (prof.setWidth 32))

end Sys2Proof.Machine
end

