-- ==== Sys2Proof/Machine/HostData.lean ====
section
/-!
DEFINITION. Machine/HostData.lean: the host's reads and writes of memory (18 R553 to R560, R564, 02 R71, 04 R139, R140, 09 R337, R338,
10 R379 to R382) and an access that times out (18 R561).
-/

namespace Sys2Proof.Machine

/-- The bytes that a word write with byte enables changes, with their addresses (10 R381). -/
def enabledBytes (a : Nat) (v : Word) (be : BitVec 4) : List Host.Cell :=
  ((List.range 4).filter fun i => be.getLsbD i).map fun i => (a + i, (v >>> (8 * i)).setWidth 8)

/-- A host write becomes visible at the next admission (04 R139); where no admission will come, at once. -/
def State.hostStore (s : State) (cells : List Host.Cell) : State :=
  if s.mode = 3 || s.mode = 4 || s.mode = 5 then
    { s with exec := { s.exec with hostWrites := s.exec.hostWrites ++ cells } }
  else cells.foldl (fun s c => s.setByte c.1 c.2) s

/-- A standby and an orphaned unit refuse host writes to memory (09 R337). -/
def State.standbyRefuses (s : State) : Bool := s.pairState = 2 || s.pairState = 3

/-- Why a host write of a word of retain memory fails (02 R69, 10 R379, R382, 09 R337): its reason of 18 R565. -/
def State.retainRefusal (s : State) (a : Nat) : Option Nat :=
  if !s.recalled then some 5 else if areaOf a ≠ .retain then some 6 else if s.standbyRefuses then some 9 else none

/-- A host write of the enabled bytes of a word of memory: not performed where the word that its read-modify-write reads is
uncorrectable, or the fabric fails it (10 R368). -/
def State.hostPut (s : State) (a ha : Nat) (v : Word) (be : BitVec 4) (e : Ecc) (retain : Option Nat) : State :=
  let (e, s) := s.readWord a e
  if !eccOk e then s.hostFail 7 ha true else (s.hostStore (enabledBytes a v be)).hostWaits .host retain

/-- A host write of a word of retain memory: whether the word is beyond the range, and the state after it. The page RETAIN
captures a refusal before recall is complete, with an OFFSET that the spec does not state. -/
def State.hostRetainWord (s : State) (a ha : Nat) (v : Word) (be : BitVec 4) (e : Ecc) : Bool × State :=
  match s.retainRefusal a with
  | none => (false, s.hostPut a ha v be e (some a))
  | some 5 => (false, (s.used.capture 9 (s.free.toNat % 0x1000) .host .notRecalled).hostFail 5 ha true)
  | some n => (n = 6, s.hostFail n ha true)

/-- A burst of host writes to retain memory from a word on: a word beyond the range is refused, and so is every later word
(10 R382). -/
def State.retainBurst (s : State) (w : Nat) (past : Bool) : List (Word × BitVec 4 × Ecc) → State
  | [] => s
  | (v, be, e) :: t =>
    let ha := 0x800000 + 4 * w
    let x := if past then (true, s.hostFail 6 ha true) else s.hostRetainWord (retainBase + 4 * w) ha v be e
    x.2.retainBurst (w + 1) x.1 t

/-- RETAIN_WRITE_BURST (10 R382): the words with their byte enables, from a word of the retain window on. -/
def execRetainWriteBurst (start : BitVec 21) (words : List (Word × BitVec 4 × Ecc)) (s : State) : Out :=
  .next (if !s.reaches .host then s
    else if !s.sys.hpOut then (List.range words.length).foldl (fun s i => s.heldAccess (0x800000 + 4 * (start.toNat + i)) true) s
    else s.retainBurst start.toNat false words)

/-- The address of memory that a host byte address names (18 R564), or none outside the windows. -/
def State.hostAddr (s : State) (ha : Nat) : Option Nat :=
  if ha < 0x10000 then some (iBase + ha)
  else if ha < 0x40000 then some (mBase + s.rd R.HOST_CFG_MWIN * 0x10000 + (ha - 0x10000))
  else if 0x400000 ≤ ha && ha < 0x800000 then some (0x01000000 + s.rd R.HOST_CFG_DWIN * 0x400000 + (ha - 0x400000))
  else none

/-- A host write of a word through the image window or the data-area window (18 R560, R564). -/
def State.hostWord (s : State) (ha : Nat) (v : Word) (be : BitVec 4) (e : Ecc) : State :=
  if !s.imageAnswers then s.hostFail 4 ha true
  else match s.hostAddr ha with
  | none => s.hostFail 1 ha true
  | some a =>
    match areaOf a with
    | .imageI => s.hostFail 2 ha true
    | .imageQ => s.hostFail 2 ha true
    | .instData | .marks => if s.standbyRefuses then s.hostFail 9 ha true else s.hostPut a ha v be e none
    | _ => s.hostFail 1 ha true

/-! ### Reads -/

/-- A byte of memory as the host reads it (02 R71, 04 R140, 18 R559): the I area as of the latest input complete, the Q area as the
output image frozen at the latest output cutoff, everything else as the latest admission made it visible. -/
def State.hostByte (s : State) (a : Nat) : Byte :=
  if areaOf a = .imageQ then SMap.get (fun _ => 0) s.exec.outImage (a - qBase) else s.byte a

/-- The image window as it stands: the bytes that are not 0, by host byte address. -/
def State.imageWindow (s : State) : List Host.Cell :=
  let m0 := mBase + s.rd R.HOST_CFG_MWIN * 0x10000
  let i := (s.mem.filter fun c => decide (iBase ≤ c.1) && decide (c.1 < qBase)).map fun c => (c.1 - iBase, c.2)
  let q := s.exec.outImage.map fun c => (0x8000 + c.1, c.2)
  let m := (s.mem.filter fun c => decide (m0 ≤ c.1) && decide (c.1 < m0 + 0x30000)).map fun c => (0x10000 + (c.1 - m0), c.2)
  i ++ q ++ m

/-- The open burst ends; one that went beyond the limit of R558 sets HOST_STAT.TORN and raises TORN. -/
def State.burstEnd (s : State) : State :=
  match s.sys.burst with
  | none => s
  | some b =>
    let s := { s with sys := { s.sys with burst := none } }
    if b.torn then (s.wr R.HOST_STAT_TORN 1).raise Ev.hostTorn (min b.words 0xFFFF) else s

/-- The limit of R558: one stroke length less 1 us, in ticks. -/
def State.burstLimit (s : State) : Nat := 125 * (s.rd R.EXEC_STROKELEN_LEN - 1)

/-- The burst that a read of the word at HP_A belongs to, a new one where it continues none. -/
def State.burstAt (s : State) (w : Nat) : HostBurst × State :=
  match s.sys.burst with
  | some b => if b.next = w then (b, s) else (⟨s.tb.toNat, w, 0, false, s.imageWindow⟩, s.burstEnd)
  | none => (⟨s.tb.toNat, w, 0, false, s.imageWindow⟩, s)

/-- A read of the image window, of a word within a burst (R558). -/
def State.windowRead (s : State) (w : Nat) (more : Bool) : State :=
  if !s.imageAnswers then (s.burstEnd.hostFail 4 (4 * w) false).out (.hostValue (4 * w) 0)
  else
    let (b, s) := s.burstAt w
    let late := decide (b.start + s.burstLimit < s.tb.toNat)
    let look (i : Nat) : Byte :=
      if late then
        match s.hostAddr (4 * w + i) with
        | some a => s.hostByte a
        | none => 0
      else ((b.snap.find? fun c => c.1 = 4 * w + i).map Prod.snd).getD 0
    let v := BitVec.ofNat 32 (ofBytes ((List.range 4).map look))
    let b := { b with next := w + 1, words := b.words + 1, torn := b.torn || late }
    let s := { s with sys := { s.sys with burst := some b } }
    (if more then s else s.burstEnd).out (.hostValue (4 * w) v)

/-- A read of a word of memory that waits (R555, R564): an uncorrectable word fails it with CODE_ERROR. -/
def State.memoryRead (s : State) (ha a : Nat) (e : Ecc) : State :=
  let (e, s) := s.readWord a e
  if !eccOk e then (s.hostFail 7 ha false).out (.hostValue ha 0)
  else s.out (.hostValue ha (BitVec.ofNat 32 (ofBytes ((List.range 4).map fun i => s.hostByte (a + i)))))

/-- A read of retain memory (02 R69, 10 R379): the ledger and the loop retain records read 0. -/
def State.retainRead (s : State) (ha a : Nat) (e : Ecc) : State :=
  if !s.recalled then
    ((s.used.capture 9 (s.free.toNat % 0x1000) .host .notRecalled).hostFail 5 ha false).out (.hostValue ha 0)
  else if areaOf a ≠ .retain then s.out (.hostValue ha 0)
  else s.memoryRead ha a e

/-- A host read of the word at HP_A, wherever the host address map puts it. -/
def State.hostReadWord (s : State) (w : Nat) (more : Bool) (be : BitVec 4) (e : Ecc) : State :=
  let ha := 4 * w
  if ha < 0x40000 then s.windowRead w more
  else
    let s := s.burstEnd
    if ha < 0xC0000 then s.cmdRead .host (ha - 0x40000) be
    else if 0x800000 ≤ ha then s.retainRead ha (retainBase + (ha - 0x800000)) e
    else if !s.imageAnswers then (s.hostFail 4 ha false).out (.hostValue ha 0)
    else match s.hostAddr ha with
    | none => (s.hostFail 1 ha false).out (.hostValue ha 0)
    | some a =>
      match areaOf a with
      | .imageI | .imageQ | .instData | .marks => s.memoryRead ha a e
      | _ => (s.hostFail 1 ha false).out (.hostValue ha 0)

/-- A host write of the word at HP_A, wherever the host address map puts it. -/
def State.hostWriteWord (s : State) (w : Nat) (v : Word) (be : BitVec 4) (e : Ecc) : State :=
  let ha := 4 * w
  if 0x40000 ≤ ha && ha < 0xC0000 then s.cmdWrite .host (ha - 0x40000) v be
  else if 0x800000 ≤ ha then s.retainBurst (w % 2097152) false [(v, be, e)]
  else s.hostWord ha v be e

/-- HOST_DATA_WRITE (04 R139, 18 R553 to R560, R564): a host access to the word at HP_A. The table has no row for the host's
reads; they are taken here (log entry 172). -/
def execHostDataWrite (w : BitVec 22) (op : HostOp) (be : BitVec 4) (s : State) : Out :=
  .next (if !s.reaches .host then s
    else match op with
    | .write v e =>
      if !s.sys.hpOut then s.heldAccess (4 * w.toNat) true else s.hostWriteWord w.toNat v be e
    | .read more e =>
      if !s.sys.hpOut then (s.burstEnd.heldAccess (4 * w.toNat) false).out (.hostValue (4 * w.toNat) 0)
      else s.hostReadWord w.toNat more be e)

/-- ACCESS_TIMEOUT (18 R561): an access to HP_A has waited HOST_CFG.TMO; operands: a write, and the wait in HP_CLK cycles. A
forwarded retain write that has not been acknowledged raises RETAIN_MIRROR (09 R363). -/
def execAccessTimeout (w : BitVec 22) (write : Bool) (cycles : Nat) (s : State) : Out :=
  .next (if !s.reaches .host || !s.sys.hpOut then s
    else
      let s := (s.hostFail 3 (4 * w.toNat) write).wr R.HOST_STAT_TIMEOUT 1
      let s := s.wr R.HOST_WAITMAX_CYCLES (min (max cycles (s.rd R.HOST_WAITMAX_CYCLES)) 0xFFFF)
      match s.pair.hostWait with
      | some x =>
        let s := { s with pair := { s.pair with hostWait := none } }
        (match x with | some a => s.raise Ev.pairRetainMirror a | none => s)
      | none => s)

end Sys2Proof.Machine
end

