-- ==== Sys2Proof/Machine/Recovery.lean ====
section
/-!
DEFINITION. Machine/Recovery.lean: recovery frames over ETH1 and the radio port (17 R542 to R544), and what those ports do with
what they receive: the ROM's reception in RECOVERY, and the network's and the radio port's otherwise.
-/

namespace Sys2Proof.Machine

/-! ### Recovery frames (R542, R544) -/

/-- The banks that stand for the recovery paths ETH1 and radio (R541). -/
def pathBank (radio : Bool) : Nat := 0x50 + radio.toNat

/-- The answer to a recovery frame (R542). -/
def State.recoveryAck (s : State) (radio : Bool) (n seq : Nat) : State :=
  let r := s.region n
  s.out (.recoveryAck radio n seq r.image.length (BitVec.ofNat 32 (r.state * 0x10000000 + r.reason * 0x10000)))

/-- A WRITE (R542): at offset 0 it opens the region, at the bytes received so far its data are taken, and without data at the
image's end, which the header gives, it acts as FINISH. -/
def State.recoveryWrite (s : State) (radio : Bool) (n offset seq : Nat) (data : List Byte) : State :=
  let bank := pathBank radio
  let other := (s.region n).isOpen && (s.region n).owner ≠ bank
  let s := if offset = 0 && regionCodes.contains n then
      (if other then s.updRefuse n 0x21 else if (s.region n).isOpen then s else s.updOpen n bank)
    else s
  let r := s.region n
  let mine := (r.state = 1 || r.state = 2) && r.owner = bank && offset = r.image.length
  let whole := r.state = 2 && offset = headerLen + hdrField r.image 16 4
  let s := if !mine then s
    else if data.isEmpty then (if whole then s.updFinish n bank else s)
    else s.updTake n data
  s.recoveryAck radio n seq

/-- A REBOOT: answered, then a host-command reset (R542, R544). -/
def State.recoveryReboot (s : State) (radio : Bool) (n seq : Nat) : State :=
  (s.recoveryAck radio n seq).resetNow .hostCommand false

/-- A recovery frame by its bytes (R542). One with a bad CRC or another MAGIC, or that is no whole frame, is discarded without an
answer. -/
def State.recoveryFrame (s : State) (radio : Bool) (b : List Byte) : State :=
  let f (i n : Nat) : Nat := ofBytes ((b.drop i).take n)
  let data := (b.drop 16).take (f 8 2)
  if s.mode ≠ 0 || s.sys.latch || b.length < 16 + f 8 2 || 1024 < f 8 2 || f 0 2 ≠ 0x5243 ||
      f 12 4 ≠ (Config.crc32c (b.take 12 ++ data)).toNat then s
  else match f 2 1 with
  | 1 => s.recoveryWrite radio (f 3 1) (f 4 4) (f 10 2) data
  | 3 => s.recoveryAck radio (f 3 1) (f 10 2)
  | 4 => s.recoveryReboot radio (f 3 1) (f 10 2)
  | _ => s

/-! ### The ROM's reception (R543) -/

/-- The UDP port that recovery frames come to. -/
def recoveryPort : Nat := 48700

/-- The ROM's IPv4 address: 169.254 and the two lowest bytes of the serial number, with 0 or 255 replaced by 1. -/
def recoveryIp4 : Nat :=
  let b (n : Nat) : Nat := if n % 256 = 0 || n % 256 = 255 then 1 else n % 256
  0xA9FE0000 + b (Config.serial.toNat / 256) * 256 + b Config.serial.toNat

/-- The ROM answers for an address on ETH1: its IPv4 address, or the link-local address formed from the unit MAC. -/
def State.romAnswers (s : State) (eth2 : Bool) (t : ArpTarget) : Bool :=
  s.mode = 0 && !s.sys.latch && !eth2 && (match t with
    | .ip4 a => a.toNat = recoveryIp4
    | .ip6 _ => false
    | .linkLocal u => u)

/-- A character at the radio port in RECOVERY: the frame in progress takes it. -/
def State.romChar (s : State) (c : Byte) (start : DWord) : State :=
  let x := s.radio.inProgress.getD ⟨start, 0, []⟩
  { s with radio := { s.radio with inProgress := some { x with data := (x.data ++ [c]).take 2048 } } }

/-- Four idle character times close the frame: the RADIO page's gap is 4 after the reset that led into RECOVERY. -/
def State.romClose (s : State) : State :=
  match s.radio.inProgress with
  | none => s
  | some x => { s with radio := { s.radio with inProgress := none } }.recoveryFrame true x.data

/-! ### Meanings -/

/-- WRITE (R542): a recovery frame of TYPE 1, whose CRC was correct or not. -/
def execWrite (radio : Bool) (n : Fin 256) (offset : BitVec 32) (seq : BitVec 16) (data : List (BitVec 8)) (crcOk : Bool)
    (s : State) : Out :=
  .next (if s.mode ≠ 0 || s.sys.latch || !crcOk then s else s.recoveryWrite radio n.val offset.toNat seq.toNat data)

/-- STATUS (R542): a recovery frame of TYPE 3. -/
def execStatus (radio : Bool) (n : Fin 256) (seq : BitVec 16) (crcOk : Bool) (s : State) : Out :=
  .next (if s.mode ≠ 0 || s.sys.latch || !crcOk then s else s.recoveryAck radio n.val seq.toNat)

/-- REBOOT (R544): UPD_CMD by a requester, or a recovery frame of TYPE 4, in RECOVERY. -/
def execReboot (via : RebootBy) (s : State) : Out :=
  match via with
  | .command r => s.updCommand r 5
  | .frame radio n seq crcOk => .next (if s.mode ≠ 0 || s.sys.latch || !crcOk then s else s.recoveryReboot radio n.val seq.toNat)

/-- UDP_DATAGRAM: for a session (11 R408), and in RECOVERY a recovery frame (R543). -/
def execUdpDatagram (e : EthFrom) (sport dport : Nat) (data : List Byte) (s : State) : Out :=
  .next (if s.mode = 0 then (if !e.eth2 && dport = recoveryPort then s.recoveryFrame false data else s)
    else s.udpRx e sport dport data)

/-- ARP (11 R403), in RECOVERY for the ROM's addresses (R543). -/
def execArp (eth2 : Bool) (target : ArpTarget) (s : State) : Out :=
  .next (if s.romAnswers eth2 target then s.out (.eth 1 (.arpReply target)) else s.arpRx eth2 target)

/-- RX_CHARACTER (11 R417). -/
def execRxCharacter (c : Byte) (overrun parity framing : Bool) (start : DWord) (s : State) : Out :=
  .next (if s.mode = 0 then s.romChar c start else s.rxChar c overrun parity framing start)

/-- RX_RECORD (11 R417). -/
def execRxRecord (s : State) : Out :=
  .next (if s.mode = 0 then s.romClose else if s.radioOn then s.rxClose else s)

end Sys2Proof.Machine
end

