-- ==== Sys2Proof/Machine/Dispatch.lean ====
section
/-!
DEFINITION. Machine/Dispatch.lean: the meaning of a command, one arm per constructor of Instr.
-/

namespace Sys2Proof.Machine

/-- The effect of a command on everything but the queue of waiting commands. -/
def exec (i : Instr) (s : State) : Host.Outcome State Fault Refusal :=
  match i with
  | .strokeStart => Sys2Proof.Machine.execStrokeStart s
  | .slotStart slot => Sys2Proof.Machine.execSlotStart slot s
  | .latchInstant pins => Sys2Proof.Machine.execLatchInstant pins s
  | .inputComplete ws => Sys2Proof.Machine.execInputComplete ws s
  | .loopCompletion => Sys2Proof.Machine.execLoopCompletion s
  | .executionStart core => Sys2Proof.Machine.execExecutionStart core s
  | .outputCutoff join => Sys2Proof.Machine.execOutputCutoff join s
  | .dynamicSegment => Sys2Proof.Machine.execDynamicSegment s
  | .reference x stamp => Sys2Proof.Machine.execReference x stamp s
  | .output x => Sys2Proof.Machine.execOutput x s
  | .input x => Sys2Proof.Machine.execInput x s
  | .null x => Sys2Proof.Machine.execNull x s
  | .grant x => Sys2Proof.Machine.execGrant x s
  | .data x dest => Sys2Proof.Machine.execData x dest s
  | .probe x t2 t3 => Sys2Proof.Machine.execProbe x t2 t3 s
  | .probeReply x t4 nodes => Sys2Proof.Machine.execProbeReply x t4 nodes s
  | .masterChange => Sys2Proof.Machine.execMasterChange s
  | .handover => Sys2Proof.Machine.execHandover s
  | .syncFailed => Sys2Proof.Machine.execSyncFailed s
  | .holdoverTimeout => Sys2Proof.Machine.execHoldoverTimeout s
  | .linkChange chanB port2 up => Sys2Proof.Machine.execLinkChange chanB port2 up s
  | .fbcApply r => Sys2Proof.Machine.execFbcApply r s
  | .fbcRevert r => Sys2Proof.Machine.execFbcRevert r s
  | .acqSubmit r => Sys2Proof.Machine.execAcqSubmit r s
  | .acqTimeout id => Sys2Proof.Machine.execAcqTimeout id s
  | .heartbeat h hb => Sys2Proof.Machine.execHeartbeat h hb s
  | .inputDigest h d ws => Sys2Proof.Machine.execInputDigest h d ws s
  | .admissionRecord h a => Sys2Proof.Machine.execAdmissionRecord h a s
  | .registerLoadValue h lcore addr v => Sys2Proof.Machine.execRegisterLoadValue h lcore addr v s
  | .loadValueTimeout c => Sys2Proof.Machine.execLoadValueTimeout c s
  | .outputDigest h d => Sys2Proof.Machine.execOutputDigest h d s
  | .itemMirror h m => Sys2Proof.Machine.execItemMirror h m s
  | .editTransaction h m => Sys2Proof.Machine.execEditTransaction h m s
  | .inputImage h img ws => Sys2Proof.Machine.execInputImage h img ws s
  | .stateCopy h c => Sys2Proof.Machine.execStateCopy h c s
  | .swapAgreement h epoch unit => Sys2Proof.Machine.execSwapAgreement h epoch unit s
  | .messageResend lane => Sys2Proof.Machine.execMessageResend lane s
  | .laneFail lane => Sys2Proof.Machine.execLaneFail lane s
  | .laneRestored lane => Sys2Proof.Machine.execLaneRestored lane s
  | .resyncStart => Sys2Proof.Machine.execResyncStart s
  | .mirrorLag us => Sys2Proof.Machine.execMirrorLag us s
  | .intentLapse => Sys2Proof.Machine.execIntentLapse s
  | .umpireLost => Sys2Proof.Machine.execUmpireLost s
  | .resync r => Sys2Proof.Machine.execResync r s
  | .spareLane r lane => Sys2Proof.Machine.execSpareLane r lane s
  | .abortResync r => Sys2Proof.Machine.execAbortResync r s
  | .stop r => Sys2Proof.Machine.execStop r s
  | .startWarm r => Sys2Proof.Machine.execStartWarm r s
  | .startCold r => Sys2Proof.Machine.execStartCold r s
  | .reset r => Sys2Proof.Machine.execReset r s
  | .persist r => Sys2Proof.Machine.execPersist r s
  | .persistDone bad0 bad1 => Sys2Proof.Machine.execPersistDone bad0 bad1 s
  | .coldConsent r => Sys2Proof.Machine.execColdConsent r s
  | .hold r => Sys2Proof.Machine.execHold r s
  | .release r => Sys2Proof.Machine.execRelease r s
  | .swap r => Sys2Proof.Machine.execSwap r s
  | .powerOn calLost vbatMin => Sys2Proof.Machine.execPowerOn calLost vbatMin s
  | .strapInstant role recov delay => Sys2Proof.Machine.execStrapInstant role recov delay s
  | .refclkReady => Sys2Proof.Machine.execRefclkReady s
  | .pllLock coastMs => Sys2Proof.Machine.execPllLock coastMs s
  | .pllLockTimeout => Sys2Proof.Machine.execPllLockTimeout s
  | .hpErrRelease => Sys2Proof.Machine.execHpErrRelease s
  | .boot2Verified passA passB => Sys2Proof.Machine.execBoot2Verified passA passB s
  | .regionsLoaded passA passB width height table config => Sys2Proof.Machine.execRegionsLoaded passA passB width height table config s
  | .recallDone crcBad ue => Sys2Proof.Machine.execRecallDone crcBad ue s
  | .retainCheck pass => Sys2Proof.Machine.execRetainCheck pass s
  | .selfTestComplete paths failed banks evtCox io loop => Sys2Proof.Machine.execSelfTestComplete paths failed banks evtCox io loop s
  | .programLoaded okA okB => Sys2Proof.Machine.execProgramLoaded okA okB s
  | .initEnd => Sys2Proof.Machine.execInitEnd s
  | .pathRetry host eth1 radio => Sys2Proof.Machine.execPathRetry host eth1 radio s
  | .floorChange e working => Sys2Proof.Machine.execFloorChange e working s
  | .supplyFail mv => Sys2Proof.Machine.execSupplyFail mv s
  | .supplyReturn calLost vbatMin => Sys2Proof.Machine.execSupplyReturn calLost vbatMin s
  | .rstN => Sys2Proof.Machine.execRstN s
  | .vinLow mv => Sys2Proof.Machine.execVinLow mv s
  | .voutaLow mv => Sys2Proof.Machine.execVoutaLow mv s
  | .voutbLow mv => Sys2Proof.Machine.execVoutbLow mv s
  | .huready => Sys2Proof.Machine.execHuready s
  | .holdupMeasure uf => Sys2Proof.Machine.execHoldupMeasure uf s
  | .p0 r => Sys2Proof.Machine.execP0 r s
  | .p1 r => Sys2Proof.Machine.execP1 r s
  | .p2 r => Sys2Proof.Machine.execP2 r s
  | .park r => Sys2Proof.Machine.execPark r s
  | .store r => Sys2Proof.Machine.execStore r s
  | .storeDone us mv => Sys2Proof.Machine.execStoreDone us mv s
  | .scrub op => Sys2Proof.Machine.execScrub op s
  | .mainScrubLate op => Sys2Proof.Machine.execMainScrubLate op s
  | .correctedWriteBack m off => Sys2Proof.Machine.execCorrectedWriteBack m off s
  | .rowReplaced bank row words => Sys2Proof.Machine.execRowReplaced bank row words s
  | .bankSpared words => Sys2Proof.Machine.execBankSpared words s
  | .marginRead slot page differs e => Sys2Proof.Machine.execMarginRead slot page differs e s
  | .retainWriteBurst start words => Sys2Proof.Machine.execRetainWriteBurst start words s
  | .hostDataWrite w op be => Sys2Proof.Machine.execHostDataWrite w op be s
  | .accessTimeout w write cycles => Sys2Proof.Machine.execAccessTimeout w write cycles s
  | .editOpen r => Sys2Proof.Machine.execEditOpen r s
  | .block r => Sys2Proof.Machine.execBlock r s
  | .editWdata r v => Sys2Proof.Machine.execEditWdata r v s
  | .commit r => Sys2Proof.Machine.execCommit r s
  | .editAbort r => Sys2Proof.Machine.execEditAbort r s
  | .eligible bad => Sys2Proof.Machine.execEligible bad s
  | .neverIdle => Sys2Proof.Machine.execNeverIdle s
  | .apply r => Sys2Proof.Machine.execApply r s
  | .clearAll r => Sys2Proof.Machine.execClearAll r s
  | .revert r => Sys2Proof.Machine.execRevert r s
  | .execStopreq r v => Sys2Proof.Machine.execExecStopreq r v s
  | .execStrokelo r => Sys2Proof.Machine.execExecStrokelo r s
  | .execScanlo r => Sys2Proof.Machine.execExecScanlo r s
  | .pwrEmodlo r => Sys2Proof.Machine.execPwrEmodlo r s
  | .halt r c => Sys2Proof.Machine.execHalt r c s
  | .resume r c => Sys2Proof.Machine.execResume r c s
  | .step r c => Sys2Proof.Machine.execStep r c s
  | .runtask r c task => Sys2Proof.Machine.execRuntask r c task s
  | .evtPnhead r port => Sys2Proof.Machine.execEvtPnhead r port s
  | .evtRaise r source code => Sys2Proof.Machine.execEvtRaise r source code s
  | .pgEvforce r page bits => Sys2Proof.Machine.execPgEvforce r page bits s
  | .lock r page key => Sys2Proof.Machine.execLock r page key s
  | .unlock r page key => Sys2Proof.Machine.execUnlock r page key s
  | .blockReset r page => Sys2Proof.Machine.execBlockReset r page s
  | .blockDisable r page en => Sys2Proof.Machine.execBlockDisable r page en s
  | .registerWrite r w v be => Sys2Proof.Machine.execRegisterWrite r w v be s
  | .loopTdata r write => Sys2Proof.Machine.execLoopTdata r write s
  | .nop x => Sys2Proof.Machine.execNop x s
  | .not x => Sys2Proof.Machine.execNot x s
  | .set1 x => Sys2Proof.Machine.execSet1 x s
  | .clr x => Sys2Proof.Machine.execClr x s
  | .push x => Sys2Proof.Machine.execPush x s
  | .pop x => Sys2Proof.Machine.execPop x s
  | .popand x => Sys2Proof.Machine.execPopand x s
  | .popor x => Sys2Proof.Machine.execPopor x s
  | .popxor x => Sys2Proof.Machine.execPopxor x s
  | .getla x rd => Sys2Proof.Machine.execGetla x rd s
  | .putla x ra => Sys2Proof.Machine.execPutla x ra s
  | .tstb x ra k => Sys2Proof.Machine.execTstb x ra k s
  | .putb x rd ra k => Sys2Proof.Machine.execPutb x rd ra k s
  | .condla x c => Sys2Proof.Machine.execCondla x c s
  | .brk x => Sys2Proof.Machine.execBrk x s
  | .ld x op d => Sys2Proof.Machine.execLd x op d s
  | .ldn x op d => Sys2Proof.Machine.execLdn x op d s
  | .and x op d => Sys2Proof.Machine.execAnd x op d s
  | .andn x op d => Sys2Proof.Machine.execAndn x op d s
  | .or x op d => Sys2Proof.Machine.execOr x op d s
  | .orn x op d => Sys2Proof.Machine.execOrn x op d s
  | .xor x op d => Sys2Proof.Machine.execXor x op d s
  | .xorn x op d => Sys2Proof.Machine.execXorn x op d s
  | .st x op d => Sys2Proof.Machine.execSt x op d s
  | .stn x op d => Sys2Proof.Machine.execStn x op d s
  | .set x op d => Sys2Proof.Machine.execSet x op d s
  | .rst x op d => Sys2Proof.Machine.execRst x op d s
  | .re x op d => Sys2Proof.Machine.execRe x op d s
  | .fe x op d => Sys2Proof.Machine.execFe x op d s
  | .pushld x op d => Sys2Proof.Machine.execPushld x op d s
  | .pushldn x op d => Sys2Proof.Machine.execPushldn x op d s
  | .add x rd ra rb => Sys2Proof.Machine.execAdd x rd ra rb s
  | .adds x rd ra rb => Sys2Proof.Machine.execAdds x rd ra rb s
  | .sub x rd ra rb => Sys2Proof.Machine.execSub x rd ra rb s
  | .subs x rd ra rb => Sys2Proof.Machine.execSubs x rd ra rb s
  | .cmp x ra rb => Sys2Proof.Machine.execCmp x ra rb s
  | .mul x rd ra rb => Sys2Proof.Machine.execMul x rd ra rb s
  | .muls x rd ra rb => Sys2Proof.Machine.execMuls x rd ra rb s
  | .mulh x rd ra rb => Sys2Proof.Machine.execMulh x rd ra rb s
  | .mulhu x rd ra rb => Sys2Proof.Machine.execMulhu x rd ra rb s
  | .div x rd ra rb => Sys2Proof.Machine.execDiv x rd ra rb s
  | .divu x rd ra rb => Sys2Proof.Machine.execDivu x rd ra rb s
  | .rem x rd ra rb => Sys2Proof.Machine.execRem x rd ra rb s
  | .remu x rd ra rb => Sys2Proof.Machine.execRemu x rd ra rb s
  | .aluAnd x rd ra rb => Sys2Proof.Machine.execAluAnd x rd ra rb s
  | .aluOr x rd ra rb => Sys2Proof.Machine.execAluOr x rd ra rb s
  | .aluXor x rd ra rb => Sys2Proof.Machine.execAluXor x rd ra rb s
  | .aluAndn x rd ra rb => Sys2Proof.Machine.execAluAndn x rd ra rb s
  | .shl x rd ra rb => Sys2Proof.Machine.execShl x rd ra rb s
  | .shr x rd ra rb => Sys2Proof.Machine.execShr x rd ra rb s
  | .sar x rd ra rb => Sys2Proof.Machine.execSar x rd ra rb s
  | .rol x rd ra rb => Sys2Proof.Machine.execRol x rd ra rb s
  | .min x rd ra rb => Sys2Proof.Machine.execMin x rd ra rb s
  | .max x rd ra rb => Sys2Proof.Machine.execMax x rd ra rb s
  | .minu x rd ra rb => Sys2Proof.Machine.execMinu x rd ra rb s
  | .maxu x rd ra rb => Sys2Proof.Machine.execMaxu x rd ra rb s
  | .neg x rd ra => Sys2Proof.Machine.execNeg x rd ra s
  | .abs x rd ra => Sys2Proof.Machine.execAbs x rd ra s
  | .sel x rd ra rb => Sys2Proof.Machine.execSel x rd ra rb s
  | .addi x rd ra imm => Sys2Proof.Machine.execAddi x rd ra imm s
  | .andi x rd ra imm => Sys2Proof.Machine.execAndi x rd ra imm s
  | .ori x rd ra imm => Sys2Proof.Machine.execOri x rd ra imm s
  | .xori x rd ra imm => Sys2Proof.Machine.execXori x rd ra imm s
  | .cmpi x ra imm => Sys2Proof.Machine.execCmpi x ra imm s
  | .shi x rd ra kind amount => Sys2Proof.Machine.execShi x rd ra kind amount s
  | .lui x rd imm => Sys2Proof.Machine.execLui x rd imm s
  | .ldw x rd ra imm d => Sys2Proof.Machine.execLdw x rd ra imm d s
  | .stw x rd ra imm d => Sys2Proof.Machine.execStw x rd ra imm d s
  | .ldh x rd ra imm d => Sys2Proof.Machine.execLdh x rd ra imm d s
  | .ldhu x rd ra imm d => Sys2Proof.Machine.execLdhu x rd ra imm d s
  | .ldb x rd ra imm d => Sys2Proof.Machine.execLdb x rd ra imm d s
  | .ldbu x rd ra imm d => Sys2Proof.Machine.execLdbu x rd ra imm d s
  | .sth x rd ra imm d => Sys2Proof.Machine.execSth x rd ra imm d s
  | .stb x rd ra imm d => Sys2Proof.Machine.execStb x rd ra imm d s
  | .fadd x rd ra rb => Sys2Proof.Machine.execFadd x rd ra rb s
  | .fsub x rd ra rb => Sys2Proof.Machine.execFsub x rd ra rb s
  | .fmul x rd ra rb => Sys2Proof.Machine.execFmul x rd ra rb s
  | .fdiv x rd ra rb => Sys2Proof.Machine.execFdiv x rd ra rb s
  | .fmin x rd ra rb => Sys2Proof.Machine.execFmin x rd ra rb s
  | .fmax x rd ra rb => Sys2Proof.Machine.execFmax x rd ra rb s
  | .fcmp x ra rb => Sys2Proof.Machine.execFcmp x ra rb s
  | .fabs x rd ra => Sys2Proof.Machine.execFabs x rd ra s
  | .fneg x rd ra => Sys2Proof.Machine.execFneg x rd ra s
  | .fsqrt x rd ra => Sys2Proof.Machine.execFsqrt x rd ra s
  | .itof x rd ra => Sys2Proof.Machine.execItof x rd ra s
  | .ftoi x rd ra => Sys2Proof.Machine.execFtoi x rd ra s
  | .ftoir x rd ra => Sys2Proof.Machine.execFtoir x rd ra s
  | .b x c disp => Sys2Proof.Machine.execB x c disp s
  | .bla x disp => Sys2Proof.Machine.execBla x disp s
  | .bnla x disp => Sys2Proof.Machine.execBnla x disp s
  | .jr x ra => Sys2Proof.Machine.execJr x ra s
  | .call x tgt mask => Sys2Proof.Machine.execCall x tgt mask s
  | .callr x ra mask => Sys2Proof.Machine.execCallr x ra mask s
  | .ret x d => Sys2Proof.Machine.execRet x d s
  | .ton x ra off d => Sys2Proof.Machine.execTon x ra off d s
  | .tof x ra off d => Sys2Proof.Machine.execTof x ra off d s
  | .tp x ra off d => Sys2Proof.Machine.execTp x ra off d s
  | .ctr x ri ra off d => Sys2Proof.Machine.execCtr x ri ra off d s
  | .netSubmit r => Sys2Proof.Machine.execNetSubmit r s
  | .sessOpen r sess => Sys2Proof.Machine.execSessOpen r sess s
  | .sessClose r sess => Sys2Proof.Machine.execSessClose r sess s
  | .sessAbort r sess => Sys2Proof.Machine.execSessAbort r sess s
  | .tcpSegment e g => Sys2Proof.Machine.execTcpSegment e g s
  | .udpDatagram e sport dport data => Sys2Proof.Machine.execUdpDatagram e sport dport data s
  | .arp eth2 target => Sys2Proof.Machine.execArp eth2 target s
  | .txtmoExpiry id => Sys2Proof.Machine.execTxtmoExpiry id s
  | .retransmissionTimeout sess => Sys2Proof.Machine.execRetransmissionTimeout sess s
  | .noRoute sess => Sys2Proof.Machine.execNoRoute sess s
  | .keepalive sess => Sys2Proof.Machine.execKeepalive sess s
  | .addressAgeing mac => Sys2Proof.Machine.execAddressAgeing mac s
  | .announced => Sys2Proof.Machine.execAnnounced s
  | .ethLinkChange eth2 speed => Sys2Proof.Machine.execEthLinkChange eth2 speed s
  | .netRxinfo r => Sys2Proof.Machine.execNetRxinfo r s
  | .netRxdata r => Sys2Proof.Machine.execNetRxdata r s
  | .announce m => Sys2Proof.Machine.execAnnounce m s
  | .sync identity domain seq twoStep origin => Sys2Proof.Machine.execSync identity domain seq twoStep origin s
  | .todHoldover => Sys2Proof.Machine.execTodHoldover s
  | .netTodofslo r => Sys2Proof.Machine.execNetTodofslo r s
  | .radioSubmit r => Sys2Proof.Machine.execRadioSubmit r s
  | .radioAck r => Sys2Proof.Machine.execRadioAck r s
  | .radioCancel r => Sys2Proof.Machine.execRadioCancel r s
  | .dcdChange level => Sys2Proof.Machine.execDcdChange level s
  | .cts => Sys2Proof.Machine.execCts s
  | .ctsTimeout => Sys2Proof.Machine.execCtsTimeout s
  | .keyup => Sys2Proof.Machine.execKeyup s
  | .itemCompleted => Sys2Proof.Machine.execItemCompleted s
  | .tail => Sys2Proof.Machine.execTail s
  | .noAck id => Sys2Proof.Machine.execNoAck id s
  | .radioExpired id => Sys2Proof.Machine.execRadioExpired id s
  | .rxCharacter c overrun parity framing start => Sys2Proof.Machine.execRxCharacter c overrun parity framing start s
  | .rxRecord => Sys2Proof.Machine.execRxRecord s
  | .radioRxinfo r => Sys2Proof.Machine.execRadioRxinfo r s
  | .radioRxdata r => Sys2Proof.Machine.execRadioRxdata r s
  | .canSubmit r ctl => Sys2Proof.Machine.execCanSubmit r ctl s
  | .canCancel r ctl => Sys2Proof.Machine.execCanCancel r ctl s
  | .recover r ctl => Sys2Proof.Machine.execRecover r ctl s
  | .ackDelimiter ctl => Sys2Proof.Machine.execAckDelimiter ctl s
  | .attemptError ctl afterAck => Sys2Proof.Machine.execAttemptError ctl afterAck s
  | .recovered ctl => Sys2Proof.Machine.execRecovered ctl s
  | .canExpired ctl id => Sys2Proof.Machine.execCanExpired ctl id s
  | .rxFrame ctl f => Sys2Proof.Machine.execRxFrame ctl f s
  | .canxRxhead r ctl => Sys2Proof.Machine.execCanxRxhead r ctl s
  | .canxRxdata r ctl => Sys2Proof.Machine.execCanxRxdata r ctl s
  | .diChange n level => Sys2Proof.Machine.execDiChange n level s
  | .inputFilter n => Sys2Proof.Machine.execInputFilter n s
  | .wireBreak n => Sys2Proof.Machine.execWireBreak n s
  | .wireOk n => Sys2Proof.Machine.execWireOk n s
  | .overload ch => Sys2Proof.Machine.execOverload ch s
  | .outputRestart ch => Sys2Proof.Machine.execOutputRestart ch s
  | .retryReset ch => Sys2Proof.Machine.execRetryReset ch s
  | .overtemp ch temp => Sys2Proof.Machine.execOvertemp ch temp s
  | .openWire ch => Sys2Proof.Machine.execOpenWire ch s
  | .openWireCleared ch => Sys2Proof.Machine.execOpenWireCleared ch s
  | .legTest ch res => Sys2Proof.Machine.execLegTest ch res s
  | .legSpared ch => Sys2Proof.Machine.execLegSpared ch s
  | .spareLeg r ch => Sys2Proof.Machine.execSpareLeg r ch s
  | .groupSupply g present => Sys2Proof.Machine.execGroupSupply g present s
  | .surge g => Sys2Proof.Machine.execSurge g s
  | .safeEntered => Sys2Proof.Machine.execSafeEntered s
  | .clear r => Sys2Proof.Machine.execClear r s
  | .full r => Sys2Proof.Machine.execFull r s
  | .partialUpdate r => Sys2Proof.Machine.execPartialUpdate r s
  | .mordant via => Sys2Proof.Machine.execMordant via s
  | .initialClear => Sys2Proof.Machine.execInitialClear s
  | .refresh => Sys2Proof.Machine.execRefresh s
  | .railsup => Sys2Proof.Machine.execRailsup s
  | .railFault rail => Sys2Proof.Machine.execRailFault rail s
  | .panelFrame => Sys2Proof.Machine.execPanelFrame s
  | .railsDown => Sys2Proof.Machine.execRailsDown s
  | .refreshLate seconds => Sys2Proof.Machine.execRefreshLate seconds s
  | .panelWdata r write => Sys2Proof.Machine.execPanelWdata r write s
  | .panelMwdata r write => Sys2Proof.Machine.execPanelMwdata r write s
  | .readyChange src ready => Sys2Proof.Machine.execReadyChange src ready s
  | .refLost => Sys2Proof.Machine.execRefLost s
  | .clkSel r ref => Sys2Proof.Machine.execClkSel r ref s
  | .clkoutSet r en src div => Sys2Proof.Machine.execClkoutSet r en src div s
  | .fmcStart r => Sys2Proof.Machine.execFmcStart r s
  | .fmcAbort r => Sys2Proof.Machine.execFmcAbort r s
  | .fmcDone count => Sys2Proof.Machine.execFmcDone count s
  | .fmcTimeout => Sys2Proof.Machine.execFmcTimeout s
  | .service r count => Sys2Proof.Machine.execService r count s
  | .checkin r task => Sys2Proof.Machine.execCheckin r task s
  | .expiry => Sys2Proof.Machine.execExpiry s
  | .monitorReset => Sys2Proof.Machine.execMonitorReset s
  | .rtcCommit r => Sys2Proof.Machine.execRtcCommit r s
  | .arm r => Sys2Proof.Machine.execArm r s
  | .disarm r => Sys2Proof.Machine.execDisarm r s
  | .secondIncrement => Sys2Proof.Machine.execSecondIncrement s
  | .rtcSec r => Sys2Proof.Machine.execRtcSec r s
  | .rtcYearHi r => Sys2Proof.Machine.execRtcYearHi r s
  | .shadowRelease r => Sys2Proof.Machine.execShadowRelease r s
  | .trimSet r ppm10 => Sys2Proof.Machine.execTrimSet r ppm10 s
  | .oscStop => Sys2Proof.Machine.execOscStop s
  | .mbxSubmit r => Sys2Proof.Machine.execMbxSubmit r s
  | .mbxCancel r => Sys2Proof.Machine.execMbxCancel r s
  | .echo late => Sys2Proof.Machine.execEcho late s
  | .enterRecovery late => Sys2Proof.Machine.execEnterRecovery late s
  | .logClear late => Sys2Proof.Machine.execLogClear late s
  | .sensorSnapshot late => Sys2Proof.Machine.execSensorSnapshot late s
  | .spareReport late => Sys2Proof.Machine.execSpareReport late s
  | .closeSessions late => Sys2Proof.Machine.execCloseSessions late s
  | .deadline id => Sys2Proof.Machine.execDeadline id s
  | .mbxNonce0 r => Sys2Proof.Machine.execMbxNonce0 r s
  | .nonceExpiry r => Sys2Proof.Machine.execNonceExpiry r s
  | .sessionOpen radio keyId sig => Sys2Proof.Machine.execSessionOpen radio keyId sig s
  | .managementMessage n seq => Sys2Proof.Machine.execManagementMessage n seq s
  | .marshalRestart => Sys2Proof.Machine.execMarshalRestart s
  | .telemetrySweep sensors nj us pages => Sys2Proof.Machine.execTelemetrySweep sensors nj us pages s
  | .sweepLate ms => Sys2Proof.Machine.execSweepLate ms s
  | .coreFailed c cause bgBad => Sys2Proof.Machine.execCoreFailed c cause bgBad s
  | .spareSelfTest pass => Sys2Proof.Machine.execSpareSelfTest pass s
  | .substCore r lcore => Sys2Proof.Machine.execSubstCore r lcore s
  | .testSpare r => Sys2Proof.Machine.execTestSpare r s
  | .recordFlush bad => Sys2Proof.Machine.execRecordFlush bad s
  | .tokenGain src code => Sys2Proof.Machine.execTokenGain src code s
  | .logRdata0 r stored => Sys2Proof.Machine.execLogRdata0 r stored s
  | .next r => Sys2Proof.Machine.execNext r s
  | .prev r => Sys2Proof.Machine.execPrev r s
  | .first r => Sys2Proof.Machine.execFirst r s
  | .last r => Sys2Proof.Machine.execLast r s
  | .updOpen r => Sys2Proof.Machine.execUpdOpen r s
  | .updWdata r v => Sys2Proof.Machine.execUpdWdata r v s
  | .finish r => Sys2Proof.Machine.execFinish r s
  | .staged n bad => Sys2Proof.Machine.execStaged n bad s
  | .updAbort r => Sys2Proof.Machine.execUpdAbort r s
  | .unstage r => Sys2Proof.Machine.execUnstage r s
  | .updTimeout n => Sys2Proof.Machine.execUpdTimeout n s
  | .reboot via => Sys2Proof.Machine.execReboot via s
  | .write radio n offset seq data crcOk => Sys2Proof.Machine.execWrite radio n offset seq data crcOk s
  | .status radio n seq crcOk => Sys2Proof.Machine.execStatus radio n seq crcOk s
  | .kcmdOpen r => Sys2Proof.Machine.execKcmdOpen r s
  | .enroll r => Sys2Proof.Machine.execEnroll r s
  | .revoke r => Sys2Proof.Machine.execRevoke r s
  | .report r => Sys2Proof.Machine.execReport r s
  | .cert r => Sys2Proof.Machine.execCert r s
  | .secAttdata r => Sys2Proof.Machine.execSecAttdata r s
  | .secProfsel r prof => Sys2Proof.Machine.execSecProfsel r prof s
  | .illegalInstr x w => Sys2Proof.Machine.execIllegalInstr x w s
  | .messageAcknowledgement m => Sys2Proof.Machine.execMessageAcknowledgement m s
  | .datagramSent id => Sys2Proof.Machine.execDatagramSent id s
  | .reportDone r => Sys2Proof.Machine.execReportDone r s
  | .firstNodeClock present offset => Sys2Proof.Machine.execFirstNodeClock present offset s
  | .echoRequest e target data => Sys2Proof.Machine.execEchoRequest e target data s
  | .bridgedFrame eth2 dst src len tags => Sys2Proof.Machine.execBridgedFrame eth2 dst src len tags s
  | .delayResp identity domain seq arrival => Sys2Proof.Machine.execDelayResp identity domain seq arrival s
  | .followUp identity domain seq origin => Sys2Proof.Machine.execFollowUp identity domain seq origin s
  | .restartTemperature ch => Sys2Proof.Machine.execRestartTemperature ch s
  | .mbxRdata r => Sys2Proof.Machine.execMbxRdata r s
  | .fbcAcqRdata r => Sys2Proof.Machine.execFbcAcqRdata r s

end Sys2Proof.Machine
end

