-- ==== Sys2Proof/Safety.lean ====
section
/-!
DEFINITION. Safety.lean: the terms of the statements: what a safe step is, when a core executes an instruction, and what an
instruction leaves of its context and of the rest of the machine.
-/

namespace Sys2Proof.Machine

/-- The step from a state neither stops the machine nor meets a command without a meaning. -/
def State.safe (s : State) : Prop := ∃ t, step s = .next t

/-- Core x.core executes its next instruction in the environment e: a context executes on it, its program counter lies in
the program area, the decoder of the data code delivers the word fetched, and no breakpoint halts the core before it. -/
abbrev State.fetches (s : State) (x : At) (e : Env) : Prop :=
  s.env? x.core = some e ∧ e.ctx.pc.toNat < 0x01000000 ∧ eccOk (s.readWord e.ctx.pc.toNat x.fetch).1 = true ∧
    (s.debugMode = false ∨ (s.core x.core).bpPassed = true ∨ s.bpHit x.core e.ctx.pc = 0)

/-- The context of a core: the background one or the foreground one. -/
def State.ctxOf (s : State) (c : Nat) (bgd : Bool) : Ctx := if bgd then (s.core c).bg else (s.core c).fg

/-- The execution on a core: the background one or the foreground one. -/
def State.runOf (s : State) (c : Nat) (bgd : Bool) : Option Run := if bgd then (s.core c).bgRun else (s.core c).fgRun

/-- The byte at an address as the execution in a core's context sees it (04 R136, R138). -/
def State.sees (s : State) (c : Nat) (bgd : Bool) (a : Nat) : Byte :=
  match s.runOf c bgd with
  | some r => Env.byte ⟨s, c, bgd, r, s.ctxOf c bgd⟩ a
  | none => s.sharedByte (s.lcore c) a

/-- An address whose byte an execution may read: the program area, the images, the M area and instance data, and retain memory
once recall is complete (05 R178, 02 R69). -/
abbrev State.readable (s : State) (a : Nat) : Prop :=
  a < 0x01010000 ∨ (0x01090000 ≤ a ∧ a < 0x02000000) ∨ (0x02000000 ≤ a ∧ a < 0x027C0000 ∧ s.recalled = true)

/-- An address whose byte an execution may write: the Q area, the M area and instance data, and retain memory. -/
abbrev State.writable (s : State) (a : Nat) : Prop :=
  (0x01008000 ≤ a ∧ a < 0x01010000) ∨ (0x01090000 ≤ a ∧ a < 0x02000000) ∨
    (0x02000000 ≤ a ∧ a < 0x027C0000 ∧ s.recalled = true)

/-- The command has a next state, in which the execution's context is k and the byte at each address is seen as g says. -/
def State.stores (s : State) (x : At) (e : Env) (i : Instr) (k : Ctx) (g : Nat → Byte) : Prop :=
  ∃ t, Sys2Proof.Machine.exec i s = .next t ∧ t.ctxOf x.core e.bgd = k ∧ ∀ a, t.sees x.core e.bgd a = g a

/-- The command has a next state, in which the execution is abandoned; and where EXEC_FLTINFO held no fault it holds this
one: its code, the logical core, the task, the program counter, the data address and the scan stroke (04 R153 to R156). -/
def State.faults (s : State) (x : At) (e : Env) (i : Instr) (code addr : Nat) : Prop :=
  ∃ t, Sys2Proof.Machine.exec i s = .next t ∧ t.runOf x.core e.bgd = none ∧
    (s.on R.EXEC_FLTINFO_VALID = false → t.on R.EXEC_FLTINFO_VALID = true ∧ t.rd R.EXEC_FLTINFO_CODE = code ∧
      t.rd R.EXEC_FLTINFO_LCORE = (s.lcoreOf x.core).getD 0 ∧ t.rd R.EXEC_FLTINFO_TASK = e.run.task % 64 ∧
      t.reg R.EXEC_FLTPC = e.ctx.pc ∧ t.reg R.EXEC_FLTADDR = BitVec.ofNat 32 addr ∧
      t.reg R.EXEC_FLTSTROKE = BitVec.ofNat 32 e.run.scan)

/-- The command has a next state, in which the context that executed is k. -/
def State.leaves (s : State) (x : At) (e : Env) (i : Instr) (k : Ctx) : Prop :=
  ∃ t, Sys2Proof.Machine.exec i s = .next t ∧ t.ctxOf x.core e.bgd = k

/-- The context after an instruction that writes v to register rd (G0 discards it), sets FL and goes on to the next word. -/
def Env.delivers (e : Env) (rd : BitVec 5) (v : Word) (fl : Flags) : Ctx :=
  { (e.setReg rd v).ctx with fl := fl, pc := e.ctx.pc + 4 }

/-- An instruction that works on its context alone leaves everything else: all registers but the core's CORE_CYCLES, all
other cores, and every other field but the counter of free values and the note of positions corrected in the words read (10
R373); and of its own core everything but the context, its execution, the retired count, the clocks charged and the note of a
passed breakpoint. -/
abbrev State.contextOnly (s t : State) (c : Nat) (bgd : Bool) : Prop :=
  (∀ a, a ≠ R.CORE_CYCLES + 0x1000 * c → t.reg a = s.reg a) ∧
  (∀ c', c' ≠ c → t.core c' = s.core c') ∧
  { t with regs := s.regs, fresh := s.fresh, exec := { t.exec with cores := s.exec.cores },
           memory := { t.memory with history := s.memory.history } } = s ∧
  t.runOf c bgd = s.runOf c bgd ∧
  { t.core c with fg := (s.core c).fg, bg := (s.core c).bg, retired := (s.core c).retired, bClocks := (s.core c).bClocks,
                  bpPassed := (s.core c).bpPassed } = s.core c ∧
  t.ctxOf c (!bgd) = s.ctxOf c (!bgd)

/-! ### Accesses to the register pages -/

/-- A write by requester r of the block-specific register at a reaches the rule that its block has for it: the requester can make
the access, the page answers in the mode, is not closed to it (09 R337, 04 R147, 03 R106), and is enabled and unlocked. -/
abbrev State.accepts (s : State) (r : Req) (a : Nat) : Prop :=
  s.reaches r = true ∧ (r = .host → s.sys.hpOut = true) ∧
    (hostSide r = true → pageAnswers s.mode (a / 0x1000) = true ∧
      ¬ ((s.pairState = 2 ∨ s.pairState = 3) ∧ standbyClosed (a / 0x1000) = true)) ∧
    (a / 0x1000 = 0x12 → s.rd R.SYS_STRAP_ROLE = 0) ∧ mayWrite r (a / 0x1000) a = true ∧
    s.pgEn (a / 0x1000) = true ∧ s.locked (a / 0x1000) = false

/-- A read by requester r of a register at a is answered: the requester can make the access and the page answers in the mode. -/
abbrev State.answers (s : State) (r : Req) (a : Nat) : Prop :=
  s.reaches r = true ∧ (r = .host → s.sys.hpOut = true) ∧ (hostSide r = true → pageAnswers s.mode (a / 0x1000) = true)

/-- The command has a next state of which p holds. -/
def State.to (s : State) (i : Instr) (p : State → Prop) : Prop := ∃ t, Sys2Proof.Machine.exec i s = .next t ∧ p t

/-- The read has returned v to its requester: the last thing on the module's lines. -/
abbrev State.returned (t : State) (r : Req) (a : Nat) (v : Word) : Prop := t.wire.getLast? = some (.readValue r a v)

/-- No item of CAN controller c waits with a payload that DRAM no longer holds (10 R368). -/
def State.canReadable (s : State) (c : Nat) : Bool :=
  s.memory.dramBad.all fun h => match h with
    | .item (.can k) _ => decide (k ≠ c)
    | _ => true

/-- The condition's PG_EVPEND bit is set. -/
abbrev State.shows (t : State) (c : Cond) : Prop := t.on c.pend = true

/-! ### The whole machine -/

/-- Memory and the register file are in their canonical form: addresses strictly rising, and no entry equal to what an unlisted
address reads as. -/
abbrev State.canonical (s : State) : Prop := Memory.wf s.mem ∧ Regs.wf s.regs

/-- A part of the machine behind its registers: one field of State. -/
inductive Part where
  | cores | mem | program | memories | edit | force | loops | cox | pwr | clk | wdt | rtc | dio | panel | mbx | spare | upd
  | sec | fbc | pair | net | radio | can
  deriving DecidableEq, Repr

/-- The part holds in t what it holds in s. -/
def Part.same (p : Part) (s t : State) : Prop :=
  match p with
  | .cores => t.exec = s.exec
  | .mem => t.mem = s.mem
  | .program => t.prog = s.prog
  | .memories => t.memory = s.memory
  | .edit => t.edit = s.edit
  | .force => t.force = s.force
  | .loops => t.loop = s.loop
  | .cox => t.cox = s.cox
  | .pwr => t.pwr = s.pwr
  | .clk => t.clk = s.clk
  | .wdt => t.wdt = s.wdt
  | .rtc => t.rtc = s.rtc
  | .dio => t.dio = s.dio
  | .panel => t.panel = s.panel
  | .mbx => t.mbx = s.mbx
  | .spare => t.spare = s.spare
  | .upd => t.upd = s.upd
  | .sec => t.sec = s.sec
  | .fbc => t.fbc = s.fbc
  | .pair => t.pair = s.pair
  | .net => t.net = s.net
  | .radio => t.radio = s.radio
  | .can => t.can = s.can

/-- Every part: what a reset of the module may change. -/
def Part.all : List Part :=
  [.cores, .mem, .program, .memories, .edit, .force, .loops, .cox, .pwr, .clk, .wdt, .rtc, .dio, .panel, .mbx, .spare, .upd
   , .sec, .fbc, .pair, .net, .radio, .can]

/-- The parts that a write or a block reset of a block's page may change, a reset of the module apart. -/
def blockParts : Blk → List Part
  | .evt | .mem | .flash | .log | .slot | .host => []
  | .fbx => [.fbc]
  | .sys | .pair | .claim => [.pair]
  | .clk => [.clk, .fbc, .pair]
  | .pwr => [.pwr]
  | .cox => [.cox]
  | .wdt => [.wdt]
  | .rtc => [.rtc]
  | .retain => [.memories]
  | .upd => [.upd]
  | .spare => [.spare]
  | .sec => [.mbx, .sec]
  | .mbx => [.memories, .mbx]
  | .exec => [.cores, .mem, .cox]
  | .edit => [.memories, .edit]
  | .force => [.force]
  | .core => [.cores, .cox, .wdt]
  | .loop | .loopctx => [.loops, .pair]
  | .fbc => [.memories, .fbc, .pair]
  | .net | .sess => [.memories, .pair, .net]
  | .radio => [.memories, .pair, .radio]
  | .can => [.memories, .pair, .can]
  | .dio => [.dio]
  | .panel => [.panel]

/-- The parts that a refused access of a core may change: it faults the task (03 R106). -/
def faultParts (r : Req) : List Part := if isCore r then [.cores, .cox, .memories, .fbc, .pair] else []

/-- The parts that a write of a page's block may change. -/
def pageParts (r : Req) (page : Nat) : List Part :=
  match blockAt page with
  | some (b, _) => blockParts b ++ faultParts r
  | none => faultParts r

/-- The parts that a write of any register may change: the pages of SYS, WDT and UPD have registers that reset the module. -/
def writeParts (r : Req) (a : Nat) : List Part :=
  match blockAt (a / 0x1000) with
  | some (.sys, _) => Part.all
  | some (.wdt, _) => Part.all
  | some (.upd, _) => Part.all
  | _ => pageParts r (a / 0x1000)

/-- The parts a command may change; the commands that may reset the module may change every part. -/
def partsOf : Instr → List Part
  | .laneRestored .. | .intentLapse | .persistDone .. | .strapInstant .. | .refclkReady | .pllLockTimeout | .hpErrRelease
    | .pathRetry .. | .floorChange .. | .vinLow .. | .voutaLow .. | .voutbLow .. | .huready
    | .holdupMeasure .. | .mainScrubLate .. | .arp .. | .keepalive .. | .ethLinkChange .. | .wireBreak .. | .wireOk ..
    | .openWire .. | .openWireCleared .. | .surge .. | .refreshLate .. | .fmcDone ..
    | .fmcTimeout | .oscStop | .sweepLate .. | .recordFlush .. | .tokenGain .. | .status .. | .echoRequest ..
      => []
  | .groupSupply .. | .diChange .. | .inputFilter .. | .overload .. | .outputRestart .. | .retryReset .. | .overtemp .. | .legTest ..
    | .legSpared .. | .restartTemperature .. | .safeEntered
      => [.dio]
  | .null .. | .grant .. | .probe .. | .probeReply .. | .handover | .linkChange .. => [.fbc]
  | .nonceExpiry .. | .sessionOpen .. | .managementMessage .. => [.mbx]
  | .addressAgeing .. | .announced | .announce .. | .sync .. | .todHoldover
    | .bridgedFrame .. | .delayResp .. | .followUp ..
      => [.net]
  | .secondIncrement | .shadowRelease .. => [.rtc]
  | .reportDone .. => [.sec]
  | .updTimeout .. | .write .. => [.upd]
  | .swapAgreement .. | .resyncStart | .mirrorLag ..
    | .umpireLost | .accessTimeout ..
      => [.pair]
  | .initialClear | .refresh | .railsup | .railFault .. | .panelFrame | .railsDown => [.panel]
  | .dcdChange .. | .tail | .rxCharacter .. => [.radio]
  | .retainCheck .. | .scrub .. | .correctedWriteBack .. | .rowReplaced .. | .bankSpared .. | .marginRead .. => [.memories]
  | .boot2Verified .. => [.wdt, .upd]
  | .reference .. => [.cores, .fbc, .pair]
  | .output .. | .input .. | .slotStart .. | .masterChange | .syncFailed | .holdoverTimeout
    | .firstNodeClock ..
      => [.fbc, .pair]
  | .itemMirror .. => [.memories, .fbc, .pair, .net, .radio, .can]
  | .recallDone .. => [.mem, .memories]
  | .echo .. | .logClear .. | .sensorSnapshot .. | .spareReport .. | .closeSessions .. | .deadline .. | .marshalRestart
      => [.memories, .mbx]
  | .eligible .. | .neverIdle => [.memories, .edit]
  | .pllLock .. | .readyChange .. | .refLost => [.clk, .fbc, .pair]
  | .latchInstant .. => [.dio, .fbc, .pair]
  | .storeDone .. => [.memories, .dio]
  | .supplyFail .. => [.memories, .dio, .panel]
  | .executionStart .. => [.cores, .mem, .loops, .cox]
  | .regionsLoaded .. => [.wdt, .panel, .upd, .fbc]
  | .retainWriteBurst .. => [.cores, .mem, .memories, .pair]
  | .dynamicSegment | .data .. | .acqTimeout .. => [.memories, .fbc, .pair]
  | .ackDelimiter .. | .attemptError .. | .recovered .. | .canExpired .. | .rxFrame .. => [.memories, .pair, .can]
  | .tcpSegment .. | .txtmoExpiry .. | .retransmissionTimeout .. | .noRoute .. | .datagramSent ..
      => [.memories, .pair, .net]
  | .editTransaction .. => [.memories, .edit, .pair]
  | .heartbeat .. | .messageResend .. | .laneFail .. => [.memories, .edit, .pair, .net, .radio, .can]
  | .telemetrySweep .. => [.cox, .pwr, .panel, .mbx]
  | .cts | .ctsTimeout | .keyup | .itemCompleted | .noAck .. | .radioExpired .. => [.memories, .pair, .radio]
  | .loopCompletion => [.cores, .mem, .loops, .cox]
  | .inputDigest .. | .inputImage .. => [.cores, .mem, .memories, .loops, .pair]
  | .staged .. => [.mem, .program, .edit, .upd]
  | .outputDigest .. => [.memories, .edit, .pwr, .pair]
  | .registerLoadValue .. | .loadValueTimeout .. | .nop .. | .not .. | .set1 .. | .clr .. | .push .. | .pop .. | .popand ..
    | .popor .. | .popxor .. | .getla .. | .putla .. | .tstb .. | .putb .. | .condla .. | .brk .. | .ld .. | .ldn .. | .and ..
    | .andn .. | .or .. | .orn .. | .xor .. | .xorn .. | .st .. | .stn .. | .set .. | .rst .. | .re .. | .fe .. | .pushld ..
    | .pushldn .. | .add .. | .adds .. | .sub .. | .subs .. | .cmp .. | .mul .. | .muls .. | .mulh .. | .mulhu .. | .div ..
    | .divu .. | .rem .. | .remu .. | .aluAnd .. | .aluOr .. | .aluXor .. | .aluAndn .. | .shl .. | .shr .. | .sar ..
    | .rol .. | .min .. | .max .. | .minu .. | .maxu .. | .neg .. | .abs .. | .sel .. | .addi .. | .andi .. | .ori ..
    | .xori .. | .cmpi .. | .shi .. | .lui .. | .ldh .. | .ldhu .. | .ldb .. | .ldbu .. | .sth .. | .stb .. | .fadd ..
    | .fsub .. | .fmul .. | .fdiv .. | .fmin .. | .fmax .. | .fcmp .. | .fabs .. | .fneg .. | .fsqrt .. | .itof .. | .ftoi ..
    | .ftoir .. | .b .. | .bla .. | .bnla .. | .jr .. | .ret .. | .ton .. | .tof .. | .tp .. | .ctr .. | .illegalInstr ..
      => [.cores, .cox, .memories, .wdt, .fbc, .pair]
  | .admissionRecord .. => [.cores, .mem, .loops, .cox, .pair]
  | .inputComplete .. => [.cores, .mem, .memories, .loops, .fbc, .pair]
  | .call .. | .callr .. => [.cores, .mem, .cox, .memories, .wdt, .fbc, .pair]
  | .messageAcknowledgement .. => [.memories, .pair, .net, .radio, .can]
  | .selfTestComplete .. | .coreFailed .. | .spareSelfTest .. => [.cores, .cox, .memories, .spare, .fbc, .pair]
  | .outputCutoff .. => [.cores, .memories, .edit, .loops, .pwr, .pair]
  | .stateCopy .. => [.cores, .mem, .program, .memories, .edit, .loops, .upd, .pair]
  | .ldw .. => [.cores, .cox, .memories, .wdt, .rtc, .mbx, .sec, .fbc, .pair, .net, .radio, .can]
  | .programLoaded .. => [.mem, .program, .memories, .edit, .mbx, .upd, .fbc, .pair, .net, .radio, .can]
  | .initEnd => [.cores, .mem, .memories, .edit, .cox, .pwr, .wdt, .rtc, .dio, .upd, .fbc, .pair, .net, .radio, .can]
  | .strokeStart
      => [.cores, .mem, .program, .memories, .edit, .force, .loops, .cox, .pwr, .wdt, .dio, .mbx, .spare, .upd, .fbc, .pair, .net, .radio,
        .can]
  | .execStopreq r _ | .evtRaise r _ _ | .pgEvforce r _ _ | .lock r _ _ | .unlock r _ _ | .clkoutSet r _ _ _ | .fmcStart r
    | .fmcAbort r | .secProfsel r _ | .evtPnhead r _ | .execStrokelo r | .execScanlo r | .pwrEmodlo r | .netTodofslo r
    | .logRdata0 r _
      => faultParts r
  | .rtcSec r | .rtcYearHi r => .rtc :: faultParts r
  | .mbxNonce0 r | .mbxRdata r => .mbx :: faultParts r
  | .secAttdata r => .sec :: faultParts r
  | .fbcAcqRdata r => .fbc :: faultParts r
  | .netRxinfo r | .netRxdata r => .net :: faultParts r
  | .radioRxinfo r | .radioRxdata r => .radio :: faultParts r
  | .canxRxhead r _ | .canxRxdata r _ => .can :: faultParts r
  | .stop r | .startWarm r | .startCold r | .persist r | .coldConsent r | .hold r | .release r | .swap r
      => pageParts r 0x00
  | .clkSel r _ => pageParts r 0x01
  | .p0 r | .p1 r | .p2 r | .park r => pageParts r 0x02
  | .checkin r _ => pageParts r 0x06
  | .rtcCommit r | .arm r | .disarm r | .trimSet r _ => pageParts r 0x07
  | .store r => pageParts r 0x09
  | .updOpen r | .updWdata r _ | .finish r | .updAbort r | .unstage r => pageParts r 0x0B
  | .next r | .prev r | .first r | .last r => pageParts r 0x0C
  | .substCore r _ | .testSpare r => pageParts r 0x0D
  | .kcmdOpen r | .enroll r | .revoke r => pageParts r 0x0E
  | .mbxSubmit r | .mbxCancel r => pageParts r 0x0F
  | .editOpen r | .block r | .editWdata r _ | .commit r | .editAbort r => pageParts r 0x11
  | .apply r | .clearAll r | .revert r => pageParts r 0x12
  | .halt r _ | .resume r _ | .step r _ | .runtask r _ _ => pageParts r 0x18
  | .loopTdata r _ => pageParts r 0x20
  | .fbcApply r | .fbcRevert r | .acqSubmit r => pageParts r 0x40
  | .resync r | .spareLane r _ | .abortResync r => pageParts r 0x44
  | .netSubmit r | .sessOpen r _ | .sessClose r _ | .sessAbort r _ => pageParts r 0x50
  | .radioSubmit r | .radioAck r | .radioCancel r => pageParts r 0x60
  | .canSubmit r _ | .canCancel r _ | .recover r _ => pageParts r 0x61
  | .spareLeg r _ => pageParts r 0x70
  | .clear r | .full r | .partialUpdate r | .panelWdata r _ | .panelMwdata r _ => pageParts r 0x71
  | .report r | .cert r => .sec :: faultParts r
  | .reset .. | .powerOn .. | .supplyReturn .. | .rstN | .stw .. | .service .. | .expiry | .monitorReset | .enterRecovery ..
    | .reboot .. | .rxRecord
      => Part.all
  | .udpDatagram _ _ dport _ => if dport = recoveryPort then Part.all else [.net]
  | .mordant via => .panel :: (via.map faultParts).getD []
  | .registerWrite r w _ _ => writeParts r (4 * w.toNat)
  | .hostDataWrite w _ _ =>
    if 0x40000 ≤ 4 * w.toNat ∧ 4 * w.toNat < 0xC0000 then writeParts .host (4 * w.toNat - 0x40000) else [.cores, .mem, .memories, .pair]
  | .blockReset r page => pageParts r page.toNat
  | .blockDisable r page _ => pageParts r page.toNat

end Sys2Proof.Machine
end

