-- ==== Sys2Proof/Certificates/Slice0/Obligations.lean ====
section
/-!
DEFINITION. Certificates/Slice0/Obligations.lean: the statements for the provers.
-/

section Statements

open Sys2Proof Sys2Proof.Machine

/-! ### The Melax cores (05) -/

/-- R190: the result and the flags of every word operation, with R195's corners of the divisions. A saturated result is the
end of the range on its side, sets V and S; S is never cleared. -/
def Obligations.WordOperations : Prop :=
  ∀ (s : State) (x : At) (e : Env) (rd ra rb : BitVec 5), s.fetches x e → badDest rd = false →
    let a := e.reg ra
    let b := e.reg rb
    let f := e.ctx.fl
    let out (v : Int) : Bool := decide (v < -2147483648 ∨ 2147483648 ≤ v)
    let sat (v : Int) : Word := if v < -2147483648 then 0x80000000 else if 2147483648 ≤ v then 0x7FFFFFFF else BitVec.ofInt 32 v
    let nz (r : Word) (g : Flags) : Flags := { g with n := r.getLsbD 31, z := decide (r = 0) }
    let mark (o : Bool) (g : Flags) : Flags := { g with v := o, s := f.s || o }
    let q : Int := if b = 0 then (if a = 0 then 0 else if a.toInt < 0 then -2147483649 else 2147483648) else a.toInt.tdiv b.toInt
    let qu : Word := if b = 0 then (if a = 0 then 0 else 0xFFFFFFFF) else a / b
    let m : Word := if b = 0 then a else BitVec.ofInt 32 (a.toInt.tmod b.toInt)
    let mu : Word := if b = 0 then a else a % b
    s.leaves x e (.add x rd ra rb) (e.delivers rd (a + b)
      { nz (a + b) f with c := decide (2 ^ 32 ≤ a.toNat + b.toNat), v := out (a.toInt + b.toInt) }) ∧
    s.leaves x e (.adds x rd ra rb) (e.delivers rd (sat (a.toInt + b.toInt))
      { mark (out (a.toInt + b.toInt)) (nz (sat (a.toInt + b.toInt)) f) with c := false }) ∧
    s.leaves x e (.sub x rd ra rb) (e.delivers rd (a - b)
      { nz (a - b) f with c := decide (a.toNat < b.toNat), v := out (a.toInt - b.toInt) }) ∧
    s.leaves x e (.subs x rd ra rb) (e.delivers rd (sat (a.toInt - b.toInt))
      { mark (out (a.toInt - b.toInt)) (nz (sat (a.toInt - b.toInt)) f) with c := false }) ∧
    s.leaves x e (.cmp x ra rb) (e.delivers 0 0
      { nz (a - b) f with c := decide (a.toNat < b.toNat), v := out (a.toInt - b.toInt) }) ∧
    s.leaves x e (.mul x rd ra rb) (e.delivers rd (a * b) f) ∧
    s.leaves x e (.muls x rd ra rb) (e.delivers rd (sat (a.toInt * b.toInt)) (mark (out (a.toInt * b.toInt)) f)) ∧
    s.leaves x e (.mulh x rd ra rb) (e.delivers rd (BitVec.extractLsb' 32 32 (a.signExtend 64 * b.signExtend 64)) f) ∧
    s.leaves x e (.mulhu x rd ra rb) (e.delivers rd (BitVec.extractLsb' 32 32 (a.zeroExtend 64 * b.zeroExtend 64)) f) ∧
    s.leaves x e (.div x rd ra rb) (e.delivers rd (sat q)
      { mark (decide (b = 0) || out q) (nz (sat q) f) with c := false }) ∧
    s.leaves x e (.divu x rd ra rb) (e.delivers rd qu { mark (decide (b = 0)) (nz qu f) with c := false }) ∧
    s.leaves x e (.rem x rd ra rb) (e.delivers rd m { nz m f with c := false, v := decide (b = 0) }) ∧
    s.leaves x e (.remu x rd ra rb) (e.delivers rd mu { nz mu f with c := false, v := decide (b = 0) }) ∧
    s.leaves x e (.aluAnd x rd ra rb) (e.delivers rd (a &&& b) (nz (a &&& b) f)) ∧
    s.leaves x e (.aluOr x rd ra rb) (e.delivers rd (a ||| b) (nz (a ||| b) f)) ∧
    s.leaves x e (.aluXor x rd ra rb) (e.delivers rd (a ^^^ b) (nz (a ^^^ b) f)) ∧
    s.leaves x e (.aluAndn x rd ra rb) (e.delivers rd (a &&& ~~~b) (nz (a &&& ~~~b) f)) ∧
    s.leaves x e (.shl x rd ra rb) (e.delivers rd (a <<< (b.toNat % 256)) f) ∧
    s.leaves x e (.shr x rd ra rb) (e.delivers rd (a >>> (b.toNat % 256)) f) ∧
    s.leaves x e (.sar x rd ra rb) (e.delivers rd (a.sshiftRight (min (b.toNat % 256) 31)) f) ∧
    s.leaves x e (.rol x rd ra rb)
      (e.delivers rd (a <<< (b.toNat % 32) ||| a >>> (32 - b.toNat % 32)) f) ∧
    s.leaves x e (.min x rd ra rb) (e.delivers rd (BitVec.ofInt 32 (min a.toInt b.toInt)) f) ∧
    s.leaves x e (.max x rd ra rb) (e.delivers rd (BitVec.ofInt 32 (max a.toInt b.toInt)) f) ∧
    s.leaves x e (.minu x rd ra rb) (e.delivers rd (BitVec.ofNat 32 (min a.toNat b.toNat)) f) ∧
    s.leaves x e (.maxu x rd ra rb) (e.delivers rd (BitVec.ofNat 32 (max a.toNat b.toNat)) f) ∧
    s.leaves x e (.neg x rd ra) (e.delivers rd (sat (-a.toInt)) (mark (out (-a.toInt)) (nz (sat (-a.toInt)) f))) ∧
    s.leaves x e (.abs x rd ra) (e.delivers rd (sat |a.toInt|) (mark (out |a.toInt|) (nz (sat |a.toInt|) f))) ∧
    s.leaves x e (.sel x rd ra rb) (e.delivers rd (if e.ctx.la then a else b) f)

/-- R195: every row of the table, by the values of the operands; S is set where the table says so and otherwise kept. -/
def Obligations.DeterministicArithmetic : Prop :=
  ∀ (s : State) (x : At) (e : Env) (rd ra rb : BitVec 5), s.fetches x e → badDest rd = false →
    let a := e.reg ra
    let b := e.reg rb
    let gives (i : Instr) (r : Word) (v keepS : Bool) : Prop :=
      ∃ fl : Flags, s.leaves x e i (e.delivers rd r fl) ∧ fl.v = v ∧ fl.s = if keepS then e.ctx.fl.s else true
    (b = 0 → gives (.div x rd ra rb) (if 0 < a.toInt then 0x7FFFFFFF else if a.toInt < 0 then 0x80000000 else 0) true false) ∧
    (b = 0 → gives (.divu x rd ra rb) (if a ≠ 0 then 0xFFFFFFFF else 0) true false) ∧
    (a = 0x80000000 → b = 0xFFFFFFFF → gives (.div x rd ra rb) 0x7FFFFFFF true false) ∧
    (b = 0 → gives (.rem x rd ra rb) a true true) ∧
    (b = 0 → gives (.remu x rd ra rb) a true true) ∧
    (a = 0x80000000 → b = 0xFFFFFFFF → gives (.rem x rd ra rb) 0 false true) ∧
    (0x7F800000 < a.toNat % 0x80000000 →
      gives (.ftoi x rd ra) 0 true false ∧ gives (.ftoir x rd ra) 0 true false) ∧
    (0x4F000000 ≤ a.toNat → a.toNat ≤ 0x7F800000 →
      gives (.ftoi x rd ra) 0x7FFFFFFF true false ∧ gives (.ftoir x rd ra) 0x7FFFFFFF true false) ∧
    (0xCF000000 < a.toNat → a.toNat ≤ 0xFF800000 →
      gives (.ftoi x rd ra) 0x80000000 true false ∧ gives (.ftoir x rd ra) 0x80000000 true false)

/-- R191: the immediate instructions, for each kind of SHI that is assigned. -/
def Obligations.ImmediateOperations : Prop :=
  ∀ (s : State) (x : At) (e : Env) (rd ra n : BitVec 5) (imm : BitVec 15) (up : BitVec 20), s.fetches x e →
    badDest rd = false →
    let a := e.reg ra
    let f := e.ctx.fl
    let se : Word := imm.signExtend 32
    let ze : Word := imm.zeroExtend 32
    let out (v : Int) : Bool := decide (v < -2147483648 ∨ 2147483648 ≤ v)
    let nz (r : Word) : Flags := { f with n := r.getLsbD 31, z := decide (r = 0) }
    s.leaves x e (.addi x rd ra imm) (e.delivers rd (a + se)
      { nz (a + se) with c := decide (2 ^ 32 ≤ a.toNat + se.toNat), v := out (a.toInt + imm.toInt) }) ∧
    s.leaves x e (.cmpi x ra imm) (e.delivers 0 0
      { nz (a - se) with c := decide (a.toNat < se.toNat), v := out (a.toInt - imm.toInt) }) ∧
    s.leaves x e (.andi x rd ra imm) (e.delivers rd (a &&& ze) (nz (a &&& ze))) ∧
    s.leaves x e (.ori x rd ra imm) (e.delivers rd (a ||| ze) (nz (a ||| ze))) ∧
    s.leaves x e (.xori x rd ra imm) (e.delivers rd (a ^^^ ze) (nz (a ^^^ ze))) ∧
    s.leaves x e (.lui x rd up) (e.delivers rd (BitVec.ofNat 32 (up.toNat * 4096)) f) ∧
    s.leaves x e (.shi x rd ra 0 n) (e.delivers rd (a <<< n.toNat) f) ∧
    s.leaves x e (.shi x rd ra 1 n) (e.delivers rd (a >>> n.toNat) f) ∧
    s.leaves x e (.shi x rd ra 2 n) (e.delivers rd (a.sshiftRight n.toNat) f) ∧
    s.leaves x e (.shi x rd ra 3 n) (e.delivers rd (a <<< n.toNat ||| a >>> (32 - n.toNat)) f)

/-- R189: every LAOP row, with R192's conditions for CONDLA; and NOP, which only goes on (R184). A push below depth 16 and a
pop above depth 0 (R188). -/
def Obligations.LogicAccumulator : Prop :=
  ∀ (s : State) (x : At) (e : Env) (rd ra k : BitVec 5) (c : BitVec 4), s.fetches x e →
    let la := e.ctx.la
    let f := e.ctx.fl
    let next : Ctx := { e.ctx with pc := e.ctx.pc + 4 }
    let holds : Bool := [true, f.z, !f.z, f.n != f.v, f.n == f.v, f.z || f.n != f.v, !f.z && f.n == f.v, f.c, !f.c, f.c || f.z,
      !f.c && !f.z, f.n, !f.n, f.v, !f.v, f.s].getD c.toNat false
    s.leaves x e (.nop x) next ∧
    s.leaves x e (.not x) { next with la := !la } ∧
    s.leaves x e (.set1 x) { next with la := true } ∧
    s.leaves x e (.clr x) { next with la := false } ∧
    (e.ctx.las.length < 16 → s.leaves x e (.push x) { next with las := la :: e.ctx.las }) ∧
    (∀ top rest, e.ctx.las = top :: rest →
      s.leaves x e (.pop x) { next with las := rest, la := top } ∧
      s.leaves x e (.popand x) { next with las := rest, la := top && la } ∧
      s.leaves x e (.popor x) { next with las := rest, la := top || la } ∧
      s.leaves x e (.popxor x) { next with las := rest, la := top ^^ la }) ∧
    (badDest rd = false → s.leaves x e (.getla x rd) (e.delivers rd (if la then 1 else 0) f)) ∧
    s.leaves x e (.putla x ra) { next with la := decide (e.reg ra ≠ 0) } ∧
    s.leaves x e (.tstb x ra k) { next with la := (e.reg ra).getLsbD k.toNat } ∧
    (badDest rd = false → ∃ r : Word, s.leaves x e (.putb x rd ra k) (e.delivers rd r f) ∧
      ∀ i, r.getLsbD i = if i = k.toNat then la else (e.reg ra).getLsbD i) ∧
    s.leaves x e (.condla x c) { next with la := holds }

/-- R201: branches, with R192's conditions: a target that is taken is a multiple of 4 in the program area, or the task faults with
ALIGN or ACCESS (3 or 2 in EXEC_FLTINFO). -/
def Obligations.BranchesTakeTheirTarget : Prop :=
  ∀ (s : State) (x : At) (e : Env) (ra : BitVec 5) (c : BitVec 4) (disp : BitVec 21), s.fetches x e →
    let next : Ctx := { e.ctx with pc := e.ctx.pc + 4 }
    let target : Word := BitVec.ofInt 32 (e.ctx.pc.toNat + 4 * disp.toInt)
    let good (a : Word) : Prop := a.toNat % 4 = 0 ∧ a.toNat < 0x01000000
    (e.ctx.fl.holds c = false → s.leaves x e (.b x c disp) next) ∧
    (e.ctx.la = false → s.leaves x e (.bla x disp) next) ∧
    (e.ctx.la = true → s.leaves x e (.bnla x disp) next) ∧
    (good target →
      (e.ctx.fl.holds c = true → s.leaves x e (.b x c disp) { e.ctx with pc := target }) ∧
      (e.ctx.la = true → s.leaves x e (.bla x disp) { e.ctx with pc := target }) ∧
      (e.ctx.la = false → s.leaves x e (.bnla x disp) { e.ctx with pc := target })) ∧
    (good (e.reg ra) → s.leaves x e (.jr x ra) { e.ctx with pc := e.reg ra }) ∧
    (s.decoded e.ctx.pc.toNat x.fetch = .clean → (s.core x.core).stepping = false →
      let stops (i : Instr) (a : Nat) : Prop :=
        (a % 4 ≠ 0 → s.faults x e i 3 a) ∧ (a % 4 = 0 → 0x01000000 ≤ a → s.faults x e i 2 a)
      (e.ctx.fl.holds c = true → stops (.b x c disp) target.toNat) ∧
      (e.ctx.la = true → stops (.bla x disp) target.toNat) ∧
      (e.ctx.la = false → stops (.bnla x disp) target.toNat) ∧
      stops (.jr x ra) (e.reg ra).toNat)

/-- R202 to R204: a call whose frame fits the window file saves it and goes to its target with an empty LA stack; a return to
that frame restores what it names. -/
def Obligations.CallsSaveAndReturnsRestore : Prop :=
  ∀ (s : State) (x : At) (e : Env) (ra : BitVec 5) (tgt : BitVec 22) (mask : BitVec 16) (d : Ecc), s.fetches x e →
    e.ctx.pc.toNat % 8 = 0 →
    let saved : List Nat := (List.range 16).filter fun i => mask.getLsbD i
    let room := if e.bgd then 64 else 192
    let good (a : Nat) : Prop := a % 8 = 0 ∧ a < 0x01000000
    let frame (r : Nat) : List Word :=
      [BitVec.ofNat 32 (e.ctx.las.length * 2 ^ 27 + r % 2 ^ 24),
       BitVec.ofNat 32 (mask.toNat * 65536 + bitsNat e.ctx.las)] ++ saved.map fun i => e.reg (BitVec.ofNat 5 (16 + i))
    let called (a : Nat) : Ctx := { e.ctx with
      window := e.ctx.window ++ frame (e.ctx.pc.toNat + 8), frames := (2 + saved.length) :: e.ctx.frames, las := [],
      pc := BitVec.ofNat 32 a }
    (e.ctx.window.length + 2 + saved.length ≤ room → e.ctx.spillp ≤ spillBase e.run.task + 0x2000 →
      (good (4 * tgt.toNat) → s.leaves x e (.call x tgt mask) (called (4 * tgt.toNat))) ∧
      (good (e.reg ra).toNat → s.leaves x e (.callr x ra mask) (called (e.reg ra).toNat))) ∧
    (∀ (w : List Word) (z : Nat) (fs : List Nat) (s0 s1 : Word) (vs : List Word), e.ctx.window = w ++ s0 :: s1 :: vs →
      e.ctx.frames = z :: fs → z = 2 + vs.length → vs.length = (maskRegs (s1.toNat / 65536)).length →
      ∃ k, s.leaves x e (.ret x d) k ∧ k.window = w ∧ k.frames = fs ∧ k.pc = BitVec.ofNat 32 (s0.toNat % 2 ^ 24) ∧
        k.las = (List.range (s0.toNat / 2 ^ 27)).map (fun i => s1.getLsbD i) ∧ k.fl = e.ctx.fl ∧ k.la = e.ctx.la ∧
        ∀ i, SMap.get (fun _ => 0) k.f i =
          (((maskRegs (s1.toNat / 65536)).zip vs).lookup i).getD (SMap.get (fun _ => 0) e.ctx.f i)) ∧
    (e.ctx.frames = [] → ∃ t, Sys2Proof.Machine.exec (.ret x d) s = .next t ∧ t.runOf x.core e.bgd = none ∧
      (e.run.runtask = false → ⟨e.run.task, e.run.scan, e.run.qbuf, 0⟩ ∈ t.exec.finished))

/-- R186, R187: the bit instructions on a bit of the execution's own view of memory. A write changes that bit alone. The
memory bit of RE and FE counts as 0 while nothing has written it since a restart that kept nothing of it (02 R79). The
model's choices in it: log entry 15. -/
def Obligations.BitInstructions : Prop :=
  ∀ (s : State) (x : At) (e : Env) (op : BitOp) (d : Ecc) (a b : Nat), s.fetches x e → e.bitAddr op = .ok (a, b) →
    s.readable a → eccOk (s.readWord a d).1 = true →
    let see := s.sees x.core e.bgd
    let m := (see a).getLsbD b
    let la := e.ctx.la
    let next : Ctx := { e.ctx with pc := e.ctx.pc + 4 }
    let wr (v : Bool) (a' : Nat) : Byte :=
      if a' = a then (if v then see a ||| 1#8 <<< b else see a &&& ~~~(1#8 <<< b)) else see a'
    let edge : Bool := m && (s.bitWritten a b || !(s.exec.cold || a < 0x02000000))
    s.stores x e (.ld x op d) { next with la := m } see ∧
    s.stores x e (.ldn x op d) { next with la := !m } see ∧
    s.stores x e (.and x op d) { next with la := la && m } see ∧
    s.stores x e (.andn x op d) { next with la := la && !m } see ∧
    s.stores x e (.or x op d) { next with la := la || m } see ∧
    s.stores x e (.orn x op d) { next with la := la || !m } see ∧
    s.stores x e (.xor x op d) { next with la := la ^^ m } see ∧
    s.stores x e (.xorn x op d) { next with la := la ^^ !m } see ∧
    (e.ctx.las.length < 16 →
      s.stores x e (.pushld x op d) { next with la := m, las := la :: e.ctx.las } see ∧
      s.stores x e (.pushldn x op d) { next with la := !m, las := la :: e.ctx.las } see) ∧
    (s.writable a →
      s.stores x e (.st x op d) next (wr la) ∧
      s.stores x e (.stn x op d) next (wr (!la)) ∧
      s.stores x e (.set x op d) next (if la then wr true else see) ∧
      s.stores x e (.rst x op d) next (if la then wr false else see) ∧
      s.stores x e (.re x op d) { next with la := la && !edge } (wr la) ∧
      s.stores x e (.fe x op d) { next with la := !la && edge } (wr la))

/-- R193: loads and stores of memory: the address is RA plus the sign-extended immediate, the value little-endian; a load
leaves every byte as it was, a store writes its own bytes alone. -/
def Obligations.LoadsAndStores : Prop :=
  ∀ (s : State) (x : At) (e : Env) (rd ra : BitVec 5) (imm : BitVec 15) (d : Ecc), s.fetches x e →
    let see := s.sees x.core e.bgd
    let a := (e.reg ra + imm.signExtend 32).toNat
    let next : Ctx := { e.ctx with pc := e.ctx.pc + 4 }
    let f := e.ctx.fl
    let stored (n a' : Nat) : Byte := if a ≤ a' ∧ a' < a + n then (e.reg rd).extractLsb' (8 * (a' - a)) 8 else see a'
    eccOk (s.readWord a d).1 = true →
    (s.readable a → badDest rd = false →
      s.stores x e (.ldb x rd ra imm d) (e.delivers rd ((see a).signExtend 32) f) see ∧
      s.stores x e (.ldbu x rd ra imm d) (e.delivers rd ((see a).zeroExtend 32) f) see ∧
      (a % 2 = 0 →
        s.stores x e (.ldh x rd ra imm d) (e.delivers rd ((see (a + 1) ++ see a).signExtend 32) f) see ∧
        s.stores x e (.ldhu x rd ra imm d) (e.delivers rd ((see (a + 1) ++ see a).zeroExtend 32) f) see) ∧
      (a % 4 = 0 →
        s.stores x e (.ldw x rd ra imm d)
          (e.delivers rd (see (a + 3) ++ see (a + 2) ++ see (a + 1) ++ see a) f) see)) ∧
    (s.writable a →
      s.stores x e (.stb x rd ra imm d) next (stored 1) ∧
      (a % 2 = 0 → s.stores x e (.sth x rd ra imm d) next (stored 2)) ∧
      (a % 4 = 0 → s.stores x e (.stw x rd ra imm d) next (stored 4)))

/-- R197, R198, R200, 04 R142, R145: a timer block that has been written since the restart, and a counter block: what the
evaluation leaves of it and puts in LA and RI; and of a block in retain memory that the supply-fail latch cuts off, it changes
at most the words written before. The model's choices in it: log entries 15 and 177. -/
def Obligations.TimersAndCounters : Prop :=
  ∀ (s : State) (x : At) (e : Env) (ri ra : BitVec 5) (off : BitVec 15) (d : Ecc), s.fetches x e →
    let see := s.sees x.core e.bgd
    let in1 := e.ctx.la
    (∀ a, a = ((e.reg ra).toNat + off.toNat * 32) % 2 ^ 32 → a % 32 = 0 → s.writable a → ¬ (0x01008000 ≤ a ∧ a < 0x01010000) →
      eccOk (s.readWord a d).1 = true → (∀ j < 32, s.byteWritten (a + j) = true) → (x.cut = none ∨ a < 0x02000000) →
      ∀ b : Timer, b = Timer.ofBytes ((List.range 32).map fun j => see (a + j)) → b.last ≤ e.run.scan → e.run.scan < 2 ^ 63 →
        let n := e.run.scan
        let el := min (b.elapsed + (n - b.last) * s.rd R.EXEC_STROKELEN_LEN) b.preset
        let leaves (i : Instr) (b' : Timer) : Prop :=
          ∃ t, Sys2Proof.Machine.exec i s = .next t ∧ t.ctxOf x.core e.bgd = { e.ctx with pc := e.ctx.pc + 4, la := b'.q } ∧
            Timer.ofBytes ((List.range 32).map fun j => t.sees x.core e.bgd (a + j)) = b' ∧
            ∀ a', (a' < a ∨ a + 32 ≤ a') → t.sees x.core e.bgd a' = see a'
        leaves (.ton x ra off d) (if in1 then
          { b with last := n, inprev := true, elapsed := if b.inprev then el else 0,
                   q := decide (b.preset ≤ if b.inprev then el else 0) }
          else { b with last := n, inprev := false, elapsed := 0, q := false }) ∧
        leaves (.tof x ra off d) (if in1 then { b with last := n, inprev := true, elapsed := 0, q := true }
          else { b with last := n, inprev := false, elapsed := if b.inprev then 0 else el,
                        q := decide ((if b.inprev then 0 else el) < b.preset) }) ∧
        leaves (.tp x ra off d) (
          let b' := if b.running then { b with elapsed := el, running := decide (el < b.preset) }
            else if in1 && !b.inprev then { b with running := true, elapsed := 0 } else b
          { b' with q := b'.running, last := n, inprev := in1 })) ∧
    (∀ a, a = ((e.reg ra).toNat + off.toNat * 16) % 2 ^ 32 → a % 16 = 0 → s.writable a → ¬ (0x01008000 ≤ a ∧ a < 0x01010000) →
      eccOk (s.readWord a d).1 = true → badDest ri = false → (x.cut = none ∨ a < 0x02000000) →
      ∀ b : Counter, b = Counter.ofBytes ((List.range 16).map fun j => see (a + j)) →
        let i := e.reg ri
        let up := i.getLsbD 0 && !b.cuprev
        let dn := i.getLsbD 1 && !b.cdprev
        let cv : Int := if i.getLsbD 2 then 0 else if i.getLsbD 3 then b.pv
          else if up && !dn then min (b.cv + 1) 2147483647 else if dn && !up then max (b.cv - 1) (-2147483648) else b.cv
        let b' : Counter := { b with cv := cv, cuprev := i.getLsbD 0, cdprev := i.getLsbD 1, qu := decide (b.pv ≤ cv), qd := decide (cv ≤ 0) }
        ∃ t r, Sys2Proof.Machine.exec (.ctr x ri ra off d) s = .next t ∧
          t.ctxOf x.core e.bgd = { (e.setReg ri r).ctx with pc := e.ctx.pc + 4, la := b'.qu } ∧
          (∀ j, r.getLsbD j = if j = 8 then b'.qu else if j = 9 then b'.qd else i.getLsbD j) ∧
          Counter.ofBytes ((List.range 16).map fun j => t.sees x.core e.bgd (a + j)) = b' ∧
          ∀ a', (a' < a ∨ a + 16 ≤ a') → t.sees x.core e.bgd a' = see a') ∧
    (∀ k a n i, x.cut = some k → (i, n) ∈ [(.ton x ra off d, 32), (.tof x ra off d, 32), (.tp x ra off d, 32), (.ctr x ri ra off d, 16)] →
      a = ((e.reg ra).toNat + off.toNat * n) % 2 ^ 32 → a % n = 0 → 0x02000000 ≤ a → a < 0x027C0000 → s.recalled = true →
      eccOk (s.readWord a d).1 = true → badDest ri = false →
      ∃ t, Sys2Proof.Machine.exec i s = .next t ∧ t.ctxOf x.core e.bgd = e.ctx ∧
        ∀ a', (a' < a ∨ a + 4 * k.val ≤ a') → t.sees x.core e.bgd a' = see a')

/-- R194: the binary32 operations deliver the results that Machine/Float.lean defines and keep FL but for FCMP, FTOI,
FTOIR. The model's choices in it: log entry 55. -/
def Obligations.FloatOperations : Prop :=
  ∀ (s : State) (x : At) (e : Env) (rd ra rb : BitVec 5), s.fetches x e → badDest rd = false →
    let a := (e.reg ra).toNat
    let b := (e.reg rb).toNat
    let f := e.ctx.fl
    let w (n : Nat) : Word := BitVec.ofNat 32 n
    let c := b32.compare a b
    let toInt (r : IntRound) : Int × Bool := b32.toInt r (-2147483648) 2147483647 a
    s.leaves x e (.fadd x rd ra rb) (e.delivers rd (w (b32.add a b)) f) ∧
    s.leaves x e (.fsub x rd ra rb) (e.delivers rd (w (b32.sub a b)) f) ∧
    s.leaves x e (.fmul x rd ra rb) (e.delivers rd (w (b32.mul a b)) f) ∧
    s.leaves x e (.fdiv x rd ra rb) (e.delivers rd (w (b32.div a b)) f) ∧
    s.leaves x e (.fmin x rd ra rb) (e.delivers rd (w (b32.min a b)) f) ∧
    s.leaves x e (.fmax x rd ra rb) (e.delivers rd (w (b32.max a b)) f) ∧
    s.leaves x e (.fcmp x ra rb) (e.delivers 0 0
      { f with z := c == some .eq, n := c == some .lt, v := c == none, c := false }) ∧
    s.leaves x e (.fabs x rd ra) (e.delivers rd (w (b32.canon (a % 0x80000000))) f) ∧
    s.leaves x e (.fneg x rd ra) (e.delivers rd (w (b32.canon ((a + 0x80000000) % 0x100000000))) f) ∧
    s.leaves x e (.fsqrt x rd ra) (e.delivers rd (w (b32.sqrt a)) f) ∧
    s.leaves x e (.itof x rd ra) (e.delivers rd (w (b32.ofInt (e.reg ra).toInt)) f) ∧
    s.leaves x e (.ftoi x rd ra) (e.delivers rd (BitVec.ofInt 32 (toInt .toZero).1)
      { f with v := (toInt .toZero).2, s := f.s || (toInt .toZero).2 }) ∧
    s.leaves x e (.ftoir x rd ra) (e.delivers rd (BitVec.ofInt 32 (toInt .nearest).1)
      { f with v := (toInt .nearest).2, s := f.s || (toInt .nearest).2 })

/-- R196: every binary32 result is a number, an infinity or the canonical NaN; none is subnormal. The model's choices in
it: log entry 55. -/
def Obligations.FloatResultsAreDelivered : Prop :=
  ∀ (a b : Nat) (v : Int), a < 2 ^ 32 → b < 2 ^ 32 →
    ∀ r ∈ [b32.add a b, b32.sub a b, b32.mul a b, b32.div a b, b32.min a b, b32.max a b, b32.canon a, b32.sqrt a, b32.ofInt v],
      r < 2 ^ 32 ∧ (r / 2 ^ 23 % 256 = 255 → r % 2 ^ 23 = 0 ∨ r = 0x7FC00000) ∧ (r / 2 ^ 23 % 256 = 0 → r % 2 ^ 23 = 0)

/-- R183, R188, R193, R201, R202, R218, 04 R153 to R156: what makes a task fault, and what the fault leaves: the execution is
abandoned and the first fault is captured. -/
def Obligations.TaskFaults : Prop :=
  ∀ (s : State) (x : At) (e : Env) (rd ra rb : BitVec 5) (imm : BitVec 15) (mask : BitVec 16) (d : Ecc), s.fetches x e →
    s.decoded e.ctx.pc.toNat x.fetch = .clean → (s.core x.core).stepping = false →
    let a := (e.reg ra + imm.signExtend 32).toNat
    (badDest rd = true → s.faults x e (.add x rd ra rb) 1 0 ∧ s.faults x e (.getla x rd) 1 0 ∧ s.faults x e (.lui x rd 0) 1 0) ∧
    (16 ≤ e.ctx.las.length → s.faults x e (.push x) 1 0) ∧
    (e.ctx.las = [] → s.faults x e (.pop x) 1 0) ∧
    (a % 4 ≠ 0 → badDest rd = false → s.faults x e (.ldw x rd ra imm d) 3 a ∧ s.faults x e (.stw x rd ra imm d) 3 a) ∧
    (0x01000000 ≤ a → a < 0x01008000 → s.faults x e (.stb x rd ra imm d) 4 a) ∧
    (0x02000000 ≤ a → a < 0x027C0000 → s.recalled = false → badDest rd = false → s.faults x e (.ldb x rd ra imm d) 5 a) ∧
    (0x027C0000 ≤ a → a < 0x02800000 → badDest rd = false → s.faults x e (.ldb x rd ra imm d) 6 a) ∧
    ((e.reg ra).toNat % 4 ≠ 0 → s.faults x e (.jr x ra) 3 (e.reg ra).toNat) ∧
    ((e.reg ra).toNat % 4 = 0 → 0x01000000 ≤ (e.reg ra).toNat → s.faults x e (.jr x ra) 2 (e.reg ra).toNat) ∧
    (e.ctx.pc.toNat % 8 ≠ 0 → s.faults x e (.callr x ra mask) 1 0) ∧
    (s.debugMode = false → s.faults x e (.brk x) 9 0)

/-- R183: a word of zeros or of ones faults with ILLEGAL_INSTR. R218: BRK in STOP or HOLD halts the core with its program
counter at the next instruction. -/
def Obligations.IllegalWordsAndBreakpoints : Prop :=
  ∀ (s : State) (x : At) (e : Env), s.fetches x e → s.decoded e.ctx.pc.toNat x.fetch = .clean →
    (s.core x.core).stepping = false →
    s.faults x e (.illegalInstr x 0) 1 0 ∧ s.faults x e (.illegalInstr x 0xFFFFFFFF) 1 0 ∧
    (s.debugMode = true → ∃ t, Sys2Proof.Machine.exec (.brk x) s = .next t ∧ (t.core x.core).halted = true ∧
      t.ctxOf x.core e.bgd = { e.ctx with pc := e.ctx.pc + 4 } ∧ t.rd (R.CORE_DBGSTAT_HALTSRC.off (0x1000 * x.core)) = 2)

/-- The frame of the instructions that work on their context alone, of a clean word and no single step: everything else is
unchanged but CORE_CYCLES, which has advanced by at most the clocks of R214, and the retired count (R209). The model's
choices in it: log entry 11. -/
def Obligations.ContextInstructionsFrame : Prop :=
  ∀ (s : State) (x : At) (e : Env) (i : Instr) (n : Nat) (rd ra rb : BitVec 5) (c : BitVec 4) (imm : BitVec 15) (k : BitVec 2)
    (up : BitVec 20), s.fetches x e → s.decoded e.ctx.pc.toNat x.fetch = .clean →
    (s.core x.core).stepping = false → badDest rd = false → e.ctx.las ≠ [] → e.ctx.las.length < 16 →
    (i, n) ∈ [(.nop x, 1), (.not x, 1), (.set1 x, 1), (.clr x, 1), (.push x, 1), (.pop x, 1), (.popand x, 1), (.popor x, 1),
      (.popxor x, 1), (.getla x rd, 1), (.putla x ra, 1), (.tstb x ra rb, 1), (.putb x rd ra rb, 1), (.condla x c, 1),
      (.add x rd ra rb, 1), (.adds x rd ra rb, 1), (.sub x rd ra rb, 1), (.subs x rd ra rb, 1), (.cmp x ra rb, 1),
      (.mul x rd ra rb, 3), (.muls x rd ra rb, 3), (.mulh x rd ra rb, 3), (.mulhu x rd ra rb, 3), (.div x rd ra rb, 20),
      (.divu x rd ra rb, 20), (.rem x rd ra rb, 20), (.remu x rd ra rb, 20), (.aluAnd x rd ra rb, 1), (.aluOr x rd ra rb, 1),
      (.aluXor x rd ra rb, 1), (.aluAndn x rd ra rb, 1), (.shl x rd ra rb, 1), (.shr x rd ra rb, 1), (.sar x rd ra rb, 1),
      (.rol x rd ra rb, 1), (.min x rd ra rb, 1), (.max x rd ra rb, 1), (.minu x rd ra rb, 1), (.maxu x rd ra rb, 1),
      (.neg x rd ra, 1), (.abs x rd ra, 1), (.sel x rd ra rb, 1), (.addi x rd ra imm, 1), (.andi x rd ra imm, 1),
      (.ori x rd ra imm, 1), (.xori x rd ra imm, 1), (.cmpi x ra imm, 1), (.shi x rd ra k rb, 1), (.lui x rd up, 1),
      (.fadd x rd ra rb, 4), (.fsub x rd ra rb, 4), (.fmul x rd ra rb, 4), (.fdiv x rd ra rb, 16), (.fmin x rd ra rb, 4),
      (.fmax x rd ra rb, 4), (.fcmp x ra rb, 4), (.fabs x rd ra, 4), (.fneg x rd ra, 4), (.fsqrt x rd ra, 16),
      (.itof x rd ra, 4), (.ftoi x rd ra, 4), (.ftoir x rd ra, 4)] →
    ∃ t, Sys2Proof.Machine.exec i s = .next t ∧ s.contextOnly t x.core e.bgd ∧
      (t.reg (R.CORE_CYCLES + 0x1000 * x.core) - s.reg (R.CORE_CYCLES + 0x1000 * x.core)).toNat ≤ n ∧
      (e.bgd = true → (t.core x.core).retired = (s.core x.core).retired + 1)

/-! ### The module's commands, power states and retain memory (02, 06, 10) -/

/-- 02 R86 to R88, R93, 09 R364, R365: a command of SYS_CMD that the module can accept with none pending becomes pending,
and COLD_CONSENT takes its effect at once. The model's choices in it: log entry 66. -/
def Obligations.ModuleCommandsAreAccepted : Prop :=
  ∀ (s : State) (r : Req), s.accepts r R.SYS_CMD → s.on R.SYS_CMDSTAT_PENDING = false →
    let pending (code : Nat) (t : State) : Prop :=
      t.rd R.SYS_CMDSTAT_CODE = code ∧ t.rd R.SYS_CMDSTAT_REASON = 0 ∧ t.on R.SYS_CMDSTAT_PENDING = true ∧ t.mode = s.mode
    (s.mode = 3 → s.to (.stop r) (pending 1)) ∧
    (s.mode = 2 → (s.paired = true → s.rd R.PAIR_STAT_PEER ≠ 1) → s.startRefusal = none →
      ((s.restartKind true).isSome = true → s.to (.startWarm r) (pending 2)) ∧
      ((s.restartKind false).isSome = true → s.to (.startCold r) (pending 3))) ∧
    (s.mode ≠ 0 → s.to (.persist r) (pending 8)) ∧
    (s.mode = 1 ∨ s.mode = 2 → s.to (.coldConsent r) fun t => t.on R.SYS_STAT_CONSENT = true ∧
      t.rd R.SYS_CMDSTAT_CODE = 9 ∧ t.rd R.SYS_CMDSTAT_REASON = 0) ∧
    (s.mode = 4 → s.rd R.SYS_STRAP_ROLE ≠ 0 → s.pairState ≠ 3 → s.pair.swapAt = none → s.pair.accepted = none →
      s.to (.hold r) (pending 0xA)) ∧
    (s.mode = 5 → s.to (.release r) (pending 0xB)) ∧
    (s.rd R.SYS_STRAP_ROLE ≠ 0 → s.pairState = 1 → s.swapRefusal = 0 →
      s.to (.swap r) fun t => pending 0xC t ∧ t.on R.PAIR_STAT_SWAPPEND = true)

/-- 02 R86, R88: a command the mode does not permit is refused with its reason and changes neither the mode nor the
pending command. The model's choices in it: log entries 70 and 72. -/
def Obligations.ModuleCommandsAreRefused : Prop :=
  ∀ (s : State) (r : Req), s.accepts r R.SYS_CMD →
    let refused (reason : Nat) (t : State) : Prop :=
      t.rd R.SYS_CMDSTAT_REASON = reason ∧ t.on R.SYS_CMDSTAT_PENDING = s.on R.SYS_CMDSTAT_PENDING ∧ t.mode = s.mode
    (s.on R.SYS_CMDSTAT_PENDING = true → s.to (.stop r) (refused 0x21) ∧ s.to (.startWarm r) (refused 0x21) ∧
      s.to (.release r) (refused 0x21)) ∧
    (s.on R.SYS_CMDSTAT_PENDING = false →
      (s.mode = 4 → s.to (.stop r) (refused 0x23) ∧ s.to (.startWarm r) (refused 0x23) ∧ s.to (.startCold r) (refused 0x23)) ∧
      (s.mode = 3 → s.to (.startWarm r) (refused 0x20) ∧ s.to (.release r) (refused 0x20)) ∧
      (s.mode = 2 → s.to (.stop r) (refused 0x20)))

/-- 06 R222 to R229, 08 R298: a power state that the module can take is accepted with PENDING and TARGET, to take effect at the
start of the second stroke after the present one; the state in force needs no transition; PARK is refused as BUSY while a
configuration is being distributed or its switch is pending. The model's choices in it: log entry 62. -/
def Obligations.PowerCommandsAreAccepted : Prop :=
  ∀ (s : State) (r : Req), s.accepts r R.PWR_CMD → s.on R.PWR_STAT_PENDING = false → s.mode = 2 ∨ s.mode = 3 →
    let accepted (p : Nat) (t : State) : Prop :=
      t.on R.PWR_STAT_PENDING = true ∧ t.rd R.PWR_STAT_TARGET = p ∧ t.rd R.PWR_STAT_LASTRSN = 0 ∧
        t.rd R.PWR_STAT_STATE = s.rd R.PWR_STAT_STATE ∧ t.pwr.due = some (s.extStroke + 2)
    (s.pstate ≠ 0 → s.to (.p0 r) (accepted 0)) ∧
    (s.pstate ≠ 1 → s.to (.p1 r) (accepted 1)) ∧
    (s.pstate ≠ 2 → (s.mode = 3 → s.p2Conflict = none) → s.to (.p2 r) (accepted 2)) ∧
    (s.pstate ≠ 3 → s.cfgBusy = false → (s.mode = 3 → s.paired = false) → s.to (.park r) (accepted 3)) ∧
    (s.cfgBusy = true → s.to (.park r) fun t => t.rd R.PWR_STAT_LASTRSN = 0x21 ∧ t.on R.PWR_STAT_PENDING = false) ∧
    (s.pstate = 0 → s.to (.p0 r) fun t => t.rd R.PWR_STAT_LASTRSN = 0 ∧ t.on R.PWR_STAT_PENDING = false) ∧
    (s.pstate ≠ 2 → s.mode = 3 → s.p2Conflict ≠ none → s.to (.p2 r) fun t => t.rd R.PWR_STAT_LASTRSN = 0x29 ∧
      t.on R.PWR_STAT_PENDING = false)

/-- 10 R384 to R387, R390: a store is begun into the slot that does not hold the newest committed generation, is committed
when every bank has copied; after a loss of power recall completes whatever the slots hold, and after another reset the
check of R61 takes its place, or is followed by it. The model's choices in it: log entry 138. -/
def Obligations.RetainStoresAndRecalls : Prop :=
  ∀ (s : State) (r : Req) (us mv uf : Nat) (st : Store) (g : Generation) (crc ue : List (Fin 2)),
    (s.accepts r R.RETAIN_CMD → s.recalled = true → s.on R.RETAIN_STAT_STORING = false →
      s.mode = 2 ∨ s.mode = 3 ∨ s.mode = 6 →
      s.to (.store r) fun t => t.on R.RETAIN_STAT_STORING = true ∧ t.rd R.RETAIN_STAT_LASTRSN = 0 ∧
        t.memory.store.map (fun x => x.cause) = some 1 ∧ t.memory.store.map (fun x => some x.slot) ≠ some s.newestSlot) ∧
    (s.memory.store = some st → st.taken = true → st.slot < 2 → s.slot st.slot = some g →
      s.to (.storeDone us mv) fun t => t.slot st.slot = some { g with committed := true } ∧ t.memory.store = none ∧
        t.on R.RETAIN_STAT_STORING = false ∧ t.rd R.RETAIN_STAT_SLOT = st.slot ∧
        t.rd R.RETAIN_LASTSTORE_US = min us 0xFFFF ∧ (s.pgEn 9 = true → t.shows Ev.retainStoreDone)) ∧
    (s.recalled = false → s.sys.retainDue = 1 → 4 ≤ s.sys.stage → s.sys.latch = false →
      s.to (.recallDone crc ue) fun t => t.recalled = true) ∧
    (s.recalled = false → s.sys.retainDue = 2 → 4 ≤ s.sys.stage →
      (s.to (.retainCheck true) fun t => t.recalled = true ∧ t.mem = s.mem ∧
        t.on R.RETAIN_STAT_VALID = s.on R.RETAIN_STAT_VALID) ∧
      s.to (.retainCheck false) fun t => t.recalled = false ∧ t.sys.retainDue = 1) ∧
    s.to .huready (fun t => t.on R.RETAIN_STAT_HUREADY = true) ∧
    (uf < 65536 → s.sys.latch = false → s.to (.holdupMeasure uf) fun t => t.rd R.RETAIN_HUCAP_UF = uf ∧
      t.on R.RETAIN_STAT_HULOW = decide (uf * 81125 / 1000 < 90000) ∧
      t.on R.RETAIN_STAT_HUCRIT = decide (uf * 81125 / 1000 < 61200))

/-! ### Local inputs and outputs (12) -/

/-- 12 R429, R430, R438, R439, R443: what the local inputs and the diagnostics of the output wires set, clear and count; a disabled
block takes no note of them (03 R103). -/
def Obligations.LocalInputsAndWires : Prop :=
  ∀ (s : State) (n : Fin 32) (ch : Fin 16) (g : Fin 2) (p : Fin 8) (b : Bool) (k : Nat),
    let bit (f : Fld) (m : Nat) (t : State) : Prop := (t.rd f).testBit m = true
    let supply : Fld := if g.val = 0 then R.DIO_STAT_GRPA else R.DIO_STAT_GRPB
    (s.to (.diChange n b) fun t => t.dio.raw.testBit n.val = b ∧ (k ≠ n.val → t.dio.raw.testBit k = s.dio.raw.testBit k)) ∧
    (s.pgEn 0x70 = true → s.to (.inputFilter n) fun t => t.dio.filt.testBit n.val = s.dio.raw.testBit n.val ∧
      (k ≠ n.val → t.dio.filt.testBit k = s.dio.filt.testBit k)) ∧
    (s.pgEn 0x70 = true → bit R.DIO_WBEN_EN n.val s → ¬ bit R.DIO_WB_PRESENT n.val s → s.to (.wireBreak n) fun t =>
      bit R.DIO_WB_PRESENT n.val t ∧ (t.reg R.DIO_WBLATCH).toNat.testBit n.val = true ∧ t.shows Ev.dioWireBreak) ∧
    (s.pgEn 0x70 = true → bit R.DIO_WB_PRESENT n.val s → s.to (.wireOk n) fun t => ¬ bit R.DIO_WB_PRESENT n.val t ∧
      t.shows Ev.dioWireOk) ∧
    (s.pgEn 0x70 = true → bit R.DIO_OWEN_EN ch.val s → s.dio.out.testBit ch.val = false → s.grpSupplied ch.val = true →
      ¬ bit R.DIO_OWFLT_OPEN ch.val s → s.to (.openWire ch) fun t => bit R.DIO_OWFLT_OPEN ch.val t ∧ t.shows Ev.dioOpenWire) ∧
    (s.pgEn 0x70 = true → bit R.DIO_OWFLT_OPEN ch.val s → s.to (.openWireCleared ch) fun t =>
      ¬ bit R.DIO_OWFLT_OPEN ch.val t ∧ t.shows Ev.dioOpenWireCleared) ∧
    (s.to (.groupSupply g b) fun t => t.dio.supply.testBit g.val = b ∧
      (s.pgEn 0x70 = false → t.on supply = s.on supply) ∧
      (s.pgEn 0x70 = true → s.on supply ≠ b → t.on supply = b ∧ t.shows Ev.dioGroupSupply ∧
        (b = false → (ch.val < 8 ↔ g.val = 0) → ¬ bit R.DIO_OWFLT_OPEN ch.val t))) ∧
    (s.to (.surge p) fun t => t.rd (R.DIO_SURGE0_COUNT.off (4 * p.val)) =
        min (s.rd (R.DIO_SURGE0_COUNT.off (4 * p.val)) + 1) 0xFFFF ∧ (s.pgEn 0x70 = true → t.shows Ev.dioSurge))

/-- 12 R434 to R437, R440, R441: the trips of an output channel, its restart, its legs and its safe state. The model's choices
in it: log entries 99 and 198. -/
def Obligations.OutputChannels : Prop :=
  ∀ (s : State) (r : Req) (ch : Fin 16) (temp : Nat) (stuck : Bool) (w : Trip),
    let bit (f : Fld) (t : State) : Prop := (t.rd f).testBit ch.val = true
    let switchesOn (t : State) : Prop :=
      t.trippedOff ch.val = false ∧ t.dio.out.testBit ch.val = true ∧ t.retriesLeft ch.val = s.retriesLeft ch.val - 1
    (s.canTrip ch.val = true →
      (s.retriesLeft ch.val = 0 →
        (s.to (.overload ch) fun t => bit R.DIO_OUTFLT_OL t ∧ t.shows Ev.dioOverload ∧ t.shows Ev.dioOverloadLatched) ∧
        (s.to (.overtemp ch temp) fun t => bit R.DIO_OUTFLT_OT t ∧ t.shows Ev.dioOvertemp ∧ t.shows Ev.dioOverloadLatched)) ∧
      (0 < s.retriesLeft ch.val →
        (s.to (.overload ch) fun t => t.trippedOff ch.val = true ∧ t.latchedOff ch.val = false ∧ t.conducts ch.val = false) ∧
        (s.to (.overtemp ch temp) fun t => t.trippedOff ch.val = true ∧ t.latchedOff ch.val = false ∧
          t.conducts ch.val = false))) ∧
    (s.pgEn 0x70 = true → s.dio.tripped.find? (fun t => t.ch = ch.val) = some w → s.commanded ch.val = true →
      (w.ot = false → s.to (.outputRestart ch) switchesOn) ∧
      (w.ot = true → w.timed = true → s.to (.restartTemperature ch) switchesOn)) ∧
    (s.pgEn 0x70 = true → s.conducts ch.val = true → s.to (.retryReset ch) fun t => t.retriesLeft ch.val = s.rd R.DIO_RETRY_COUNT) ∧
    (s.pgEn 0x70 = true → s.dio.leg1.testBit ch.val = false → ¬ bit R.DIO_LEGS_SPARE s → s.dio.leg2.testBit ch.val = false →
      s.to (.legTest ch (some (0, stuck))) fun t => t.dio.leg1.testBit ch.val = true ∧ t.shows Ev.dioLegFault ∧
        (s.on R.DIO_CTL_LEGSPARE = true → t.dio.sparing.testBit ch.val = true)) ∧
    (s.pgEn 0x70 = true → s.dio.leg2.testBit ch.val = false → s.to (.legTest ch (some (1, stuck))) fun t =>
      t.dio.leg2.testBit ch.val = true ∧ t.shows Ev.dioLegFault) ∧
    (s.pgEn 0x70 = true → s.dio.sparing.testBit ch.val = true → s.to (.legSpared ch) fun t => bit R.DIO_LEGS_SPARE t ∧
      t.dio.sparing.testBit ch.val = false ∧ t.shows Ev.dioLegSpared) ∧
    (s.accepts r R.DIO_CMD → s.dio.leg1.testBit ch.val = true → ¬ bit R.DIO_LEGS_SPARE s → ¬ bit R.DIO_LEGS_FAILED s →
      s.to (.spareLeg r ch) fun t => t.rd R.DIO_STAT_LASTRSN = 0 ∧ bit R.DIO_LEGS_SPARE t ∧ t.shows Ev.dioLegSpared) ∧
    (s.accepts r R.DIO_CMD → s.dio.leg1.testBit ch.val = false → s.to (.spareLeg r ch) fun t =>
      t.rd R.DIO_STAT_LASTRSN = 0x0C) ∧
    (s.pgEn 0x70 = true → s.on R.DIO_STAT_DRIVING = true → s.on R.DIO_STAT_SAFE = false → s.to .safeEntered fun t =>
      t.on R.DIO_STAT_SAFE = true ∧ t.shows Ev.dioSafeEntered ∧
        (t.dio.out.testBit ch.val = true ↔ s.safeMask.testBit ch.val = true ∧ s.latchedOff ch.val = false ∧
          s.trippedOff ch.val = false ∧ s.legServes ch.val = true))

/-! ### The status panel (13) -/

/-- 13 R445, R451, R455 to R458, R460: updates start, or wait as due, and the data registers reach their words. The model's
choices in it: log entries 100 and 202. -/
def Obligations.PanelUpdatesStart : Prop :=
  ∀ (s : State) (r : Req) (v : Word),
    let kind (u : Option PanelUpdate) : Option Nat := u.map fun x => x.kind
    let started (k : Nat) (t : State) : Prop := kind t.panel.main = some k ∧ t.on R.PANEL_STAT_HOSTBUSY = true ∧
      t.rd R.PANEL_STAT_LASTRSN = s.rd R.PANEL_STAT_LASTRSN ∧ t.panel.rails ≠ .off
    let mordantStarted (t : State) : Prop := kind t.panel.mord = some 4 ∧ t.panel.mordDue = false ∧
      t.on R.PANEL_STAT_MORDBUSY = true ∧ t.panel.rails ≠ .off
    let w : Nat := s.rd (s.bf r R.PANEL_WADDR_WORD)
    let m : Nat := s.rd (s.bf r R.PANEL_MWADDR_WORD)
    (s.accepts r R.PANEL_CMD → s.panelReady = true → s.mode ≠ 0 → s.mode ≠ 7 →
      (s.panel.main = none → s.panel.request = none → s.to (.clear r) (started 1)) ∧
      (s.panel.main = none → s.panel.request = none → s.on R.PANEL_STAT_CLEARED = true → s.to (.full r) (started 2)) ∧
      (s.panel.main = none → s.panel.request = none → s.panelKnown = true → s.rectOk = true →
        s.to (.partialUpdate r) (started 3)) ∧
      (s.panel.request ≠ none → s.to (.clear r) fun t => t.rd R.PANEL_STAT_LASTRSN = 0x21 ∧
        t.panel.request = s.panel.request) ∧
      (s.panel.main ≠ none → s.panel.request = none → s.to (.clear r) fun t => t.panel.request = some 1 ∧
        t.on R.PANEL_STAT_PENDING = true ∧ t.panel.main = s.panel.main) ∧
      (s.panel.mord = none → s.panel.mordDue = false → s.panelKnown = true → s.on R.PANEL_MCTL_EN = true →
        s.to (.mordant (some r)) mordantStarted)) ∧
    (s.panel.mord = none → s.panel.mordDue = true → s.panelReady = true → s.panelKnown = true →
      s.on R.PANEL_MCTL_EN = true → s.mode ≠ 0 → s.to (.mordant none) mordantStarted) ∧
    (s.panelReady = true → s.on R.PANEL_STAT_CLEARED = false → s.panel.main = none → s.mode ≠ 0 → s.mode ≠ 7 →
      7 ≤ s.sys.stage → s.to .initialClear fun t =>
      kind t.panel.main = some 1 ∧ t.on R.PANEL_STAT_HOSTBUSY = true ∧ t.panel.rails ≠ .off) ∧
    (s.rd R.PANEL_CFG_REFRESH ≠ 0 → s.panel.refreshDue = false →
      (s.panel.main ≠ none → s.to .refresh fun t => t.panel.refreshDue = true ∧ t.panel.main = s.panel.main) ∧
      (s.panel.main = none → s.panel.mord = none → s.panel.request = none → s.panelReady = true → s.panelKnown = true →
        s.mode ≠ 0 → s.mode ≠ 7 → s.to .refresh fun t => t.panel.refreshDue = false ∧ kind t.panel.main = some 5)) ∧
    (s.panel.mordDue = true → s.pgEn 0x71 = true → s.to (.refreshLate v.toNat) fun t => t.shows Ev.panelRefreshLate) ∧
    (s.accepts r R.PANEL_WDATA → s.to (.panelWdata r (some v)) fun t =>
      SMap.get (fun _ => 0) t.panel.hostPlane w = v ∧ t.rd (s.bf r R.PANEL_WADDR_WORD) = wrapNext w s.planeWords) ∧
    (s.answers r R.PANEL_WDATA → s.to (.panelWdata r none) fun t =>
      t.returned r R.PANEL_WDATA (SMap.get (fun _ => 0) s.panel.hostPlane w) ∧
        t.rd (s.bf r R.PANEL_WADDR_WORD) = wrapNext w s.planeWords) ∧
    (s.accepts r R.PANEL_MWDATA → m < 672 → s.to (.panelMwdata r (some v)) fun t =>
      SMap.get (fun _ => 0) t.panel.bitmap m = v ∧ t.rd (s.bf r R.PANEL_MWADDR_WORD) = wrapNext m s.bitmapWords) ∧
    (s.answers r R.PANEL_MWDATA → s.to (.panelMwdata r none) fun t =>
      t.returned r R.PANEL_MWDATA (SMap.get (fun _ => 0) s.panel.bitmap m))

/-- 13 R446 to R448, R452, R459: the rails come up and go down one by one, and a frame boundary drives, or ends, an update. -/
def Obligations.PanelFramesAndRails : Prop :=
  ∀ (s : State) (n : Nat) (rail : Fin 5) (u : PanelUpdate),
    (s.panel.rails = .rising n →
      (n < 4 → s.to .railsup fun t => t.panel.rails = .rising (n + 1) ∧ t.on R.PANEL_STAT_RAILSUP = s.on R.PANEL_STAT_RAILSUP) ∧
      (4 ≤ n → s.to .railsup fun t => t.panel.rails = .up ∧ t.on R.PANEL_STAT_RAILSUP = true)) ∧
    (s.panel.rails = .falling n →
      (1 < n → s.to .railsDown fun t => t.panel.rails = .falling (n - 1)) ∧
      (n ≤ 1 → s.panel.main = none → s.panel.mord = none → s.to .railsDown fun t => t.panel.rails = .off) ∧
      (n ≤ 1 → s.panel.main ≠ none → s.to .railsDown fun t => t.panel.rails = .rising 0)) ∧
    (s.panel.rails ≠ .off → s.to (.railFault rail) fun t => t.panel.main = none ∧ t.panel.mord = none ∧
      t.on R.PANEL_STAT_DIRTY = true ∧ t.on R.PANEL_STAT_RAILSUP = false ∧ t.panel.rails ≠ .up ∧
      (s.pgEn 0x71 = true → t.shows Ev.panelRailFault)) ∧
    (s.pgEn 0x71 = true → s.panel.main = some u →
      (s.panel.rails = .up → u.frame < s.updateFrames u →
        s.to .panelFrame fun t => t.panel.main = some { u with frame := u.frame + 1 } ∧ t.panel.rails = .up) ∧
      (s.updateFrames u ≤ u.frame → s.panel.mord = none → s.panel.mordDue = false → s.panel.request = none →
        s.panel.refreshDue = false → s.on R.PANEL_MCTL_EN = false → s.to .panelFrame fun t => t.panel.main = none ∧
          t.on R.PANEL_STAT_HOSTBUSY = false ∧ t.shows Ev.panelUpdateDone ∧ t.panel.rails ≠ .up))

/-! ### Clocks, the watchdog and the calendar (14, 15) -/

/-- 02 R64, R66, 14 R465 to R478, 15 R501: sources and their ready flags, the PLL, its reference, CLKOUT and the frequency counter. -/
def Obligations.ClocksAndMeasurements : Prop :=
  ∀ (s : State) (r : Req) (src : Fin 12) (k ms count : Nat) (ref : BitVec 2) (en : Bool) (o : BitVec 4) (div : BitVec 12),
    let outcome (n reason : Nat) (t : State) : Prop := t.rd R.FMC_STAT_OUTCOME = n ∧ t.rd R.FMC_STAT_REASON = reason
    let inUse : Nat := refSource (s.rd R.CLK_STAT_PLLREF)
    (0 < src.val → src.val < 5 → s.on R.CLK_STAT_COAST = false →
      (s.to (.readyChange src true) fun t => t.ready src.val = true ∧ (k < 12 → k ≠ src.val → t.ready k = s.ready k)) ∧
      (inUse ≠ src.val → s.to (.readyChange src false) fun t => t.ready src.val = false ∧
        (k < 12 → k ≠ src.val → t.ready k = s.ready k) ∧ t.on R.CLK_STAT_LOCK = s.on R.CLK_STAT_LOCK)) ∧
    (s.on R.CLK_STAT_LOCK = true → s.to .refLost fun t => t.on R.CLK_STAT_LOCK = false ∧ t.on R.CLK_STAT_COAST = true ∧
      t.ready inUse = false) ∧
    (s.on R.CLK_STAT_LOCK = false → s.sys.latch = false →
      (s.sys.stage = 2 → s.to .refclkReady fun t => t.ready 1 = true ∧ t.sys.stage = 3) ∧
      (s.sys.stage = 3 → s.on R.SYS_RSTCFG_BUSREF = false → s.to .pllLockTimeout fun t => t.sys.hpOut = true ∧
        t.rd R.SYS_STOPRSN_CODE = 5) ∧
      (s.on R.CLK_STAT_COAST = true → s.on R.CLK_STAT_RUN = true → s.ready inUse = true → s.to (.pllLock ms) fun t =>
        t.on R.CLK_STAT_LOCK = true ∧ t.on R.CLK_STAT_COAST = false) ∧
      (s.sys.stage = 3 → s.mode ≠ 7 → s.on R.CLK_STAT_COAST = false → s.on R.CLK_STAT_RUN = false →
        s.ready (refSource (s.rd R.CLK_SEL_PLLREF)) = true → s.to (.pllLock ms) fun t => t.on R.CLK_STAT_LOCK = true ∧
          t.on R.CLK_STAT_RUN = true ∧ t.rd R.CLK_STAT_PLLREF = s.rd R.CLK_SEL_PLLREF ∧ t.sys.stage = 4 ∧
          (5 ≤ k → k < 11 → t.ready k = true))) ∧
    (s.accepts r R.CLK_SEL → s.mode = 2 ∨ s.mode = 6 → ref.toNat < 3 → ref.toNat ≠ s.rd R.CLK_SEL_PLLREF →
      s.ready (refSource ref.toNat) = true → s.to (.clkSel r ref) fun t => t.rd R.CLK_SEL_PLLREF = ref.toNat ∧
        t.rd R.CLK_STAT_PLLREF = ref.toNat ∧ t.rd R.CLK_STAT_LASTRSN = 0 ∧ t.on R.CLK_STAT_COAST = true ∧
        t.on R.CLK_STAT_LOCK = false) ∧
    (s.accepts r R.CLK_OUTCTL → o.toNat < 12 → s.ready o.toNat = true → s.sourceHz o.toNat ≤ 125000000 * (div.toNat + 1) →
      s.to (.clkoutSet r en o div) fun t => t.on R.CLK_OUTCTL_EN = en ∧ t.rd R.CLK_OUTCTL_SRC = o.toNat ∧
        t.rd R.CLK_OUTCTL_DIV = div.toNat ∧ t.shows Ev.clkClkoutSet) ∧
    (s.accepts r R.FMC_CMD →
      (s.fmcRuns = false → s.ready (s.rd R.FMC_CTL_MEAS) = true → s.ready (s.rd R.FMC_CTL_REF) = true →
        s.to (.fmcStart r) (outcome 1 0)) ∧
      (s.fmcRuns = true → (s.to (.fmcStart r) fun t => t.rd R.FMC_STAT_REASON = 0x21 ∧ t.fmcRuns = true) ∧
        s.to (.fmcAbort r) (outcome 4 0))) ∧
    (s.fmcRuns = true → (s.to (.fmcDone count) fun t => outcome 2 0 t ∧ t.rd R.FMC_COUNT_COUNT = min count 0xFFFFFFFF) ∧
      s.to .fmcTimeout (outcome 3 0x31)) ∧
    (s.to .oscStop fun t => t.on R.RTC_STAT_VALID = false ∧ t.on R.RTC_STAT_OSCSTOP = true ∧ t.ready 2 = false ∧
      (s.pgEn 7 = true → t.shows Ev.rtcOscStop))

/-- 14 R479 to R486, 02 R59, R60: services and check-ins are judged against the window; an expiry is a warning first, then
a reset, and so is a stopped clock. The model's choices in it: log entries 82, 93 and 95. -/
def Obligations.WatchdogServicesAndExpiries : Prop :=
  ∀ (s : State) (r : Req) (task : Fin 64) (n : Nat),
    let windowAnew (t : State) : Prop := t.rd R.WDT_COUNT_COUNT = 0 ∧ t.wdtCheckins = 0
    let warned (cause : Nat) (t : State) : Prop := t.rd R.WDT_STAT_STAGE = 1 ∧ t.rd R.WDT_EVCAUSE_STAGE1 = cause ∧
      windowAnew t ∧ t.mode = s.mode ∧ t.shows Ev.wdtWarn
    let resetBy (cause : Fld) (t : State) : Prop := t.on cause = true ∧ t.mode = (if s.rd R.SYS_STRAP_RECOV_N = 0 then 0 else 1) ∧
      t.mem = s.mem ∧ t.rd R.MBX_BOOTCNT_COUNT = (s.rd R.MBX_BOOTCNT_COUNT + 1) % 4294967296 ∧ t.sys.hpOut = false
    let inWindow (c : Nat) : Prop := s.rd R.WDT_OPEN_TICKS ≤ c ∧ c < s.rd R.WDT_PERIOD_TICKS
    (s.accepts r R.WDT_SERVICE → s.wdtCounting = true →
      (inWindow (s.rd R.WDT_COUNT_COUNT) → s.wdtComplete = true → s.to (.service r none) fun t =>
        t.rd R.WDT_STAT_LASTSVC = 1 ∧ t.rd R.WDT_STAT_STAGE = 0 ∧ windowAnew t) ∧
      (s.on R.WDT_CTL_CLKSEL = true → s.on R.WDT_STAT_FROZEN = false → n < 4294967296 → inWindow n → s.wdtComplete = true → s.to (.service r (some n)) fun t =>
        t.rd R.WDT_STAT_LASTSVC = 1 ∧ t.rd R.WDT_STAT_STAGE = 0 ∧ windowAnew t) ∧
      (inWindow (s.rd R.WDT_COUNT_COUNT) → s.wdtComplete = false → s.to (.service r none) fun t =>
        t.rd R.WDT_STAT_LASTSVC = 3 ∧ t.rd R.WDT_COUNT_COUNT = s.rd R.WDT_COUNT_COUNT ∧ t.wdtCheckins = s.wdtCheckins ∧
          t.shows Ev.wdtIncomplete) ∧
      (s.rd R.WDT_COUNT_COUNT < s.rd R.WDT_OPEN_TICKS → s.rd R.WDT_STAT_STAGE = 0 → s.to (.service r none) fun t =>
        t.rd R.WDT_STAT_LASTSVC = 2 ∧ warned 2 t)) ∧
    (s.accepts r R.WDT_CHECKIN → isCore r = true →
      (s.wdtExpect.testBit task.val = true → s.wdtCheckins.testBit task.val = false → s.to (.checkin r task) fun t =>
        t.wdtCheckins.testBit task.val = true ∧ t.rd R.WDT_COUNT_COUNT = s.rd R.WDT_COUNT_COUNT) ∧
      (s.wdtExpect.testBit task.val = false → s.to (.checkin r task) fun t => t.wdtCheckins = s.wdtCheckins ∧
        t.rd R.WDT_STAT_STRAY = min (s.rd R.WDT_STAT_STRAY + 1) 255 ∧ t.shows Ev.wdtStrayCheckin)) ∧
    (s.wdtCounting = true → s.sys.stage ≠ 0 →
      (s.on R.WDT_STAT_FROZEN = false →
        (s.rd R.WDT_STAT_STAGE = 0 → s.to .expiry (warned 1)) ∧
        (s.rd R.WDT_STAT_STAGE ≠ 0 → s.to .expiry (resetBy R.SYS_RSTCAUSE_WDT))) ∧
      s.to .monitorReset (resetBy R.SYS_RSTCAUSE_CLKMON))

/-- 15 R488 to R499: setting, arming, counting and reading the calendar. The model's choices in it: log entries 97 and 98. -/
def Obligations.CalendarCommands : Prop :=
  ∀ (s : State) (r : Req) (n : Nat) (ppm10 : BitVec 16) (g : List Word),
    let shown (secs : Nat) (t : State) : Prop := t.rtc.secs = secs ∧
      (List.range 8).map (fun i => t.reg (R.RTC_SEC + 4 * i)) = timeGroup secs
    (s.accepts r R.RTC_CTL →
      (checkTime (s.reg R.RTC_STGTIME) (s.reg R.RTC_STGDATE) = .ok n → s.to (.rtcCommit r) fun t => shown n t ∧
        t.on R.RTC_STAT_VALID = true ∧ t.rd R.RTC_STAT_LASTRSN = 0 ∧ t.shows Ev.rtcCommitted) ∧
      (checkTime (s.reg R.RTC_STGTIME) (s.reg R.RTC_STGDATE) = .error n → n < 256 → s.to (.rtcCommit r) fun t =>
        t.rtc.secs = s.rtc.secs ∧ t.rd R.RTC_STAT_LASTRSN = n ∧ t.shows Ev.rtcCommitRefused) ∧
      (checkTime (s.reg R.RTC_ALMTIME) (s.reg R.RTC_ALMDATE) = .ok n →
        (s.rtc.secs < n → s.to (.arm r) fun t => t.on R.RTC_STAT_ARMED = true ∧ t.rd R.RTC_STAT_LASTRSN = 0) ∧
        (n ≤ s.rtc.secs → s.to (.arm r) fun t => t.on R.RTC_STAT_ARMED = s.on R.RTC_STAT_ARMED ∧
          t.rd R.RTC_STAT_LASTRSN = 6 ∧ t.shows Ev.rtcAlarmRefused)) ∧
      (s.to (.disarm r) fun t => t.on R.RTC_STAT_ARMED = false ∧ t.rtc.secs = s.rtc.secs)) ∧
    (s.rtc.secs + 1 < calendarSpan →
      (s.to .secondIncrement (shown (s.rtc.secs + 1))) ∧
      (s.on R.RTC_STAT_ARMED = true → s.alarmSecs = some (s.rtc.secs + 1) → s.to .secondIncrement fun t =>
        t.on R.RTC_STAT_ARMED = false ∧ t.on R.RTC_STAT_ALMF = true ∧ t.on R.RTC_STAT_SKIPPED = false)) ∧
    (s.rtc.secs + 1 = calendarSpan → s.to .secondIncrement fun t => shown 0 t ∧ t.on R.RTC_STAT_VALID = false ∧
      t.on R.RTC_STAT_RANGE = true) ∧
    (s.answers r R.RTC_SEC → s.to (.rtcSec r) fun t => t.returned r R.RTC_SEC (s.reg R.RTC_SEC) ∧
      t.rtcShadow r = some ((List.range 8).map fun i => s.reg (R.RTC_SEC + 4 * i))) ∧
    (s.answers r R.RTC_YEAR_HI → s.rtcShadow r = some g → s.to (.rtcYearHi r) fun t =>
      t.returned r R.RTC_YEAR_HI (g.getD 7 0) ∧ t.rtcShadow r = none) ∧
    (s.answers r R.RTC_YEAR_HI → s.rtcShadow r = none → s.to (.rtcYearHi r) fun t =>
      t.returned r R.RTC_YEAR_HI (s.reg R.RTC_YEAR_HI)) ∧
    (s.rtcShadow r = some g → s.to (.shadowRelease r) fun t => t.rtcShadow r = none ∧ t.on R.RTC_STAT_SHREL = true ∧
      (s.pgEn 7 = true → t.shows Ev.rtcShadowRelease)) ∧
    (s.accepts r R.RTC_TRIM → -2000 ≤ ppm10.toInt → ppm10.toInt ≤ 2000 → s.to (.trimSet r ppm10) fun t =>
      t.rd R.RTC_TRIM_PPM10 = ppm10.toNat ∧ t.rtc.trimNew = true)

/-! ### Power-on, resets and supplies (02, 06) -/

/-- 02 R55 to R57, R64 to R66, R72 to R75, R95, 08 "FBC page": the steps from power-on to the end of INIT, each taken when the
step before it has passed. The model's choices in it: log entries 2, 4, 6, 86, 88, 163, 164 and 165. -/
def Obligations.PowerOnSequence : Prop :=
  ∀ (s : State) (b recov1 : Bool) (role : Fin 4) (delay : Fin 8) (w h k : Nat) (tbl : List Byte)
    (paths failed : BitVec 5) (banks : BitVec 17) (pa : BitVec 4) (v : Word),
    let recov : Fin 2 := if recov1 then 1 else 0
    (s.sys.stage = 0 → s.to (.powerOn b v.toNat) fun t => t.sys.stage = 1 ∧ t.mode = 1 ∧
      t.rd R.RTC_VBAT_MIN = min v.toNat 0xFFFF ∧ t.on R.SYS_RSTCAUSE_POWERON = true ∧
      t.mem = [] ∧ t.tb = 0 ∧ t.prog = none ∧ t.sys.hpOut = false) ∧
    (s.sys.latch = false →
      (s.sys.stage = 1 → s.to (.strapInstant role recov delay) fun t => t.sys.stage = 2 ∧ t.rd R.SYS_STRAP_ROLE = role.val ∧
        t.rd R.SYS_STRAP_RECOV_N = recov.val ∧ t.rd R.SYS_STRAP_XTAL_DELAY = delay.val ∧
        t.mode = (if recov1 then s.mode else 0)) ∧
      (s.sys.stage = 2 → s.to .refclkReady fun t => t.sys.stage = 3 ∧ t.ready 1 = true) ∧
      (s.sys.stage = 3 → s.on R.CLK_STAT_LOCK = false →
        (s.on R.SYS_RSTCFG_BUSREF = false → s.to .pllLockTimeout fun t => t.sys.stage = 3 ∧ t.sys.hpOut = true ∧
          t.rd R.SYS_STOPRSN_CODE = 5 ∧ t.mode = s.mode) ∧
        (s.on R.SYS_RSTCFG_BUSREF = true → s.rd R.CLK_SEL_PLLREF = 0 → s.ready 3 = true → s.to .pllLockTimeout fun t =>
          t.rd R.CLK_SEL_PLLREF = 1 ∧ t.sys.stage = 3)) ∧
      (4 ≤ s.sys.stage → s.to .hpErrRelease fun t => t.sys.hpOut = true ∧ t.sys.stage = s.sys.stage) ∧
      (s.mode = 1 →
        (s.sys.stage = 4 → (s.region 1).staged = none → (s.region 1).activeB = false →
          ((s.region 1).a.state = 1 → (s.region 1).floor ≤ (s.region 1).a.version → s.to (.boot2Verified true b) fun t =>
            t.sys.stage = 5 ∧ t.mode = 1) ∧
          (s.to (.boot2Verified false false) fun t => t.sys.stage = 4 ∧ t.mode = 0 ∧ t.rd R.SYS_STOPRSN_CODE = 0x12 ∧
            t.rd R.SYS_STOPRSN_ARG = 1)) ∧
        (s.sys.stage = 5 → (([2, 3, 4, 5].all fun n => (s.region n).staged == none && !(s.region n).activeB &&
            (s.region n).a.state == 1 && decide ((s.region n).floor ≤ (s.region n).a.version)) = true) →
          w < 1024 → h < 512 → s.to (.regionsLoaded 15 pa w h tbl [(R.FBC_PAYLOAD, v)]) fun t => t.sys.stage = 6 ∧
            t.panel.table = tbl ∧ t.rd R.PANEL_GEOM_WIDTH = w ∧ t.rd R.PANEL_GEOM_HEIGHT = h ∧ t.mode = 1 ∧
            t.rd R.FBC_PAYLOAD_BYTES = bitsOf v 10 0 ∧ t.rd R.FBC_PAYLOAD_BYTES.live = bitsOf v 10 0) ∧
        (s.sys.stage = 6 → s.to (.selfTestComplete paths failed banks b recov1 true) fun t => t.sys.stage = 7 ∧
          t.rd R.SYS_FLOOR_PATHS = paths.toNat ∧ (k < 17 → t.on (R.MEM_BANK_OK.off (4 * k)) = banks.getLsbD k) ∧
          t.works .sram = t.banksWork ∧ t.works .evtCox = b ∧ t.works .io = (recov1 || s.anyWorking) ∧
          t.works .loop = true ∧ t.works .pll = s.on R.CLK_STAT_LOCK ∧ t.works .retain = s.recalled ∧
          t.on R.SYS_FLOOR_DIAG = t.diagMet) ∧
        (s.sys.stage = 7 → b = true ∧ (s.region 8).a.state = 1 → s.to (.programLoaded b recov1) fun t => t.sys.stage = 8 ∧
          (t.sys.loadRsn = (s.loadBytes (s.region 8).a.payload s.markedTxs).1) ∧
          (t.sys.loadRsn ≠ 0 → t.prog = none) ∧ t.memory.ledger = []) ∧
        (s.sys.stage = 8 → s.diagMet = true → s.sys.initStrokes = 64 ∨ s.syncState = 4 ∨ s.syncState = 5 →
          (s.umpire = true → s.on R.CLK_STAT_LOCK = true) → s.to .initEnd fun t =>
          t.sys.stage = 9 ∧ t.on R.SYS_STAT_INITDONE = true ∧ t.mode = (if s.umpire then 6
            else if s.rd R.SYS_PONTGT_MODE = 7 ∧ s.on R.SYS_FLOOR_CONTROL = true ∧ s.fbc.conflict = false then 7 else 2))))

/-- 02 R64, R72 to R76: the self-test evaluates the floors; an element of them changes, or the service paths are tried again,
and the floors follow; in RUN and TRACK the loss of the control floor asks for STOP, and INIT without it ends in STOP. The
model's choices in it: log entries 87, 163 and 164. -/
def Obligations.FloorsFollowTheirElements : Prop :=
  ∀ (s : State) (e : FloorElem) (b host eth1 radio : Bool) (bank : Fin 16) (paths failed : BitVec 5) (banks : BitVec 17),
    let follows (t : State) : Prop := t.on R.SYS_FLOOR_DIAG = t.diagMet ∧
      t.on R.SYS_FLOOR_CONTROL = (t.diagMet && t.floorMissing.isNone)
    (7 ≤ s.sys.stage →
      (e ≠ .io → e ≠ .sram → s.works e ≠ b → s.to (.floorChange ⟨e, bank⟩ b) fun t => t.works e = b ∧ follows t ∧
        (s.on R.SYS_FLOOR_CONTROL = true → t.on R.SYS_FLOOR_CONTROL = false → s.mode = 3 ∨ s.mode = 4 →
          t.sys.stopReqs = s.sys.stopReqs ++ [t.floorMissing.getD 0])) ∧
      (s.to (.floorChange ⟨.io, bank⟩ b) fun t => t.sys.localIo = b ∧ t.works .io = (b || s.anyWorking)) ∧
      (s.to (.floorChange ⟨.sram, bank⟩ b) fun t => t.on (R.MEM_BANK_OK.off (4 * bank.val)) = b ∧ t.works .sram = t.banksWork ∧
        t.works .core = t.coresWork ∧ follows t)) ∧
    (s.mode = 1 → s.sys.stage = 6 → s.sys.latch = false →
      s.to (.selfTestComplete paths failed banks host eth1 radio) fun t => t.sys.stage = 7 ∧
        t.rd R.SYS_FLOOR_PATHS = paths.toNat ∧ t.on R.SYS_FLOOR_DIAG = t.diagMet) ∧
    (s.mode = 1 → s.sys.stage = 8 → s.sys.latch = false → s.umpire = false → s.diagMet = true → s.sys.initStrokes = 64 →
      s.on R.SYS_FLOOR_CONTROL = false → s.to .initEnd fun t => t.sys.stage = 9 ∧ t.mode = 2) ∧
    (s.mode = 1 → 7 ≤ s.sys.stage → s.diagMet = false → s.to (.pathRetry host eth1 radio) fun t =>
      t.works .hostPort = host ∧ t.works .eth1 = eth1 ∧ t.works .radio = radio ∧ t.works .rom = s.works .rom)

/-- 02 R55, R59 to R64, 06 R245, 17 R544: a supply failure latches; the resets, and what each leaves of memory and of the mode;
the straps are sampled and HP_ERR_n is released after one. The model's choices in it: log entries 2, 4, 53, 64, 82, 83, 179 and
195. -/
def Obligations.ResetsAndSupplies : Prop :=
  ∀ (s : State) (r : Req) (mv : Nat) (b radio : Bool) (n : Fin 256) (q : BitVec 16) (role : Fin 4) (delay : Fin 8),
    let resetAs (cause : Fld) (stage : Nat) (t : State) : Prop := t.on cause = true ∧ t.sys.stage = stage ∧ t.mem = s.mem ∧
      t.prog = none ∧ t.rd R.MBX_BOOTCNT_COUNT = (s.rd R.MBX_BOOTCNT_COUNT + 1) % 4294967296 ∧
      t.pending = s.pending ∧ t.sys.hpOut = false
    let warm : Nat := if s.ready 1 then 3 else 2
    (s.sys.latch = false → s.sys.stage ≠ 0 →
      (s.to (.supplyFail mv) fun t => t.sys.latch = true ∧ t.sys.hpOut = false ∧ t.panel.main = none ∧
        t.panel.rails = .off ∧ (s.recalled = true → s.memory.store = none → t.memory.store.map (fun x => x.cause) = some 2)) ∧
      (s.to .rstN fun t => resetAs R.SYS_RSTCAUSE_RSTN 1 t ∧ t.mode = 1) ∧
      (s.accepts r R.SYS_CMD → s.on R.SYS_CMDSTAT_PENDING = false → s.mode = 2 ∨ s.mode = 7 → s.sys.resetDue = none →
        s.rd R.SYS_STRAP_RECOV_N = 1 → s.to (.reset r) fun t => resetAs R.SYS_RSTCAUSE_HOSTCMD warm t ∧ t.mode = 1) ∧
      (s.mode = 0 → s.sys.latch = false → s.to (.reboot (.frame radio n q true)) (resetAs R.SYS_RSTCAUSE_HOSTCMD warm)) ∧
      (s.mode = 0 → s.accepts r R.UPD_CMD → isCore r = false → s.sys.resetDue = none →
        s.to (.reboot (.command r)) (resetAs R.SYS_RSTCAUSE_HOSTCMD warm)) ∧
      (s.sys.stage = 1 → s.to (.strapInstant role 1 delay) fun t => t.sys.stage = 2 ∧ t.mode = s.mode ∧
        t.rd R.SYS_STRAP_ROLE = role.val) ∧
      (4 ≤ s.sys.stage → s.to .hpErrRelease fun t => t.sys.hpOut = true ∧ t.mode = s.mode)) ∧
    (s.sys.stage = 0 → s.to (.powerOn b mv) fun t => t.on R.SYS_RSTCAUSE_POWERON = true ∧ t.sys.stage = 1 ∧ t.mode = 1 ∧
      t.mem = [] ∧ t.tb = 0) ∧
    (s.sys.latch = false → (s.pgEn 2 = true →
      (s.to (.vinLow mv) fun t => t.shows Ev.pwrVinLow) ∧ (s.to (.voutaLow mv) fun t => t.shows Ev.pwrVoutaLow) ∧
      (s.to (.voutbLow mv) fun t => t.shows Ev.pwrVoutbLow))) ∧
    (s.sys.latch = true → s.to (.supplyReturn b mv) fun t => t.on R.SYS_RSTCAUSE_SUPPLYRET = true ∧ t.sys.latch = false ∧
      t.sys.stage = 1 ∧ t.mode = 1 ∧ t.mem = [] ∧ t.tb = 0) ∧
    (s.cmdPending 8 = true →
      (s.on R.FLASH_STAT_READONLY = false → s.to (.persistDone [] []) fun t => t.sys.copy0 = some s.settingsNow ∧
        t.sys.copy1 = some s.settingsNow ∧ t.on R.SYS_CMDSTAT_PENDING = false ∧ t.rd R.SYS_CMDSTAT_REASON = 0) ∧
      (s.on R.FLASH_STAT_READONLY = true → s.to (.persistDone [] []) fun t => t.sys.copy0 = s.sys.copy0 ∧
        t.sys.copy1 = s.sys.copy1 ∧ t.on R.SYS_CMDSTAT_PENDING = false ∧ t.rd R.SYS_CMDSTAT_REASON = 0x28))

/-! ### The Marshal, spares and the recorder (16) -/

/-- 16 R503 to R509, R523, 02 R67: mailbox commands are queued, carried out in turn, cancelled, timed out and answered; a signed
one only when its signature and nonce verify. The model's choices in it: log entries 22, 106 and 178. -/
def Obligations.MailboxCommands : Prop :=
  ∀ (s : State) (r : Req) (c : MbxCmd) (rest : List MbxCmd) (late : Bool) (id : Fin 65536) (x : MbxResult),
    let ended (outcome : Nat) (l : Bool) (reason : Nat) (resp : List Byte) (t : State) : Prop :=
      t.mbx.cmds = s.mbx.cmds.filter (fun y => y.id != c.id) ∧
      t.mbx.results.head? = some ⟨c.id, outcome, l, reason, resp, resp.length⟩ ∧ t.shows Ev.mbxCmdDone
    let code : Nat := s.rd (s.bf r R.MBX_CMDHDR_CODE)
    let next : Nat := (s.mbx.nextId + 1) % 65536
    let clear : Nat := (s.mbxVerify c rightClear).1
    let recover : Nat := (s.mbxVerify c rightRecovery).1
    (s.accepts r R.MBX_SUBMIT → hostSide r = true →
      (mbxKnown code = true → (s.mbxWritten r).length = s.rd (s.bf r R.MBX_CMDHDR_LEN) →
        (mbxSigned code = true → (s.mbxWritten r).length = signedLen) → s.mbxMode r code = true → s.ledgerFree .mbx = true →
        s.to (.mbxSubmit r) fun t => t.mbx.cmds = s.mbx.cmds ++ [⟨next, s.bank r, code, s.mbxWritten r⟩] ∧
          t.mbx.nextId = next ∧ t.rd (s.bf r R.MBX_SUBSTAT_CMDID) = next ∧ t.rd (s.bf r R.MBX_SUBSTAT_LASTRSN) = 0 ∧
          t.mbxWritten r = []) ∧
      (s.mbxPending (s.rd (s.bf r R.MBX_SEL_CMDID)) = some c → s.to (.mbxCancel r) (ended 2 false 7 [])) ∧
      (s.mbxPending (s.rd (s.bf r R.MBX_SEL_CMDID)) = none → s.to (.mbxCancel r) fun t => t.mbx = s.mbx ∧
        t.rd (s.bf r R.MBX_SUBSTAT_LASTRSN) = 0x0C)) ∧
    (s.pgEn 0x0F = true →
      (s.mbxPending id.val = some c → s.to (.deadline id) (ended 2 false 1 [])) ∧
      (s.mbx.cmds = c :: rest →
        (c.code = 0x01 → s.to (.echo late) (ended 1 late 0 c.payload)) ∧
        (c.code = 0x20 → s.to (.sensorSnapshot late) (ended 1 late 0
          ((List.range 20).flatMap fun n => toBytes 4 (s.reg (R.MBX_SENSOR + 4 * n)).toNat))) ∧
        (c.code = 0x21 → s.to (.spareReport late) (ended 1 late 0 ((List.range 7).flatMap fun k =>
          toBytes 4 (s.reg (R.SPARE_AVAIL + 8 * k)).toNat ++ toBytes 4 (s.reg (R.SPARE_SUBST + 8 * k)).toNat))) ∧
        (c.code = 0x30 → s.to (.closeSessions late) fun t => ended 1 late 0 [] t ∧ t.mbx.sessions = []) ∧
        (c.code = 0x11 → s.to (.logClear late) fun t =>
          if clear = 0 then ended 1 late 0 [] t ∧ t.recorder.log = [] ∧
            t.rd R.LOG_CLEARCNT_COUNT = (s.rd R.LOG_CLEARCNT_COUNT + 1) % 4294967296
          else ended 2 false clear [] t ∧ t.recorder.log = s.recorder.log) ∧
        (c.code = 0x10 → s.sys.latch = false → s.sys.stage ≠ 0 → s.to (.enterRecovery late) fun t =>
          if recover = 0 then t.mode = 0 ∧ t.on R.SYS_RSTCAUSE_HOSTCMD = true ∧ t.mbx.cmds = []
          else ended 2 false recover [] t ∧ t.mode = s.mode))) ∧
    (s.answers r R.MBX_RDATA → s.mbxResult (s.rd (s.bf r R.MBX_SEL_CMDID)) = x → 4 ≤ x.resp.length →
      s.to (.mbxRdata r) fun t => t.returned r R.MBX_RDATA (BitVec.ofNat 32 (ofBytes (x.resp.take 4))) ∧
        t.mbxResult (s.rd (s.bf r R.MBX_SEL_CMDID)) = { x with resp := x.resp.drop 4 })

/-- 16 R503, R508, R510 to R512, 17 R547: nonces, management sessions, a restart of the Marshal's processor, and
telemetry. The model's choices in it: log entries 144 and 147. -/
def Obligations.NoncesSessionsAndTelemetry : Prop :=
  ∀ (s : State) (r : Req) (radio : Bool) (key sig : List Byte) (slot : Nat) (x : MgmtSession) (n : Fin 4) (seq : BitVec 32)
    (readings : List (Option Int)) (nj us : Nat) (pages : List (Nat × Nat)) (k : Fin 20) (v : Int),
    let nonce : List Byte := toBytes 8 s.free.toNat ++ toBytes 8 s.used.free.toNat
    let verified : Bool := ((s.operatorKey key rightManage).map fun o =>
      Config.mldsaVerify o.pub (nonce ++ toBytes 6 Config.unitMac.toNat ++ toBytes 1 radio.toNat) sig).getD false
    (s.answers r R.MBX_NONCE0 → s.to (.mbxNonce0 r) fun t => t.mbx.nonces = s.bank r :: s.mbx.nonces.filter (· != s.bank r) ∧
      t.fresh = s.fresh + 2) ∧
    (s.to (.nonceExpiry r) fun t => t.mbx.nonces = s.mbx.nonces.filter (· != s.bank r)) ∧
    ((List.range 4).find? (fun m => s.mbx.sessions.all fun y => y.n ≠ m) = some slot →
      s.to (.sessionOpen radio key sig) fun t =>
        (verified = true → t.mbx.sessions = s.mbx.sessions ++ [⟨slot, radio, none⟩] ∧
          (s.pgEn 0x0F = true → t.shows Ev.mbxSessionOpen)) ∧
        (verified = false → t.mbx.sessions = s.mbx.sessions ∧ (s.pgEn 0x0F = true → t.shows Ev.mbxAuthRefused))) ∧
    (s.mbx.sessions.find? (fun y => y.n = n.val) = some x →
      (x.seq = none ∨ x.seq = some ((seq.toNat + 4294967295) % 4294967296) → s.to (.managementMessage n seq) fun t =>
        t.mbx.sessions.find? (fun y => y.n = n.val) = some { x with seq := some seq.toNat }) ∧
      (x.seq ≠ none → x.seq ≠ some ((seq.toNat + 4294967295) % 4294967296) → s.to (.managementMessage n seq) fun t =>
        t.mbx.sessions.find? (fun y => y.n = n.val) = none ∧ (s.pgEn 0x0F = true → t.shows Ev.mbxSessionClosed))) ∧
    (s.pgEn 0x0F = true → (s.to .marshalRestart fun t => t.mbx.cmds = [] ∧ t.mbx.sessions = [] ∧
        t.rd R.MBX_MSTAT_RESTARTS = min (s.rd R.MBX_MSTAT_RESTARTS + 1) 0xFFFF ∧ t.shows Ev.mbxMarshalRestart) ∧
      s.to (.sweepLate us) fun t => t.shows Ev.mbxSweepLate) ∧
    (s.sys.latch = false → s.to (.telemetrySweep readings nj us pages) fun t =>
      t.rd R.MBX_SWEEP_COUNT = (s.rd R.MBX_SWEEP_COUNT + 1) % 4294967296 ∧
      t.on (R.MBX_SENSOR_VALID.off (4 * k.val)) = (readings.getD k.val none).isSome ∧
      (readings.getD k.val none = some v → -32768 ≤ v → v < 32768 → t.rdInt (R.MBX_SENSOR_VALUE.off (4 * k.val)) = v) ∧
      (readings.getD k.val none = none → t.rdInt (R.MBX_SENSOR_VALUE.off (4 * k.val)) =
        s.rdInt (R.MBX_SENSOR_VALUE.off (4 * k.val))) ∧
      t.pwr.energy * 1000 + t.pwr.energyRest = s.pwr.energy * 1000 + s.pwr.energyRest + nj)

/-- 16 R515 to R518, R521, R522, R525: a failed core, the spare and its test; the recorder's flash, its tokens, and the
selection and reading of a record. The model's choices in it: log entries 104, 105, 191 and 199. -/
def Obligations.SparesAndRecords : Prop :=
  ∀ (s : State) (r : Req) (c : Fin 5) (cause : Fin 4) (bad : Bool) (l : Fin 4) (src : Fin 256) (code : Fin 128) (n : Nat)
    (x : LogRec) (i : Fin 16),
    let recnos : List Nat := s.records.map fun y => y.recno
    let sel : Nat := s.rd (s.bf r R.LOG_RSEL_RECNO)
    let tokens (t : State) : Nat :=
      (SMap.get (fun _ => fullBucket) t.recorder.buckets (src.val * 128 + code.val)).tokens
    let selects (m : Nat) (t : State) : Prop := t.rd (s.bf r R.LOG_RSEL_RECNO) = m
    ((s.core c.val).failed = false → s.to (.coreFailed c cause bad) fun t => (t.core c.val).failed = true ∧
      (t.rd R.SPARE_STAT_FAILED).testBit c.val = true ∧ (s.pgEn 0x0D = true → t.shows Ev.spareCoreFailed)) ∧
    (s.spareCore = some c.val →
      (s.to (.spareSelfTest true) fun t => t.spare.tested = some s.tb.toNat ∧ t.spare.testing = false ∧
        t.rd R.SPARE_TEST_PASSED = min (s.rd R.SPARE_TEST_PASSED + 1) 0xFFFF ∧ (t.core c.val).failed = false) ∧
      (s.to (.spareSelfTest false) fun t => t.spare.testing = false ∧ (t.core c.val).failed = true ∧ t.spareCore = none) ∧
      (s.accepts r R.SPARE_CMD → isCore r = false →
        (s.mode = 2 ∨ s.mode = 4 → s.spare.subst = none → s.to (.substCore r l) fun t => t.spare.subst = some l.val ∧
          t.rd R.SPARE_STAT_LASTRSN = 0) ∧
        (s.mode = 3 → s.to (.substCore r l) fun t => t.spare = s.spare ∧ t.rd R.SPARE_STAT_LASTRSN = 0x20) ∧
        (s.spare.testing = false → s.to (.testSpare r) fun t => t.spare.testing = true ∧
          t.rd R.SPARE_STAT_LASTRSN = 0))) ∧
    (s.on R.FLASH_STAT_READONLY = false → s.pgEn 0x0C = true →
      (∀ y ∈ s.recorder.staged, DramHolder.staged y.recno ∉ s.memory.dramBad) → s.recorder.log.length + s.recorder.staged.length ≤ logRoom →
      s.to (.recordFlush []) fun t => t.recorder.staged = [] ∧ t.recorder.log = s.recorder.log ++ s.recorder.staged) ∧
    (tokens s < 8 → s.to (.tokenGain src code) fun t => tokens t = tokens s + 1) ∧
    (8 ≤ tokens s → s.to (.tokenGain src code) fun t => t = s) ∧
    (s.answers r R.LOG_RDATA0 → s.logFind r = some (x, true) → s.to (.logRdata0 r none) fun t =>
      t.rd (s.bf r R.LOG_RSTAT_STATE) = 0 ∧ t.on (s.bf r R.LOG_RSTAT_STAGED) = true ∧
      t.reg (s.bk r (R.LOG_RDATA0 + 4 * i.val)) = BitVec.ofNat 32 (ofBytes ((x.bytes.drop (4 * i.val)).take 4))) ∧
    (s.accepts r R.LOG_RCMD →
      (recnos.find? (fun m => sel < m) = some n → n < 4294967296 → s.to (.next r) (selects n)) ∧
      (recnos.reverse.find? (fun m => m < sel) = some n → n < 4294967296 → s.to (.prev r) (selects n)) ∧
      (recnos.head? = some n → n < 4294967296 → s.to (.first r) (selects n)) ∧
      (recnos.getLast? = some n → n < 4294967296 → s.to (.last r) (selects n)) ∧
      (recnos = [] → s.to (.next r) (selects sel)))

/-! ### Updates, keys and attestation (17) -/

/-- 17 R529 to R535, R541, R542: an update is opened, takes its image, is finished, staged, aborted, unstaged or timed out; a
region starts from its active slot; recovery frames load an update in RECOVERY. The model's choices in it: log entries 102 and
192. -/
def Obligations.UpdatesOfARegion : Prop :=
  ∀ (s : State) (r : Req) (v : BitVec 32) (b radio : Bool) (m : Fin 16) (k : Fin 256) (seq : BitVec 16)
    (data tbl : List Byte) (pb : BitVec 4) (w h : Nat),
    let n : Nat := s.updSel r
    let g : UpdRegion := s.region n
    let mine : Prop := (g.state = 1 ∨ g.state = 2) ∧ g.owner = s.bank r
    let failed (i reason : Nat) (t : State) : Prop := (t.region i).state = 5 ∧ (t.region i).reason = reason
    let ack (t : State) : Prop := t.wire.getLast? = some (.recoveryAck radio k.val seq.toNat (t.region k.val).image.length
      (BitVec.ofNat 32 ((t.region k.val).state * 0x10000000 + (t.region k.val).reason * 0x10000)))
    (s.accepts r R.UPD_CMD → isCore r = false →
      (s.mode = 2 ∨ s.mode = 3 ∨ s.mode = 4 → (n = 8 → s.mode = 2) → g.isOpen = false → s.to (.updOpen r) fun t =>
        (t.region n).state = 1 ∧ (t.region n).image = [] ∧ (t.region n).owner = s.bank r ∧
        (n ≠ 8 → (t.region n).slot (!g.activeB) = {}) ∧ t.shows Ev.updOpened) ∧
      (mine → (n = 8 → s.mode = 2) → g.image.length = headerLen + hdrField g.image 16 4 →
        (g.state = 2 → s.to (.finish r) fun t =>
          (Config.shake256 (g.image.drop headerLen) 64 = (g.image.drop 32).take 64 → (t.region n).state = 3) ∧
          (Config.shake256 (g.image.drop headerLen) 64 ≠ (g.image.drop 32).take 64 → failed n 9 t))) ∧
      (mine → (n = 8 → s.mode = 2) → g.image.length ≠ headerLen + hdrField g.image 16 4 → s.to (.finish r) (failed n 0x0A)) ∧
      (mine → s.to (.updAbort r) (failed n 0x0D)) ∧
      (g.staged = some b → s.to (.unstage r) fun t => (t.region n).slot b = {} ∧
        (t.region n).slot (!b) = g.slot (!b) ∧ (t.region n).reason = 0) ∧
      (g.staged = none → s.to (.unstage r) fun t => (t.region n).slot b = g.slot b ∧ (t.region n).reason = 0x0B)) ∧
    (s.accepts r R.UPD_WDATA → isCore r = false → mine →
      (g.state = 2 ∨ g.image.length + 4 < headerLen → s.to (.updWdata r v) fun t =>
        (t.region n).image = g.image ++ toBytes 4 v.toNat ∧ (t.region n).state = g.state) ∧
      (g.state = 1 → g.image.length + 4 = headerLen → s.headerCheck n (g.image ++ toBytes 4 v.toNat) ≠ 0 →
        s.to (.updWdata r v) (failed n (s.headerCheck n (g.image ++ toBytes 4 v.toNat))))) ∧
    ((s.region m.val).state = 3 → m.val ≠ 8 →
      (s.on R.FLASH_STAT_READONLY = false → s.to (.staged m []) fun t => (t.region m.val).state = 4 ∧
        (t.region m.val).slot (s.targetSlot (s.region m.val)) = imageSlot (s.region m.val).image 2) ∧
      (s.on R.FLASH_STAT_READONLY = true → s.to (.staged m []) (failed m.val 0x0C))) ∧
    ((s.region m.val).state = 1 ∨ (s.region m.val).state = 2 → s.to (.updTimeout m) (failed m.val 0x11)) ∧
    (s.mode = 1 → s.sys.latch = false →
      let serves (i : Nat) : Bool := (s.region i).staged == none && !(s.region i).activeB && (s.region i).a.state == 1 &&
        decide ((s.region i).floor ≤ (s.region i).a.version)
      (s.sys.stage = 4 → serves 1 = true → s.to (.boot2Verified true b) fun t => t.sys.stage = 5 ∧ t.upd = s.upd) ∧
      (s.sys.stage = 5 → ([2, 3, 4, 5].all serves) = true → s.to (.regionsLoaded 15 pb w h tbl []) fun t =>
        t.sys.stage = 6 ∧ t.upd = s.upd ∧ t.panel.table = tbl)) ∧
    (s.mode = 0 → s.sys.latch = false →
      (s.to (.status radio k seq true) fun t => ack t ∧ t.upd = s.upd) ∧
      ((s.region k.val).state = 1 → (s.region k.val).owner = pathBank radio → data ≠ [] →
        (s.region k.val).image.length + data.length < headerLen → s.to
          (.write radio k (BitVec.ofNat 32 (s.region k.val).image.length) seq data true) fun t =>
            (t.region k.val).image = (s.region k.val).image ++ data ∧ ack t))

/-- 17 R545 to R551: key commands, attestation and the compatibility profile. The model's choices in it: log entries 102, 103
and 170. -/
def Obligations.KeysAndAttestation : Prop :=
  ∀ (s : State) (r : Req) (x : Attest) (prof : BitVec 8),
    let d : List Byte := s.sec.kdata
    let n : Nat := hdrField d 0 4 % 8
    let auth : Nat := (s.keyAuth r 4).1
    let lastAdmin : Prop := s.hasAdmin = true ∧ (s.setKey n none).hasAdmin = false
    (s.accepts r R.SEC_KCMD → hostSide r = true →
      (s.to (.kcmdOpen r) fun t => t.sec.kdata = [] ∧ t.sec.keys = s.sec.keys ∧ t.rd R.SEC_KSTAT_LASTRSN = 0) ∧
      (s.mode = 2 → r = .host → s.hasAdmin = false → d.length = 1960 → s.to (.enroll r) fun t =>
        t.keyAt n = some ⟨hdrField d 4 4 % 64, (d.drop 8).take 1952⟩ ∧ t.rd R.SEC_KSTAT_LASTRSN = 0 ∧
          t.shows Ev.secKeyEnrolled) ∧
      (s.mode = 3 → s.to (.enroll r) fun t => t.sec = s.sec ∧ t.rd R.SEC_KSTAT_LASTRSN = 2 ∧ t.shows Ev.secKeyRefused) ∧
      (s.mode = 2 → d.length = 3324 → s.to (.revoke r) fun t =>
        (auth = 0 → ¬ lastAdmin → t.keyAt n = none ∧ t.rd R.SEC_KSTAT_LASTRSN = 0 ∧ t.shows Ev.secKeyRevoked) ∧
        (auth = 0 → lastAdmin → t.sec.keys = s.sec.keys ∧ t.rd R.SEC_KSTAT_LASTRSN = 0x12) ∧
        (auth ≠ 0 → t.sec.keys = s.sec.keys ∧ t.rd R.SEC_KSTAT_LASTRSN = auth ∧ t.shows Ev.secKeyRefused))) ∧
    (s.accepts r R.SEC_ATTCMD → isCore r = false →
      (s.attest r = none → (s.to (.report r) fun t => t.attest r = some ⟨1, false, s.attestBytes 1⟩) ∧
        s.to (.cert r) fun t => t.attest r = some ⟨2, false, s.attestBytes 2⟩) ∧
      (s.attest r = some x → s.to (.report r) fun t => t.attest r = some x ∧ t.rd R.SEC_KSTAT_LASTRSN = 0x21)) ∧
    (s.attest r = some x → x.ready = false → s.to (.reportDone r) fun t => t.attest r = some { x with ready := true } ∧
      (s.pgEn 0x0E = true → t.shows Ev.secReportDone)) ∧
    (s.answers r R.SEC_ATTDATA → s.attest r = some x → x.ready = true → 4 ≤ x.data.length → s.to (.secAttdata r) fun t =>
      t.returned r R.SEC_ATTDATA (BitVec.ofNat 32 (ofBytes (x.data.take 4))) ∧
      t.attest r = (if (x.data.drop 4).isEmpty then none else some { x with data := x.data.drop 4 })) ∧
    (s.accepts r R.SEC_PROFSEL → isCore r = false → s.mode = 2 → 0 < prof.toNat → prof.toNat ≤ maxProfile →
      (regionCodes.all fun i => decide (((s.region i).slot (s.region i).activeB).pmin ≤ prof.toNat) &&
        decide (prof.toNat ≤ ((s.region i).slot (s.region i).activeB).pmax)) = true →
      s.to (.secProfsel r prof) fun t => t.rd R.SEC_PROFSEL_PROF = prof.toNat ∧
        t.rd R.SEC_PROFILE_PROF = s.rd R.SEC_PROFILE_PROF ∧ t.shows Ev.secProfileSet)

/-! ### Radio and CAN (11) -/

/-- 11 R419 to R423: the transmit items of a CAN controller from submission to outcome, its recovery from bus-off, and received
frames. The model's choices in it: log entries 30, 128, 135 and 191. -/
def Obligations.CanItemsAndFrames : Prop :=
  ∀ (s : State) (r : Req) (ctl : Fin 2) (i : CanItem) (id : BitVec 16) (f : CanFrame) (x : CanRx) (l : List CanRx),
    let c : Nat := ctl.val
    let q (t : State) : CanState := t.canSt c
    let ended (outcome reason attempts : Nat) (t : State) : Prop :=
      (q t).results.head? = some ⟨i.id, outcome, reason, attempts % 16⟩ ∧ t.canItem c i.id = none
    let cfg : Word := s.reg (s.bk r (R.CAN_TXCFG + 0x1000 * c))
    let len : Nat := if bitsOf cfg 13 13 = 1 then 0 else bitsOf cfg 6 0
    let sel : Nat := s.rd (s.bf r (canFld R.CAN_ITSEL_ITEMID c))
    let lastrsn (t : State) : Nat := t.rd (s.bf r (canFld R.CAN_TXSTAT_LASTRSN c))
    (s.accepts r (R.CAN_CMD + 0x1000 * c) → s.owner = true →
      (len ≤ (SMap.get (fun _ => []) (q s).wdata (s.bank r)).length → (q s).items.length < 256 → s.ledgerFree .can = true →
        s.canReadable c = true → s.to (.canSubmit r ctl) fun t =>
          (q t).items.map (fun y => y.id) = (q s).items.map (fun y => y.id) ++ [(q s).nextId] ∧
          (q t).nextId = ((q s).nextId + 1) % 65536 ∧ lastrsn t = 0) ∧
      (s.canItem c sel = some i → i.onBus = false → s.canReadable c = true → s.to (.canCancel r ctl) fun t =>
        ended 2 4 i.attempts t ∧ lastrsn t = 0 ∧ t.shows (canCond Ev.canItemDone c)) ∧
      (s.rd (canFld R.CAN_STAT_STATE c) = 2 → s.to (.recover r ctl) fun t => t.rd (canFld R.CAN_STAT_STATE c) = 3 ∧
        lastrsn t = 0 ∧ t.shows (canCond Ev.canErrorState c))) ∧
    (s.canOn c = true → (q s).late = none → s.canSending c = some i → s.canReadable c = true →
      (s.to (.ackDelimiter ctl) fun t => ended 1 0 (i.attempts + 1) t) ∧
      (s.to (.attemptError ctl true) fun t => ended 3 2 (i.attempts + 1) t) ∧
      (s.rd (canFld R.CAN_CFG_RETRY c) < i.attempts + 1 → s.to (.attemptError ctl false) fun t =>
        ended 2 3 (i.attempts + 1) t ∧ t.canTec c = s.canTec c + 8) ∧
      (i.attempts + 1 ≤ s.rd (canFld R.CAN_CFG_RETRY c) → s.to (.attemptError ctl false) fun t =>
        (t.canItem c i.id).map (fun y => y.attempts) = some (i.attempts + 1) ∧ t.canTec c = s.canTec c + 8)) ∧
    (s.canOn c = true → s.rd (canFld R.CAN_STAT_STATE c) = 3 → s.to (.recovered ctl) fun t =>
      t.rd (canFld R.CAN_STAT_STATE c) = 0 ∧ t.canTec c = 0 ∧ t.rd (canFld R.CAN_STAT_REC c) = 0 ∧
        t.shows (canCond Ev.canRecovered c)) ∧
    (s.canItem c id.toNat = some i → s.pgEn (0x61 + c) = true →
      (i.onBus = false → s.canReadable c = true → s.to (.canExpired ctl id) (ended 2 1 i.attempts)) ∧
      (i.onBus = true → s.to (.canExpired ctl id) fun t => ended 3 1 (i.attempts + 1) t ∧ (q t).late = some i.id)) ∧
    (s.canOn c = true → s.rd (canFld R.CAN_CFG_MODE c) ≠ 2 → s.rd (canFld R.CAN_STAT_STATE c) < 2 →
      (f.fdf = true → s.on (canFld R.CAN_CFG_FDEN c) = true) → s.canMatches c f ≠ 0 → (q s).rx.length < 256 →
      s.to (.rxFrame ctl f) fun t => (q t).rx = (q s).rx ++ [⟨f, s.canMatches c f⟩] ∧ t.shows (canCond Ev.canRxFrame c)) ∧
    (s.answers r (R.CAN_RXHEAD + 0x1000 * c) → (q s).rx = x :: l → s.to (.canxRxhead r ctl) fun t =>
      (q t).rx = l ∧ (q t).opened = x.frame.data ∧ t.returned r (R.CAN_RXHEAD + 0x1000 * c) (BitVec.ofNat 32
        (x.frame.ide.toNat * 0x80000000 + x.frame.fdf.toNat * 0x40000000 + 0x20000000 + x.frame.id % 2 ^ 29))) ∧
    (s.answers r (R.CAN_RXDATA + 0x1000 * c) → 4 ≤ (q s).opened.length → s.to (.canxRxdata r ctl) fun t =>
      t.returned r (R.CAN_RXDATA + 0x1000 * c) (BitVec.ofNat 32 (ofBytes ((q s).opened.take 4))) ∧
        (q t).opened = (q s).opened.drop 4)

/-- 11 R414 to R417: the radio port's items from submission to outcome, its keying, and its receive records. The model's choices
in it: log entries 29, 128 and 191. -/
def Obligations.RadioItemsAndRecords : Prop :=
  ∀ (s : State) (r : Req) (i : RadioItem) (id : BitVec 16) (b up overrun parity framing : Bool) (c : Byte) (start : BitVec 64)
    (x : RxRec) (l : List RxRec),
    let ended (outcome reason : Nat) (t : State) : Prop :=
      t.radio.results.head? = some ⟨i.id, outcome, reason, 0⟩ ∧ t.radioItem i.id = none
    let len : Nat := s.rd (s.bf r R.RADIO_TXCFG_LEN)
    let sel : Nat := s.rd (s.bf r R.RADIO_ITSEL_ITEMID)
    let lastrsn (t : State) : Nat := t.rd (s.bf r R.RADIO_TXSTAT_LASTRSN)
    (s.accepts r R.RADIO_CMD → s.owner = true →
      (len ≠ 0 → len ≤ (SMap.get (fun _ => []) s.radio.wdata (s.bank r)).length → s.radio.items.length < 4096 →
        s.ledgerFree .radio = true → s.to (.radioSubmit r) fun t =>
          t.radio.items.map (fun y => y.id) = s.radio.items.map (fun y => y.id) ++ [s.radio.nextId] ∧
          t.radio.nextId = (s.radio.nextId + 1) % 65536 ∧ lastrsn t = 0 ∧
          t.rd R.RADIO_STAT_QUEUED = (s.radio.items.length + 1) % 8192) ∧
      (s.radioItem sel = some i →
        (i.waitAck = true → s.to (.radioAck r) fun t => ended 1 0 t ∧ lastrsn t = 0) ∧
        (i.begun = false → s.to (.radioCancel r) fun t => ended 2 4 t ∧ lastrsn t = 0))) ∧
    (s.pgEn 0x60 = true → s.on (lineBit 0) ≠ b → s.to (.dcdChange b) fun t => t.on (lineBit 0) = b ∧
      t.shows Ev.radioDcdChange) ∧
    (s.radioOn = true →
      (s.radio.step = .defer id.toNat → s.on (lineBit 0) = true → s.to (.dcdChange false) fun t =>
        t.radio.step = .keyed id.toNat false ∧ t.on (lineBit 2) = true) ∧
      (s.radio.step = .keyed id.toNat up → up = false ∨ s.memory.dramBad.contains (.item .radio id.toNat) = false → s.to .cts fun t =>
        t.on (lineBit 1) = true) ∧
      (s.radio.step = .keyed id.toNat up → s.radioItem id.toNat = some i → s.on R.RADIO_CFG_RTSCTS = true →
        s.on (lineBit 1) = false →
        (s.rd R.RADIO_CTSWAIT_CTSFAIL ≤ i.fails + 1 → s.to .ctsTimeout fun t => ended 2 3 t ∧ t.shows Ev.radioCtsTimeout) ∧
        (i.fails + 1 < s.rd R.RADIO_CTSWAIT_CTSFAIL → s.to .ctsTimeout fun t =>
          (t.radioItem i.id).map (fun y => y.fails) = some (i.fails + 1) ∧ t.shows Ev.radioCtsTimeout)) ∧
      (s.radio.step = .keyed id.toNat false → s.radioItem id.toNat = some i →
        (s.on R.RADIO_CFG_RTSCTS = false → s.mirrorOn = false → s.memory.dramBad.contains (.item .radio id.toNat) = false →
          s.to .keyup fun t => t.radio.step = .sending id.toNat ∧ t.wire.getLast? = some (.radioSend i.data) ∧ t.on (lineBit 3) = true) ∧
        (s.on R.RADIO_CFG_RTSCTS = true → s.on (lineBit 1) = false → s.to .keyup fun t =>
          t.radio.step = .keyed id.toNat true)) ∧
      (s.radio.step = .sending id.toNat → s.radioItem id.toNat = some i →
        (i.ackReq = false → s.to .itemCompleted fun t => ended 1 0 t ∧ t.radio.step = .tail ∧ t.on (lineBit 3) = false) ∧
        (i.ackReq = true → s.to .itemCompleted fun t => (t.radioItem i.id).map (fun y => y.waitAck) = some true ∧
          t.radio.step = .tail)) ∧
      (s.radio.step = .tail → s.radioNext = none → s.to .tail fun t => t.radio.step = .idle ∧ t.on (lineBit 2) = false)) ∧
    (s.pgEn 0x60 = true → s.radioItem id.toNat = some i →
      (i.waitAck = true → s.to (.noAck id) (ended 3 2)) ∧
      (i.begun = false → s.to (.radioExpired id) (ended 2 1)) ∧
      (i.begun = true → s.to (.radioExpired id) (ended 3 1))) ∧
    (s.radioOn = true →
      ((s.radio.inProgress.getD ⟨start, 0, []⟩).data.length < 2047 → s.to (.rxCharacter c overrun parity framing start) fun t =>
        t.radio.inProgress.map (fun y => y.data) = some ((s.radio.inProgress.getD ⟨start, 0, []⟩).data ++ [c])) ∧
      (s.radio.inProgress = some x → (s.radio.rx.map fun y => y.data.length).sum + x.data.length ≤ 65536 →
        s.to .rxRecord fun t => t.radio.rx = s.radio.rx ++ [x] ∧ t.radio.inProgress = none ∧ t.shows Ev.radioRxRecord)) ∧
    (s.answers r R.RADIO_RXINFO → s.radio.rx = x :: l → s.memory.dramBad.contains .radioRecord = true → s.to (.radioRxinfo r) fun t =>
      t.radio.rx = l ∧ t.radio.opened = [] ∧ t.returned r R.RADIO_RXINFO 0 ∧
      t.rd R.RADIO_CNT_DROP_COUNT = min (s.rd R.RADIO_CNT_DROP_COUNT + 1) 4294967295) ∧
    (s.answers r R.RADIO_RXINFO → s.radio.rx = x :: l → s.memory.dramBad.contains .radioRecord = false → s.to (.radioRxinfo r) fun t =>
      t.radio.rx = l ∧
      t.radio.opened = x.data ∧ t.returned r R.RADIO_RXINFO (BitVec.ofNat 32 (x.status * 0x10000 + x.data.length))) ∧
    (s.answers r R.RADIO_RXDATA → 4 ≤ s.radio.opened.length → s.to (.radioRxdata r) fun t =>
      t.returned r R.RADIO_RXDATA (BitVec.ofNat 32 (ofBytes (s.radio.opened.take 4))) ∧
        t.radio.opened = s.radio.opened.drop 4)

/-! ### Ethernet, sessions and time of day (11) -/

/-- 11 R398 to R401, R405 to R409: items and sessions of the network engine, and what a session receives. The model's
choices in it: log entries 128 and 130. -/
def Obligations.NetworkSessionsAndItems : Prop :=
  ∀ (s : State) (r : Req) (sess : Fin 128) (e : EthFrom) (g : TcpSeg) (sport dport : Nat) (data : List Byte) (id : BitVec 16)
    (i : NetItem) (d : Datagram) (ds : List Datagram),
    let k : Nat := sess.val
    let q : NetSess := s.nsess k
    let cmd : Nat := R.SESS_CMD + 0x1000 * (k / 16) + 0xF0 * (k % 16)
    let to' : Nat := s.rd (s.bf r R.NET_TXCFG_SESS)
    let len : Nat := s.rd (s.bf r R.NET_TXCFG_LEN)
    let sel : Nat := s.rd (s.bf r R.NET_RXSEL_SESS)
    let gone (o n : Nat) (t : State) : Prop := t.net.results.head? = some ⟨i.id, o, n, i.sess⟩ ∧
      t.net.items.find? (fun x => x.id = i.id) = none
    (s.accepts r R.NET_TXCMD → s.owner = true → s.sessState to' = 3 ∨ s.sessState to' = 4 → len ≠ 0 →
      len ≤ (s.netWdata (s.bank r)).length → (s.sessKind to' = 3 → len ≤ 1452) → s.ledgerFree .net = true →
      s.memory.dramBad = [] → s.to (.netSubmit r) fun t =>
        t.net.items.map (fun x => x.id) = s.net.items.map (fun x => x.id) ++ [s.net.nextId] ∧
        t.net.nextId = (s.net.nextId + 1) % 65536 ∧ t.rd (s.bf r R.NET_TXSTAT_LASTRSN) = 0) ∧
    (s.accepts r cmd → s.owner = true →
      (s.sessState k = 0 → s.sessKind k ≠ 0 → s.to (.sessOpen r sess) fun t =>
        t.sessState k = (if s.sessKind k = 1 then 1 else if s.sessKind k = 2 then 2 else 4) ∧ (t.nsess k).rx = [] ∧
          t.shows (sessCond k 1)) ∧
      (s.sessState k = 1 ∨ s.sessState k = 2 → s.to (.sessClose r sess) fun t => t.sessState k = 0) ∧
      (s.sessState k = 3 → s.sessKind k ≠ 3 → s.to (.sessClose r sess) fun t => t.sessState k = 5 ∧
        (t.nsess k).closing = true) ∧
      (s.sessState k = 4 → s.sessItems k ≠ [] → s.memory.dramBad = [] → s.to (.sessClose r sess) fun t => t.sessState k = 5) ∧
      (s.sessState k ≠ 0 → s.to (.sessAbort r sess) fun t => t.sessState k = 0 ∧ t.sessItems k = [])) ∧
    (s.netOn = true →
      (s.ethUp e.eth2 = true → e.unfit = false →
        (findSess (fun k => (s.sessState k = 1 || s.sessState k = 3 || s.sessState k = 5) && s.sessKind k ≠ 3 &&
            s.sessHears k e && (s.nsess k).lport = g.dport && (s.nsess k).peer = e.src && (s.nsess k).port = g.sport)
            = some k →
          (s.sessState k = 1 → q.passive = false → g.syn = true → g.acks = true → g.rst = false →
            g.ack = (q.una + 1) % 4294967296 → s.to (.tcpSegment e g) fun t => t.sessState k = 3 ∧
              (t.nsess k).rcv = (g.seq + 1) % 4294967296) ∧
          (s.sessState k = 3 → g.acks = false → g.rst = false → g.fin = false → g.seq = q.rcv →
            q.rx.length + g.data.length ≤ 65536 → g.data ≠ [] → s.to (.tcpSegment e g) fun t =>
              (t.nsess k).rx = q.rx ++ g.data ∧ (t.nsess k).rcv = (q.rcv + g.data.length) % 4294967296)) ∧
        (findSess (fun k => s.sessState k = 4 && s.sessHears k e && (s.nsess k).lport = dport &&
            (s.sessRaddr k = 0 || s.sessRaddr k = e.src) &&
            (s.rd (sessFld R.SESS_RPORT_PORT k) = 0 || s.rd (sessFld R.SESS_RPORT_PORT k) = sport)) = some k →
          q.dgrams.length < 64 → s.to (.udpDatagram e sport dport data) fun t =>
            (t.nsess k).dgrams = q.dgrams ++ [⟨e.src, sport, data⟩] ∧
            t.rd (sessFld R.SESS_RXAVAIL_BYTES k) = q.dgrams.length + 1)) ∧
      (s.sessOn k = true → s.sessKind k ≠ 3 → s.sessState k = 1 ∨ 0 < q.flight →
        (q.tries < 8 → s.to (.retransmissionTimeout sess) fun t => (t.nsess k).tries = q.tries + 1 ∧
          (t.nsess k).rto = min (2 * q.rto) 60000000) ∧
        (8 ≤ q.tries → s.to (.retransmissionTimeout sess) fun t => t.sessState k = 0 ∧
          t.sessItems k = [])) ∧
      (s.sessOn k = true → s.sessState k ≠ 0 → s.sessState k ≠ 2 → s.to (.noRoute sess) fun t =>
        (s.sessState k = 1 → t.sessState k = 0) ∧ ((t.sessItems k).all fun x => x.begun) = true) ∧
      (s.sessOn k = true → s.sessState k = 3 → s.on (sessFld R.SESS_CTL_KEEPALIVE k) = true → q.flight = 0 →
        s.to (.keepalive sess) fun t => t = s.out (.eth (s.sessPorts k) (.tcp q.peer (s.sessTag k) ⟨q.lport, q.port,
          (q.una + 4294967295) % 4294967296, q.rcv, false, true, false, false, 65536 - q.rx.length, none, []⟩)))) ∧
    (s.net.items.find? (fun x => x.id = id.toNat) = some i →
      (i.begun = false → s.memory.dramBad = [] → s.to (.txtmoExpiry id) (gone 2 1)) ∧
      (i.begun = true → s.sessKind i.sess ≠ 3 → s.to (.txtmoExpiry id) fun t => t.sessItems i.sess = [] ∧
        t.sessState i.sess = 0)) ∧
    (s.net.items.find? (fun x => x.id = id.toNat && x.begun) = some i → s.sessKind i.sess = 3 →
      s.memory.dramBad = [] → s.to (.datagramSent id) (gone 1 0)) ∧
    (s.answers r R.NET_RXINFO → s.memory.dramBad.contains (.received sel) = false →
      (s.sessKind sel = 3 → (s.nsess sel).dgrams = d :: ds → s.to (.netRxinfo r) fun t => (t.nsess sel).dgrams = ds ∧
        (t.nsess sel).opened = d.data ∧ t.returned r R.NET_RXINFO (BitVec.ofNat 32 (d.port * 0x10000 + d.data.length))) ∧
      (s.sessKind sel ≠ 3 → s.to (.netRxinfo r) fun t => t.nsess sel = s.nsess sel ∧
        t.returned r R.NET_RXINFO (BitVec.ofNat 32 (min (s.nsess sel).rx.length 0xFFFF)))) ∧
    (s.answers r R.NET_RXDATA → s.memory.dramBad.contains (.received sel) = false →
      (s.sessKind sel = 3 → 4 ≤ (s.nsess sel).opened.length → s.to (.netRxdata r) fun t =>
        t.returned r R.NET_RXDATA (BitVec.ofNat 32 (ofBytes ((s.nsess sel).opened.take 4))) ∧
          (t.nsess sel).opened = (s.nsess sel).opened.drop 4) ∧
      (s.sessKind sel ≠ 3 → 4 ≤ (s.nsess sel).rx.length → s.to (.netRxdata r) fun t =>
        t.returned r R.NET_RXDATA (BitVec.ofNat 32 (ofBytes ((s.nsess sel).rx.take 4))) ∧
          (t.nsess sel).rx = (s.nsess sel).rx.drop 4))

/-- 11 R401 to R404, R412, R413, 17 R543: the module's addresses, in RECOVERY the ROM's, its switch, announcements, links, and
time of day. The model's choices in it: log entries 27, 28 and 136. -/
def Obligations.EthernetAndTimeOfDay : Prop :=
  ∀ (s : State) (r : Req) (b : Bool) (a : ArpTarget) (e : EthFrom) (data : List Byte) (dst src : BitVec 48) (len tags n : Nat)
    (speed : Fin 3) (m : PtpAnnounce) (identity domain seq : Nat) (origin : Int) (t0 : Nat),
    let port (x : Bool) : Nat := if x then 2 else 1
    (s.answersFor b a = true → s.to (.arp b a) fun t => t = s.out (.eth (port b) (.arpReply a))) ∧
    (s.romAnswers b a = true → s.to (.arp b a) fun t => t = s.out (.eth 1 (.arpReply a))) ∧
    (s.answersFor e.eth2 a = true → e.unfit = false → s.to (.echoRequest e a data) fun t =>
      t = s.out (.eth (port e.eth2) (.echoReply e.src a data))) ∧
    (s.answersFor b a = false → s.romAnswers b a = false → s.to (.arp b a) fun t => t = s) ∧
    (s.to (.addressAgeing dst) fun t => t.net.learned = s.net.learned.filter fun x => x.mac ≠ dst) ∧
    (s.net.announce = some n → s.netOn = true → s.pairState = 1 → s.to .announced fun t => t.shows Ev.netAnnounced ∧
      t.net.announce = (if n < 2 then some (n + 1) else none)) ∧
    (s.pgEn 0x50 = true → (s.on (if b then R.NET_CFG_ETH2EN else R.NET_CFG_ETH1EN)) = true →
      s.rd (if b then R.NET_STAT_ETH2 else R.NET_STAT_ETH1) ≠ speed.val → s.to (.ethLinkChange b speed) fun t =>
        t.rd (if b then R.NET_STAT_ETH2 else R.NET_STAT_ETH1) = speed.val ∧ t.shows Ev.netLinkChange) ∧
    (s.pgEn 0x50 = true → s.ethUp b = true → 2 ≤ s.mode → s.mode ≠ 7 →
      (1522 < len ∨ 1 < tags → s.to (.bridgedFrame b dst src len tags) fun t => t = s.dropFrame) ∧
      (len ≤ 1522 → tags ≤ 1 → s.on R.NET_CFG_BRIDGE = true → s.ethUp (!b) = true → dst ≠ src → dst.toNat ≠ s.serviceMac →
        s.net.learned.find? (fun x => x.mac = dst) = none → s.to (.bridgedFrame b dst src len tags) fun t =>
          dst.toNat ≠ Config.unitMac.toNat → t.wire.getLast? = some (.eth (port (!b)) (.forward dst src len)))) ∧
    (s.ptpOn = true → m.domain = s.rd R.NET_TODCTL_DOMAIN → s.to (.announce m) fun t =>
      t.net.masters = s.net.masters.filter (fun x => x.identity ≠ m.identity) ++ [m]) ∧
    (s.ptpFrom identity domain = true →
      (s.to (.sync identity domain seq true origin) fun t => t.net.twoStep = some (identity, seq, s.tb.toNat)) ∧
      (s.to (.sync identity domain seq false origin) fun t => t.net.delayReq = some (seq, s.tb.toNat) ∧
        t.wire.getLast? = some (.eth 3 (.delayReq domain seq))) ∧
      (s.net.twoStep = some (identity, seq, t0) → s.to (.followUp identity domain seq origin) fun t => t.net.twoStep = none ∧
        t.net.delayReq = some (seq, s.tb.toNat) ∧ t.wire.getLast? = some (.eth 3 (.delayReq domain seq))) ∧
      (s.net.delayReq = some (seq, t0) → s.to (.delayResp identity domain seq origin) fun t => t.net.delayReq = none ∧
        t.net.pathDelay = (s.net.forward + (origin - s.todAt t0)) / 2)) ∧
    (s.ptpOn = true → s.to .todHoldover fun t => t.rd R.NET_TODSTAT_STATE = 2 ∧ t.net.within = 0) ∧
    (s.answers r R.NET_TODOFSLO → s.to (.netTodofslo r) fun t =>
      t.returned r R.NET_TODOFSLO (s.reg (R.NET_TODOFSLO + 0x6000000)) ∧
      t.reg R.NET_TODOFSHI = s.reg (R.NET_TODOFSHI + 0x6000000))

/-! ### Edits, forcing, the debugger and the program's registers (00, 04, 05, 06, 07) -/

/-- 04 R158 to R162, R166, R170: the life of an edit transaction, command by command. The model's choices in it: log entries
173, 174, 175 and 176. -/
def Obligations.EditTransactions : Prop :=
  ∀ (s : State) (r : Req) (x : EditTx) (b : EditBlock) (bs : List EditBlock) (v : Word),
    let ends (reason : Nat) (t : State) : Prop := t.editSt = 0 ∧ t.rd R.EDIT_STAT_REASON = reason ∧ t.edit.tx = none ∧
      t.mem = s.mem ∧ t.prog = s.prog
    let refusal : Nat := s.editRefusal s.loopConfigOk x
    (s.accepts r R.EDIT_CMD → s.mode = 2 ∨ s.mode = 3 →
      (s.editSt = 0 → s.to (.editOpen r) fun t => t.editSt = 1 ∧ t.rd R.EDIT_STAT_REASON = 0 ∧ t.rd R.EDIT_STAT_BLOCKS = 0 ∧
        t.rd R.EDIT_WCOUNT_COUNT = 0 ∧ t.reg R.EDIT_AFFECT0 = 0 ∧ t.reg R.EDIT_AFFECT1 = 0 ∧ t.edit.flash = s.edit.flash ∧
        t.edit.tx = some ⟨s.rd R.EDIT_TXID_TXID, s.rd R.EDIT_TMO_STROKES, s.getSig R.EDIT_BASESIG0, s.getSig R.EDIT_NEWSIG0, []⟩) ∧
      (s.editSt ≠ 0 → s.to (.editOpen r) fun t => t.rd R.EDIT_STAT_REASON = 1 ∧ t.edit = s.edit ∧ t.editSt = s.editSt) ∧
      (s.edit.tx = some x → s.editSt = 1 →
        (s.to (.block r) fun t => t.rd R.EDIT_WCOUNT_COUNT = 0 ∧ t.rd R.EDIT_STAT_BLOCKS = min (x.blocks.length + 1) 64 ∧
          t.edit.tx = some { x with blocks := x.blocks ++
            [⟨s.rd R.EDIT_BDESC_KIND, s.rd R.EDIT_BDESC_BLOCKNO, s.rd R.EDIT_BLEN_LEN, []⟩] }) ∧
        (s.to (.commit r) fun t => t.editSt = (if refusal ≠ 0 then 0
            else if s.pairState = 1 ∧ s.rd R.PAIR_STAT_PEER = 2 then 2 else 3) ∧ t.rd R.EDIT_STAT_REASON = refusal ∧
          t.edit.tx = (if refusal = 0 then some x else none) ∧ t.mem = s.mem ∧ t.prog = s.prog)) ∧
      (s.editSt ≠ 0 → s.edit.agreed = none → s.to (.editAbort r) (ends 0x0F))) ∧
    (s.accepts r R.EDIT_WDATA → s.editSt = 1 → s.edit.tx = some x → x.blocks = bs ++ [b] → b.data.length + 4 ≤ b.len →
      s.to (.editWdata r v) fun t => t.edit.tx = some { x with blocks := bs ++ [{ b with data := b.data ++ toBytes 4 v.toNat }] } ∧
        t.rd R.EDIT_WCOUNT_COUNT = (b.data.length + 4) % 4294967296 ∧ t.editSt = 1) ∧
    (s.editSt = 3 → s.edit.written = false → s.edit.tx = some x → s.sys.latch = false →
      (s.on R.FLASH_STAT_READONLY = false →
        (s.edit.peerNeeded = true → s.edit.peerReady = false → s.to (.eligible []) fun t => t.edit.written = true ∧ t.editSt = 3 ∧
          t.edit.flash = s.edit.flash ++ [⟨x, false⟩]) ∧
        (s.edit.peerNeeded = false → s.to (.eligible []) fun t => t.editSt = 4 ∧ t.edit.since = s.extStroke ∧
          t.edit.flash = s.edit.flash ++ [⟨x, false⟩] ∧ (s.pgEn 0x11 = true → t.shows Ev.editEligible))) ∧
      (s.on R.FLASH_STAT_READONLY = true → s.to (.eligible []) (ends 0x0D))) ∧
    (s.editSt = 4 → s.edit.tx = some x → s.edit.agreed = none → s.edit.since + x.tmo ≤ s.extStroke → s.to .neverIdle (ends 0x0E))

/-- 04 R147 to R149: the commands of the forcing table, and what an entry of the table does to the bytes of its image's
word. The model's choices in it: log entry 57. -/
def Obligations.ForcingCommandsAndImages : Prop :=
  ∀ (s : State) (r : Req) (e : Word × Word × Word) (img : List Host.Cell) (area o : Nat),
    let byteOf (i : Nat) : Byte := BitVec.ofNat 8 (bitsOf e.2.1 (8 * i + 7) (8 * i))
    let value (i : Nat) : Byte := BitVec.ofNat 8 (bitsOf e.2.2 (8 * i + 7) (8 * i))
    let old : Byte := SMap.get (fun _ => 0) img o
    (s.accepts r R.FORCE_CMD →
      (s.force.apply = false → s.force.clear = false →
        (dupForce (enabledForce s.force.staged) = false → s.to (.apply r) fun t =>
          t = { s.wr R.FORCE_STAT_LASTRSN 0 with force := { s.force with apply := true } }) ∧
        (dupForce (enabledForce s.force.staged) = true → s.to (.apply r) fun t => t = s.wr R.FORCE_STAT_LASTRSN 1)) ∧
      (s.force.apply = true ∨ s.force.clear = true → s.to (.apply r) fun t => t = s.wr R.FORCE_STAT_LASTRSN 2) ∧
      (s.to (.clearAll r) fun t =>
        t = { s.wr R.FORCE_STAT_LASTRSN 0 with force := { s.force with apply := false, clear := true } }) ∧
      (s.to (.revert r) fun t =>
        t = { s.wr R.FORCE_STAT_LASTRSN 0 with force := { s.force with staged := s.force.table } })) ∧
    (s.pgEn 0x12 = true → enabledForce s.force.table = [e] →
      (bitsOf e.1 30 30 = area → o / 4 = bitsOf e.1 12 0 →
        SMap.get (fun _ => 0) (s.forceImage area img) o = old &&& ~~~(byteOf (o % 4)) ||| value (o % 4) &&& byteOf (o % 4)) ∧
      (bitsOf e.1 30 30 ≠ area ∨ o / 4 ≠ bitsOf e.1 12 0 → SMap.get (fun _ => 0) (s.forceImage area img) o = old)) ∧
    (s.pgEn 0x12 = false → s.forceImage area img = img)

/-- 05 R215 to R217: the debugger's commands to a core, in STOP and in HOLD. The model's choices in it: log entry 60. -/
def Obligations.DebuggerCommands : Prop :=
  ∀ (s : State) (r : Req) (c : Fin 5) (task : Fin 64),
    let a : Nat := R.CORE_DBGCMD + 0x1000 * c.val
    let k : CoreSt := s.core c
    let status (src last : Nat) (t : State) : Prop := t.rd (R.CORE_DBGSTAT_HALTSRC.off (0x1000 * c.val)) = src ∧
      t.rd (R.CORE_DBGSTAT_BPHIT.off (0x1000 * c.val)) = 0 ∧ t.rd (R.CORE_DBGSTAT_LASTRSN.off (0x1000 * c.val)) = last
    let run : Run := ⟨task, s.extStroke, s.exec.qWork, [], true, false⟩
    (s.accepts r a → s.debugMode = true →
      (k.halted = false → s.to (.halt r c) fun t => t.core c = { k with halted := true, stepping := false } ∧ status 1 0 t ∧
        t.shows (Ev.coreHalted.at c 0) ∧ t.on R.WDT_STAT_FROZEN = true ∧ t.mem = s.mem) ∧
      (k.halted = true → s.to (.resume r c) fun t => t.core c = { k with halted := false, stepping := false } ∧ status 0 0 t ∧
        t.shows (Ev.coreResumed.at c 0) ∧ t.mem = s.mem) ∧
      (s.to (.step r c) fun t => t.core c = { k with stepping := k.fgRun.isSome || k.bgRun.isSome, bpPassed := true } ∧
        t.rd (R.CORE_DBGSTAT_LASTRSN.off (0x1000 * c.val)) = 0 ∧ t.mem = s.mem) ∧
      (k.failed = false → s.lcoreOf c ≠ none →
        (s.taskEnabled task = true → k.halted = false → k.fgRun = none → k.bgRun = none → s.busy task = false →
          s.to (.runtask r c task) fun t => (s.taskClass task = .b → t.runOf c true = some run ∧ t.runOf c false = none ∧
              t.ctxOf c true = s.startCtx task s.extStroke) ∧
            (s.taskClass task ≠ .b → t.runOf c false = some run ∧ t.runOf c true = none ∧
              t.ctxOf c false = s.startCtx task s.extStroke) ∧ t.mem = s.mem) ∧
        (s.taskEnabled task = true → k.halted = true → s.to (.runtask r c task) fun t =>
          t.rd (R.CORE_DBGSTAT_LASTRSN.off (0x1000 * c.val)) = 2 ∧ t.exec = s.exec) ∧
        (s.taskEnabled task = false → s.to (.runtask r c task) fun t =>
          t.rd (R.CORE_DBGSTAT_LASTRSN.off (0x1000 * c.val)) = 3 ∧ t.exec = s.exec))) ∧
    (s.accepts r a → s.debugMode = false → s.to (.halt r c) fun t => t.exec = s.exec ∧
      t.rd (R.CORE_DBGSTAT_LASTRSN.off (0x1000 * c.val)) = 1 ∧ t.on ⟨hdr (0x18 + c.val) 0x01C, 31, 31⟩ = true)

/-- 00 R10, 02 R64, 04 R157, R587, 07 R256: the loading of the stored program at a start, a program's request for STOP, the
snapshots of 64-bit values, and the loop engine's tables. -/
def Obligations.ProgramRegisters : Prop :=
  ∀ (s : State) (c : Fin 5) (r : Req) (v : Word) (okB : Bool),
    let i : Nat := s.rd (s.bf r R.LOOP_TADDR_INDEX)
    let next (t : State) : Prop := t.rd (t.bf r R.LOOP_TADDR_INDEX) = (if i + 1 < tableWords then i + 1 else 0)
    (s.sys.stage = 7 → s.mode = 1 → s.sys.latch = false →
      ((s.region 8).a.state = 1 → s.to (.programLoaded true okB) fun t => t.sys.stage = 8 ∧ t.memory.ledger = [] ∧
        t.sys.loadRsn = (s.loadBytes (s.region 8).a.payload s.markedTxs).1) ∧
      ((s.region 8).b.state ≠ 1 ∨ okB = false → s.to (.programLoaded false okB) fun t => t.sys.stage = 8 ∧
        t.memory.ledger = [] ∧ t.sys.loadRsn = 3 ∧ t.prog = none)) ∧
    (s.accepts (.core c) R.EXEC_STOPREQ → bitsOf v 31 16 = 0x57D0 → s.to (.execStopreq (.core c) v) fun t =>
      t.sys.stopReqs = s.sys.stopReqs ++ [2] ∧ t.mode = s.mode ∧ t.mem = s.mem ∧ t.shows Ev.execProgramStop) ∧
    (s.answers r R.EXEC_STROKELO → s.to (.execStrokelo r) fun t =>
      t.returned r R.EXEC_STROKELO (BitVec.ofNat 32 s.extStroke) ∧
      t.reg (R.EXEC_STROKELO + 4) = BitVec.ofNat 32 (s.extStroke / 4294967296) ∧ t.exec = s.exec ∧ t.mem = s.mem) ∧
    (s.answers r R.EXEC_SCANLO → s.to (.execScanlo r) fun t =>
      t.returned r R.EXEC_SCANLO (BitVec.ofNat 32 (s.scanOf r)) ∧
      t.reg (s.bk r R.EXEC_SCANLO + 4) = BitVec.ofNat 32 (s.scanOf r / 4294967296) ∧ t.exec = s.exec ∧ t.mem = s.mem) ∧
    (s.answers r R.PWR_EMODLO → s.to (.pwrEmodlo r) fun t =>
      t.returned r R.PWR_EMODLO (BitVec.ofNat 32 s.pwr.energy) ∧
      t.reg (R.PWR_EMODLO + 4) = BitVec.ofNat 32 (s.pwr.energy / 4294967296) ∧ t.pwr = s.pwr ∧ t.mem = s.mem) ∧
    (s.answers r R.LOOP_TDATA → s.to (.loopTdata r none) fun t =>
      t.returned r R.LOOP_TDATA (BitVec.ofNat 32 (s.tableWord i)) ∧ next t ∧ t.loop = s.loop) ∧
    (s.accepts r R.LOOP_TDATA → s.tableInUse i = false → s.to (.loopTdata r (some v)) fun t => next t ∧
      t.loop.writes = s.loop.writes ++ [⟨0x8000000 + i, v, (s.loopWriter r).1, (s.loopWriter r).2, false⟩] ∧
      t.loop.table = s.loop.table)

/-! ### The stroke and its instants (01, 04, 08) -/

/-- 01 R15, 02 R82, R89, 04 R148, 06 R225, R235: the start of a stroke: the counter, and the changes that wait for it. The
model's choices in it: log entries 66, 167, 168, 176 and 185. -/
def Obligations.StrokeStarts : Prop :=
  ∀ (s : State) (reason p : Nat) (rest : List Nat),
    let count (t : State) : Prop :=
      t.reg R.FBC_STROKE = (if s.stroke + 1 = strokeModulus then 0 else BitVec.ofNat 32 (s.stroke + 1)) ∧
      t.exec.strokeHi = (if s.stroke + 1 = strokeModulus then s.exec.strokeHi + 1 else s.exec.strokeHi)
    let quiet : Prop := s.sys.latch = false ∧ 7 ≤ s.sys.stage ∧ s.rd R.SYS_STRAP_ROLE = 0 ∧ s.spare.subst = none ∧
      s.edit.tx = none ∧ s.on R.SYS_CMDSTAT_PENDING = false ∧ s.rd R.FBC_CFGSTAT_STATE = 0 ∧ s.fbc.mgmt = [] ∧
      s.memory.store = none ∧ s.pair.accepted = none ∧ s.pair.swap = 0 ∧ s.pair.swapAt = none ∧ s.pair.stopAt = none ∧
      s.pair.demoted = false ∧ s.sys.localIo = true ∧ s.works .io = true
    quiet → s.mode = 3 →
      (s.sys.stopReqs = [] → s.pwr.due = none →
        (s.force.apply = false → s.force.clear = false → s.to .strokeStart fun t => count t ∧ t.mode = 3 ∧ t.mem = s.mem ∧
          t.force = s.force ∧ t.pstate = s.pstate ∧ t.on R.COX_CTL_BEN.live = s.on R.COX_CTL_BEN ∧ t.cox.dNow = s.cox.dNow + 1) ∧
        (s.force.apply = true → s.force.clear = false → s.to .strokeStart fun t => t.force.table = s.force.staged ∧
          t.force.apply = false ∧ t.mem = s.mem ∧ (s.pgEn 0x12 = true → t.shows Ev.forceApplied)) ∧
        (s.force.clear = true → s.to .strokeStart fun t => t.force.table = [] ∧ t.force.staged = [] ∧ t.force.clear = false ∧
          t.mem = s.mem)) ∧
      (s.sys.stopReqs = reason :: rest → s.pwr.due = none → s.to .strokeStart fun t => count t ∧ t.mode = 2 ∧
        t.rd R.SYS_STOPRSN_CODE = reason % 256 ∧ t.sys.stopReqs = [] ∧ t.exec.admitted = [] ∧ t.exec.waiting = []) ∧
      (s.sys.stopReqs = [] → p < 3 → s.pwr.due = some 0 → s.rd R.PWR_STAT_TARGET = p → s.to .strokeStart fun t => count t ∧
        t.pstate = p ∧ t.on R.PWR_STAT_PENDING = false ∧ t.mode = 3 ∧ t.mem = s.mem)

/-- 01 R20, 04 R131, R137 to R140, 08 R300, R302, R304: the latch instant, input complete, loop completion, the start of
an execution and the output cutoff. The model's choices in it: log entry 68. -/
def Obligations.InstantsOfAStroke : Prop :=
  ∀ (s : State) (pins : BitVec 16) (ue : List (Nat × Nat × Ecc)) (c : Fin 5) (a : Admitted) (o : Nat) (x : Host.Cell) (join : Bool),
    let i : Nat := iBase + s.rd R.DIO_MAP_IOFS
    s.sys.latch = false →
    (s.to (.latchInstant pins) fun t => t.fbc.latched = true ∧ t.mem = s.mem ∧ s.rd R.FBC_EPOCH_EH ≤ t.rd R.FBC_EPOCH_EH ∧
      (s.pgEn 0x70 = true → t.rd R.DIO_OUT_READBACK = pins.toNat ∧
        (3 ≤ s.syncState → t.rd R.DIO_IN_VALUE = s.dio.filt % 4294967296))) ∧
    (s.mode = 2 → s.pgEn 0x70 = true → s.pgEn 0x12 = false → s.on R.DIO_MAP_IEN = true →
      s.to (.inputComplete ue) fun t => t.fbc.closed = true ∧ t.exec.looping = true ∧ t.loop.due = [] ∧
        (o < s.dio.captured.length → t.byte (i + o) = s.dio.captured.getD o 0)) ∧
    (s.mode = 3 → s.rd R.SYS_STRAP_ROLE = 0 → s.to (.inputComplete ue) fun t => t.fbc.closed = true ∧ t.exec.looping = true) ∧
    (s.exec.looping = true → s.pair.awaiting = false →
      (s.mode = 3 → s.to .loopCompletion fun t => t.exec.looping = false ∧ t.exec.closed = false ∧ t.exec.hostWrites = [] ∧
        t.exec.shared = [] ∧ t.exec.engineWrites = []) ∧
      (s.mode = 5 → s.loop.due = [] → s.exec.engineWrites = [] → s.exec.shared = [] → s.exec.hostWrites = [x] →
        s.to .loopCompletion fun t => t.exec.looping = false ∧ t.byte x.1 = x.2 ∧ (o ≠ x.1 → t.byte o = s.byte o) ∧
          t.exec.hostWrites = [])) ∧
    (s.exec.record = none → s.startable c = some a → s.to (.executionStart c) fun t =>
      t.runOf c (decide (a.cls = .b)) = some ⟨a.task, a.scan, a.qsnap, [], false, a.late⟩ ∧
      t.ctxOf c (decide (a.cls = .b)) = s.startCtx a.task a.scan ∧ t.mem = s.mem ∧
      t.exec.admitted = s.exec.admitted.filter fun x => x.task ≠ a.task) ∧
    (s.mode = 3 → s.rd R.SYS_STRAP_ROLE = 0 → s.to (.outputCutoff join) fun t =>
      t.exec.qWork = applyBuffers s.exec.qWork s.exec.finished ∧
      t.exec.outImage = s.forceImage 1 (applyBuffers s.exec.qWork s.exec.finished) ∧ t.exec.closed = true ∧
      t.exec.imaged = true ∧ t.mem = s.mem) ∧
    (s.mode = 5 → s.to (.outputCutoff join) fun t => t.exec.qWork = s.exec.qWork ∧
      t.exec.outImage = s.forceImage 1 s.exec.qWork ∧ t.exec.closed = true ∧ t.exec.cores = s.exec.cores ∧ t.mem = s.mem)

/-- 08 R288, R296, R317, R318: what the module sends in its static slots and in the dynamic segment. The model's choices in it:
log entries 112, 114, 180 and 181. -/
def Obligations.SlotsAndSegmentsAreSent : Prop :=
  ∀ (s : State) (i : Fin 254) (g : GrantPlan),
    let mine : Prop := i.val < s.nSlots liveBank ∧ s.slotOwner liveBank i = s.ownAddr ∧ s.transmits = true
    (s.sys.latch = false → s.fbc.conflict = false → s.rd R.SYS_STRAP_ROLE = 0 → s.compat liveBank = false →
      s.slotKind liveBank i = 1 → mine →
      (s.mode = 2 → s.rd R.FBC_CFGSTAT_STATE ≠ 2 → s.fbc.activated = none → s.to (.slotStart i) fun t =>
        t.reg R.CLAIM_OWN = 0 ∧ t.mem = s.mem ∧
          t.wire.getLast? = some (.floryn s.chanMask 2 (s.mkFrame i 0 1 0 []))) ∧
      (s.mode = 3 → s.exec.imaged = true → s.fbc.activated = none → s.to (.slotStart i) fun t =>
        t.reg R.CLAIM_OWN = 2 ∧ t.mem = s.mem ∧
          t.wire.getLast? = some (.floryn s.chanMask 2 (s.mkFrame i 2 0 0 (s.slotBytes i))))) ∧
    (s.slotOwner liveBank i ≠ s.ownAddr ∨ s.transmits = false → s.to (.slotStart i) fun t => t = s) ∧
    (s.umpire = true → s.mode = 6 → s.slotKind liveBank i = 2 → s.pair.due = none → mine → s.to (.slotStart i) fun t =>
      t.regs = s.regs ∧ t.mem = s.mem ∧
        t.wire.getLast? = some (.floryn s.chanMask 3 (s.mkFrame i (s.rd R.FBC_EPOCH_EH % 65536 * 0x10000 +
          (s.reqBits + (if s.fbc.nodeSilent = 0 then 0 else 16) + s.fbc.nodeStat)) 0 0
          (le32 (s.pair.cur * 4 + s.rd R.CLAIM_UMP_GRANTEE) ++ le32 (s.reg R.CLAIM_OFFER).toNat ++
            le32 (s.rd R.CLAIM_UMP_ABSENT * 0x10000 + s.rd R.CLAIM_CFG_K * 16 + s.rd R.CLAIM_UMP_SWAP * 8 +
              s.rd R.CLAIM_UMP_STERN * 4 + s.rd R.CLAIM_UMP_BOW * 2 + s.rd R.CLAIM_UMP_DECLARED) ++
            le32 (s.reg R.CLAIM_GSTROKE).toNat ++ List.replicate (s.rd R.FBC_PAYLOAD_BYTES.live - 16) 0)))) ∧
    (s.dynMaster = true → s.pair.swap ≠ 1 → s.rd R.FBC_DYNCFG_MINISLOTS.live ≠ 0 → s.ownGrant = (g, true) →
      s.firstMgmt = none → s.firstUnsent = none → s.requests = [] → s.to .dynamicSegment fun t => t.fbc.next = g.1 ∧ t.mem = s.mem ∧
        t.wire.getLast? = some (.floryn s.chanMask 5 (s.mkFrame 0xFF 0 0 (s.stroke + 1) (grantPayload g.1)))) ∧
    (s.compat liveBank = false → s.dynMaster = false → s.pair.swap ≠ 1 → s.fbc.replies = [] → s.to .dynamicSegment fun t => t = s)

/-! ### Floryn (08) -/

/-- 08 R294, R301, R302, R304, R308 to R310, R316, R319, R326: frames received: which are used, and what each does. The model's
choices in it: log entries 107, 108, 110, 118 and 182. -/
def Obligations.FlorynFramesReceived : Prop :=
  ∀ (s : State) (x : FlorynRx) (stamp dest : Nat) (t2 t3 t4 : DWord) (q : AcqReq) (offset : Int),
    let f : FlorynFrame := x.frame
    let hears : Prop := s.forwards = true ∧ s.portOn x.chanB x.port2 = true ∧ s.pgEn 0x40 = true ∧
      s.pgEn (0x41 + x.chanB.toNat) = true
    let valid (typ : Nat) : Prop := hears ∧ x.fcsOk = true ∧ s.formatOk typ x = true
    let used (typ : Nat) (t : State) : Prop :=
      t.fbc.copies = s.fbc.copies ++ [(f.slot, ⟨typ, f, !x.chanB, x.chanB, false⟩)] ∧ t.mem = s.mem
    let first : Prop := s.fbc.copies.find? (fun p => p.1 = f.slot) = none
    let off : Int := (stamp : Int) - 64 - (f.aux.toNat / 1000 : Nat) - s.linkDelayOf x.chanB x.port2 -
      (8 * ofBytes (f.payload.take 8) : Nat)
    let slewed (o : Int) (t : State) : Prop := ∃ k : Nat,
      k ≤ min (o.natAbs / 8) (s.rd R.FBC_STROKECFG_LEN.live * 125 / 10000) ∧
      t.tb = BitVec.ofInt 64 ((s.tb.toNat : Int) - (if 0 ≤ o then (k : Int) else -k))
    let w : Word := BitVec.ofNat 32 (ofBytes (f.payload.take 4))
    let t1 (i : Nat) : Int := ofBytes ((f.payload.drop (8 * i)).take 8)
    (first → f.slot < 254 →
      (valid 2 → s.fbc.latched = false → s.to (.output x) fun t => used 2 t ∧
        (s.paired = true → s.compat liveBank = false → f.sender = s.peerAddr → t.reg R.CLAIM_PEER = f.word2)) ∧
      (valid 3 → s.fbc.closed = false → s.to (.input x) (used 3)) ∧
      (valid 4 → s.fbc.closed = false → s.to (.null x) (used 4))) ∧
    (hears → x.fcsOk = false → s.to (.input x) fun t => t.fbc.copies = s.fbc.copies ∧ t.mem = s.mem ∧
      t.rd (fbx x.chanB R.FB_CNT_FCS_COUNT) = min (s.rd (fbx x.chanB R.FB_CNT_FCS_COUNT) + 1) 0xFFFFFFFF) ∧
    (valid 3 → f.slot < 254 → s.fbc.closed = true → s.to (.input x) fun t => t.fbc.copies = s.fbc.copies ∧ t.mem = s.mem ∧
      t.rd R.FBC_CNT_LATE_COUNT = min (s.rd R.FBC_CNT_LATE_COUNT + 1) 0xFFFFFFFF) ∧
    (valid 1 → s.on R.FBC_SYNC_ACTING = false → s.fbc.ref = none →
      (s.syncState = 4 → off.natAbs ≤ 200 → s.to (.reference x stamp) fun t => t.syncState = 4 ∧ slewed off t ∧
        t.rdInt R.FBC_SYNC_OFFSET = off ∧ t.reg R.FBC_STROKE = s.reg R.FBC_STROKE) ∧
      (s.syncState = 4 → 200 < off.natAbs → s.to (.reference x stamp) fun t => t.syncState = 2 ∧ t.tb = s.tb) ∧
      (s.syncState = 5 → s.to (.reference x stamp) fun t => t.syncState = 4 ∧ slewed off t) ∧
      (s.syncState = 2 → 1000 < off.natAbs → s.to (.reference x stamp) fun t => t.syncState = 2 ∧
        t.tb = BitVec.ofInt 64 ((s.tb.toNat : Int) - off / 8) ∧ t.reg R.FBC_STROKE = f.stroke) ∧
      (s.syncState = 2 → off.natAbs ≤ 50 → 7 ≤ s.fbc.aligned → s.to (.reference x stamp) fun t => t.syncState = 3 ∧ t.tb = s.tb)) ∧
    (valid 5 → s.dynMaster = false → f.aux = s.reg R.FBC_STROKE + 1 → f.len / 4 = 1 → s.to (.grant x) fun t =>
      t.fbc.granted = true ∧ t.fbc.next = [⟨bitsOf w 7 0, bitsOf w 17 8, bitsOf w 27 18⟩] ∧ t.mem = s.mem) ∧
    (valid 6 → dest = s.ownAddr → bitsOf w 7 0 = 3 → s.pair.swap ≠ 2 → s.fbc.mgmt = [] →
      s.fbc.dynSeen = [] → s.fbc.acq.find? (fun y => y.sent && y.id = bitsOf w 31 16) = some q → s.to (.data x dest) fun t =>
        t.fbc.acqDone.head? = some ⟨q.id, 1, if bitsOf w 15 8 = 0 then 0 else 0x10, bitsOf w 15 8, f.payload.drop 8⟩ ∧
        t.fbc.acq.find? (fun y => y.id = q.id) = none) ∧
    (valid 7 → s.transmits = true → f.sender < s.ownAddr → s.to (.probe x t2 t3) fun t =>
      t.wire.getLast? = some (.florynPort x.chanB x.port2 true 8
        (s.mkFrame 0xFF 0 0 0 (f.payload.take 8 ++ toBytes 8 t2.toNat ++ toBytes 8 t3.toNat)))) ∧
    (valid 8 → s.to (.probeReply x t4 none) fun t =>
      t.linkDelayOf x.chanB x.port2 = (((t4.toNat : Int) - t1 0 - (t1 2 - t1 1)) / 2).toNat ∧ t.fbc.nodes = s.fbc.nodes) ∧
    (s.compat liveBank = true → s.syncState ≠ 0 →
      (offset.natAbs ≤ 100 → s.to (.firstNodeClock true offset) fun t => t.syncState = 4 ∧ slewed offset t ∧
        t.rdInt R.FBC_SYNC_OFFSET = offset) ∧
      (s.to (.firstNodeClock false offset) fun t => t.syncState = 1 ∧ (s.pgEn 0x40 = true → t.shows Ev.fbcCompat)))

/-- 08 R291, R303, R308, R313, R315, R319, R320: the roles of a time master, links, a configuration's APPLY and REVERT, and
acyclic requests. The model's choices in it: log entries 115, 116, 180, 182, 183 and 184. -/
def Obligations.FlorynRolesConfigurationAndRequests : Prop :=
  ∀ (s : State) (r : Req) (chanB port2 : Bool) (k a id : Nat) (m : Nat × Nat × Nat) (q : AcqReq) (res : AcqRes),
    let u : State := (s.copyCfg 0 applyBank).wr R.FBC_CFGSTAT_STATE 1
    let stations : List Nat := (u.ownedSlots applyBank).filter fun i => u.slotKind applyBank i = 2
    let req : AcqReq := ⟨s.fbc.nextReq, s.bank r, s.taskOf r, s.rd (s.bf r R.FBC_ACQ_DEST_DEST),
      s.rd (s.bf r R.FBC_ACQ_DEST_SERVICE), s.rd (s.bf r R.FBC_ACQ_INDEX_INDEX), s.acqWdata (s.bank r), false⟩
    let ended (outcome reason : Nat) (t : State) : Prop := t.fbc.acqDone.head? = some ⟨q.id, outcome, reason, 0, []⟩ ∧
      t.fbc.acq = s.fbc.acq.filter fun y => y.id ≠ q.id
    let n : Nat := SMap.get (fun _ => 0) s.fbc.taken (s.bank r)
    (s.syncState ≠ 0 → s.on R.FBC_SYNC_ACTING = false → s.ownRank = some k → s.compat liveBank = false →
      s.to .masterChange fun t => t.on R.FBC_SYNC_ACTING = true ∧ t.rd R.FBC_SYNC_ARANK = k ∧
        t.syncState = (if s.syncState = 4 ∨ s.syncState = 5 then 4 else 3) ∧ t.tb = s.tb ∧
        t.reg R.FBC_STROKE = s.reg R.FBC_STROKE) ∧
    (s.on R.FBC_SYNC_ACTING = true → s.fbc.handover = none →
      (s.masters liveBank).find? (fun m => m.1 < s.ownRank.getD 7 && 64 ≤ SMap.get (fun _ => 0) s.fbc.readyRun m.1) = some m →
      s.to .handover fun t => t.fbc.handover = some (m.2.1, 0) ∧ (s.pgEn 0x40 = true → t.shows Ev.fbcHandover)) ∧
    (s.syncState = 1 ∨ s.syncState = 2 → s.to .syncFailed fun t => t.syncState = 1 ∧
      (s.pgEn 0x40 = true → t.shows Ev.fbcSyncFailed)) ∧
    (s.syncState = 5 → s.to .holdoverTimeout fun t => t.syncState = 1 ∧ t.tb = s.tb) ∧
    (s.on (linkFld chanB port2) = false → s.on R.CLK_STAT_LOCK = true → s.to (.linkChange chanB port2 true) fun t =>
      t.on (linkFld chanB port2) = true) ∧
    (s.on (linkFld chanB port2) = true → s.to (.linkChange chanB port2 false) fun t => t.on (linkFld chanB port2) = false ∧
      t.rd (fbx chanB R.FB_CNT_LINKDOWN_COUNT) = min (s.rd (fbx chanB R.FB_CNT_LINKDOWN_COUNT) + 1) 0xFFFFFFFF) ∧
    (s.accepts r R.FBC_APPLY → s.mode = 2 → s.umpire = false → s.peerRuns = false →
      s.rd R.FBC_CFGSTAT_STATE = 0 ∨ s.rd R.FBC_CFGSTAT_STATE = 3 →
      (s.cfgCheck 0 = some (k, a) → s.to (.fbcApply r) fun t => t.rd R.FBC_CFGSTAT_STATE = 3 ∧ t.rd R.FBC_CFGSTAT_REASON = k % 256 ∧
        t.reg (R.FBC_PAYLOAD + liveBank) = s.reg (R.FBC_PAYLOAD + liveBank)) ∧
      (s.cfgCheck 0 = none → s.compat 0 = false → stations ≠ [] → s.to (.fbcApply r) fun t => t.rd R.FBC_CFGSTAT_STATE = 1 ∧
        t.reg (R.FBC_PAYLOAD + liveBank) = s.reg (R.FBC_PAYLOAD + liveBank)) ∧
      (s.cfgCheck 0 = none → stations = [] → u.lineCheck applyBank (u.chans applyBank) = none → s.to (.fbcApply r) fun t =>
        t.rd R.FBC_CFGSTAT_STATE = 2 ∧ t.reg R.FBC_SWITCH = BitVec.ofNat 32 (s.stroke + 16) ∧
        t.reg (R.FBC_PAYLOAD + applyBank) = s.reg R.FBC_PAYLOAD ∧
        t.reg (R.FBC_PAYLOAD + liveBank) = s.reg (R.FBC_PAYLOAD + liveBank))) ∧
    (s.accepts r R.FBC_APPLY → s.to (.fbcRevert r) fun t => (a ∈ fbcStaged → t.reg a = s.reg (a + liveBank)) ∧
      (a ∉ fbcStaged → t.reg a = s.reg a) ∧ t.mem = s.mem ∧ t.fbc = s.fbc) ∧
    (s.accepts r R.FBC_ACQ_CMD → s.mode = 4 → isCore r = true → s.to (.acqSubmit r) fun t => t.fbc.acq = s.fbc.acq ∧
      t.fbc.acqDone = s.fbc.acqDone ∧ t.acqWdata (s.bank r) = [] ∧ t.mem = s.mem) ∧
    (s.accepts r R.FBC_ACQ_CMD → s.mode = 2 ∨ s.mode = 3 → s.paired = false ∨ s.pairState = 1 →
      req.data.length = s.rd (s.bf r R.FBC_ACQ_LEN_LEN) → s.fbc.acq.length < 64 → s.ledgerFree .acq = true →
      s.rd R.FBC_DYNCFG_MINISLOTS.live ≠ 0 → s.anyWorking = true →
      (s.fbc.nodes.any (fun y => y.addr = req.dest) = true → s.to (.acqSubmit r) fun t => t.fbc.acq = s.fbc.acq ++ [req] ∧
        t.fbc.nextReq = (s.fbc.nextReq + 1) % 65536 ∧ t.rd (s.bf r R.FBC_ACQ_STAT_REQID) = s.fbc.nextReq % 65536 ∧
        t.rd (s.bf r R.FBC_ACQ_STAT_LASTRSN) = 0 ∧ t.acqWdata (s.bank r) = []) ∧
      (s.fbc.nodes.any (fun y => y.addr = req.dest) = false → s.to (.acqSubmit r) fun t =>
        t.fbc.acqDone.head? = some ⟨s.fbc.nextReq, 2, 1, 0, []⟩)) ∧
    (s.fbc.acq.find? (fun y => y.id = id) = some q →
      (q.sent = true → s.to (.acqTimeout id) (ended 3 2)) ∧ (q.sent = false → s.to (.acqTimeout id) (ended 2 3))) ∧
    (s.answers r R.FBC_ACQ_RDATA → s.acqResult r = some res → 4 ≤ (res.data.drop n).length → s.to (.fbcAcqRdata r) fun t =>
      t.returned r R.FBC_ACQ_RDATA (BitVec.ofNat 32 (ofBytes ((res.data.drop n).take 4))) ∧
      SMap.get (fun _ => 0) t.fbc.taken (s.bank r) = n + 4 ∧ t.fbc.acqDone = s.fbc.acqDone ∧ t.regs = s.regs)

/-! ### The pair (05, 09) -/

/-- 09 R329, R333 to R335, R338, R344, R354, R355, R359, R361, 05 R208, 04 R171: what a unit makes of the other unit's messages.
The model's choices in it: log entries 120, 124, 125, 185, 186, 189 and 190. -/
def Obligations.PairMessagesReceived : Prop :=
  ∀ (s : State) (h : PairHdr) (hb : HbInfo) (d : List Byte) (ue : List (Nat × Nat × Ecc)) (x : Host.Cell)
    (o l addr a k unit epoch id : Nat)
    (v own : Word) (rd : BitVec 5) (run : Run) (rec' : AdmRecord) (dig : OutDig) (kind : ItemKind) (words : List Nat) (tx : EditTx)
    (b : Byte) (c : Fin 5),
    let hears : Prop := s.paired = true ∧ s.pgEn 0x44 = true ∧ s.rd R.PAIR_LANES_INSERVICE ≠ 0 ∧ s.mode ≠ 0 ∧ s.mode ≠ 7 ∧
      s.sys.latch = false
    let now : Prop := h.stroke = s.extStroke
    let p : Nat := s.physOf l
    let waitingFor (n : Nat) : Prop := (s.core n).wait = some (rd, addr, own) ∧ (s.core n).fgRun = some run ∧
      (s.core n).halted = false ∧ (s.core n).failed = false ∧ s.sys.latch = false
    let loads (n : Nat) (w : Word) (t : State) : Prop := (t.core n).wait = none ∧
      t.ctxOf n false = (⟨s, n, false, run, (s.core n).fg⟩ : Env).delivers rd w (s.core n).fg.fl
    (waitingFor c → s.to (.loadValueTimeout c) fun t => loads c own t ∧
      (s.mode = 4 → s.pairState = 2 → t.pair.provNow = true)) ∧
    (hears →
      (s.to (.heartbeat h hb) fun t => t.on R.PAIR_STAT_LINK = true ∧ t.pair.heard = true ∧ t.pair.linkEpoch = h.epoch ∧
        t.rd R.PAIR_STAT_PEER = hb.peer % 16 ∧ t.pair.peerIntent = hb.intent ∧ t.pair.peerConfig = hb.config ∧ t.mem = s.mem) ∧
      (s.following = true → now →
        (s.pair.awaiting = true → s.to (.inputDigest h d ue) fun t =>
          (d = s.inputDigest → t.pair.awaiting = false ∧ t.exec.looping = true) ∧
          (d ≠ s.inputDigest → t.pair.fetching = true ∧ t.pair.fetchRun = s.pair.fetchRun + 1 ∧ t.pair.awaiting = true)) ∧
        (s.pair.fetching = true → x.1 < 0x8000 → s.to (.inputImage h [x] ue) fun t => t.pair.awaiting = false ∧
          t.exec.looping = true ∧ t.byte (iBase + x.1) = x.2 ∧ (o < 0x8000 → o ≠ x.1 → t.byte (iBase + o) = 0))) ∧
      (s.mode = 4 → now → s.pairState ≠ 3 → s.exec.looping = true → rec'.delta = false → s.to (.admissionRecord h rec') fun t =>
        t.pair.recordSeen = true ∧ t.exec.record = some rec' ∧ t.mem = s.mem) ∧
      (s.mode = 4 → now → s.pairState = 3 → rec'.delta = false → s.pair.accepted = none → s.rd R.CLAIM_EPOCH_EPOCH ≤ h.epoch →
        s.rd R.FBC_EPOCH_EH ≤ h.epoch → s.pair.umpEpoch ≤ h.epoch → s.to (.admissionRecord h rec') fun t => t.pairState = 2 ∧
          t.pair.recordSeen = true ∧ t.mem = s.mem) ∧
      (s.mode = 4 →
        (waitingFor p → s.to (.registerLoadValue h l addr v) (loads p v)) ∧
        ((s.core p).wait = none → s.to (.registerLoadValue h l addr v) fun t => t.pair.loads = s.pair.loads ++ [(l, addr, v)] ∧
          t.exec = s.exec ∧ t.mem = s.mem) ∧
        (now → dig.config = none → dig.activation = none → dig.snapshot = none → s.to (.outputDigest h dig) fun t =>
          t.pair.outDig = some dig ∧ (s.futureStroke a = some k →
            (dig.power = some (a, o) → t.pwr.due = some k ∧ t.rd R.PWR_STAT_TARGET = o % 4) ∧
            (dig.stop = some a → t.pair.stopAt = some k)) ∧ t.mem = s.mem) ∧
        ((s.pair.items.any fun i => decide (i.kind = kind) && i.id = id) = false → s.to (.itemMirror h ⟨kind, id, .accepted words d⟩)
          fun t => t.pair.items = s.pair.items ++ [⟨kind, id, words, d, false, none⟩]) ∧
        (s.to (.itemMirror h ⟨kind, id, .started⟩) fun t =>
          (t.pair.items.all fun i => !(decide (i.kind = kind) && i.id = id) || i.started) = true)) ∧
      (s.edit.tx = some tx → s.edit.agreed = none →
        (s.editSt = 3 → s.edit.written = true → s.to (.editTransaction h (.ready tx.txid)) fun t => t.editSt = 4) ∧
        (2 ≤ s.editSt → s.to (.editTransaction h (.refused tx.txid 0x0F)) fun t => t.editSt = 0 ∧ t.edit.tx = none ∧
          t.rd R.EDIT_STAT_REASON = 0x0F)) ∧
      (s.pair.copyStart ≠ none →
        (a < qBase ∨ qBase + 0x8000 ≤ a → s.to (.stateCopy h (.bytes a [b] [])) fun t => t.byte a = b ∧
          (o ≠ a → t.byte o = s.byte o)) ∧
        (s.to (.stateCopy h (.table a [v])) fun t => t.tableWord a = v.toNat ∧ (o ≠ a → t.tableWord o = s.tableWord o) ∧
          t.mem = s.mem)) ∧
      (s.on R.PAIR_CFG_NOUMPIRE = true →
        (unit % 2 = s.unitBit → s.pairState = 2 → epoch < 2 ^ 30 → s.to (.swapAgreement h epoch unit) fun t =>
          t.pair.swapAt = some (s.extStroke + 2) ∧ t.rd R.CLAIM_EPOCH_EPOCH = max (s.rd R.CLAIM_EPOCH_EPOCH) epoch ∧
          t.mem = s.mem) ∧
        (unit % 2 ≠ s.unitBit → s.to (.swapAgreement h epoch unit) fun t => t.pair.linkEpoch = max h.epoch epoch ∧
          t.mem = s.mem))) ∧
    (s.to (.messageAcknowledgement .hostWrite) fun t => t = { s with pair := { s.pair with hostWait := none } }) ∧
    (s.pair.waits.contains (.acq, id) = true → s.to (.messageAcknowledgement (.started .acq id)) fun t =>
      t.pair.acked = s.pair.acked ++ [(.acq, id)] ∧ t.pair.waits = s.pair.waits.filter fun k => k ≠ (.acq, id))

/-- 09 R328, R330, R331, R352, R359, R360, R363: lanes, resynchronisation, the run intent and the Umpire's loss. The model's
choices in it: log entries 122, 168, 187, 188 and 190. -/
def Obligations.PairLanesAndCopies : Prop :=
  ∀ (s : State) (r : Req) (lane : Fin 3) (ln : Fin 4) (us a cycles : Nat) (w : BitVec 22) (write : Bool),
    let l : Nat := lane.val
    let n : Nat := SMap.get (fun _ => 0) s.pair.resends l
    let served (t : State) (k : Nat) : Bool := (t.rd R.PAIR_LANES_INSERVICE).testBit k
    let failed (t : State) (k : Nat) : Bool := (t.rd R.PAIR_LANES_FAILED).testBit k
    let mayCopy : Prop := s.mode = 2 ∧ s.pair.copyStart = none ∧ s.cfgBusy = false ∧ s.mbx.tripped = 0
    let copies (t : State) : Prop := t.pairState = 4 ∧ t.on R.SYS_STAT_RESYNC = true ∧ t.pair.copyStart = some s.tb.toNat ∧
      t.on R.RETAIN_STAT_VALID = false ∧ t.rd R.PAIR_RESYNC_PCT = 0 ∧ t.rd R.PAIR_STAT_LASTRSN = 0 ∧ t.mode = 2 ∧ t.mem = s.mem
    (s.paired = true →
      (n ≠ 15 → s.to (.messageResend lane) fun t => SMap.get (fun _ => 0) t.pair.resends l = n + 1 ∧
        t.rd R.PAIR_CNT_RETRY_COUNT = min (s.rd R.PAIR_CNT_RETRY_COUNT + 1) 0xFFFFFFFF ∧
        t.reg R.PAIR_LANES = s.reg R.PAIR_LANES) ∧
      (n = 15 → failed s l = false → s.to (.messageResend lane) fun t => failed t l = true ∧ served t l = false) ∧
      (failed s l = false → s.to (.laneFail lane) fun t => failed t l = true ∧ served t l = false ∧
        (l ≠ 2 → s.laneServes l = true → s.on R.PAIR_CFG_LANESPARE = true → s.laneServes 2 = false → failed s 2 = false →
          served t 2 = true ∧ t.rd R.PAIR_LANES_SPAREFOR = l + 1) ∧
        (s.pgEn 0x44 = true → t.shows Ev.pairLaneFail) ∧ t.mem = s.mem) ∧
      (s.accepts r R.PAIR_CMD → isCore r = false →
        (s.laneServes 2 = false → ln.val ≤ 1 → s.to (.spareLane r ln) fun t => t.rd R.PAIR_LANES_SPAREFOR = ln.val + 1 ∧
          served t 2 = true ∧ served t ln = false ∧ t.mem = s.mem) ∧
        (mayCopy → s.resyncRefusal = 0 → s.to (.resync r) copies) ∧
        (mayCopy → s.resyncRefusal ≠ 0 → s.to (.resync r) fun t => t = s.pairReason s.resyncRefusal) ∧
        (s.pair.copyStart ≠ none → s.to (.abortResync r) fun t => t.pair.copyStart = none ∧ t.on R.SYS_STAT_RESYNC = false ∧
          t.rd R.PAIR_STAT_LASTRSN = 5 ∧ (s.mode = 2 → t.pairState = 6) ∧ t.shows Ev.pairResyncFailed ∧ t.mem = s.mem)) ∧
      (mayCopy → s.rd R.SYS_PONTGT_MODE = 3 → s.resyncRefusal = 0 → s.to .resyncStart copies) ∧
      (s.on R.PAIR_STAT_UMPIRE = true → s.to .umpireLost fun t => t.on R.PAIR_STAT_UMPIRE = false ∧ t.pair.umpLost = true ∧
        (s.pgEn 0x45 = true → t.shows Ev.claimUmpireLost) ∧ t.mem = s.mem)) ∧
    (failed s l = true → s.to (.laneRestored lane) fun t => failed t l = false ∧ (l ≠ 2 → served t l = true) ∧ t.mem = s.mem) ∧
    (s.pair.lagged = false → s.pair.waits ≠ [] → s.to (.mirrorLag us) fun t => t.pair.lagged = true ∧
      (s.pgEn 0x44 = true → t.shows Ev.pairMirrorLag)) ∧
    (s.pair.hostWait = some (some a) → s.reaches .host = true → s.sys.hpOut = true →
      s.to (.accessTimeout w write cycles) fun t => t.pair.hostWait = none ∧
        (s.pgEn 0x44 = true → t.shows Ev.pairRetainMirror)) ∧
    (s.on R.PAIR_STAT_INTENT = true → s.to .intentLapse fun t => t.on R.PAIR_STAT_INTENT = false ∧ t.mode = s.mode ∧ t.mem = s.mem)

/-! ### Memories and the host's writes (01, 10, 18) -/

/-- 01 R42 to R44, 10 R368 to R374, R378, R393 to R395: reserved cycles, what they find, and repairs. The model's choices in it:
log entries 10, 140 and 191. -/
def Obligations.MemoriesAreReadAndRepaired : Prop :=
  ∀ (s : State) (off pos n life mib bank row b page : Nat) (slot : Fin 2) (busy : Bool) (hours : Nat),
    let word : Nat × Nat := (0, off / 32 * 32)
    let free : Nat := s.rd (R.MEM_BANK_ROWSFREE.off (4 * bank))
    let pg : Nat := 0x02000000 + page % 0x800000 / 0x100 * 0x100
    (s.sys.latch = false →
      (s.memory.poison.contains (off / 32) = false →
        (s.to (.scrub (.word .main off .clean (some n) none)) fun t => t.rd R.MEM_SCRUBMS_MS = min n 0xFFFFFFFF ∧
          t.rd R.MEM_CECNT_COUNT = s.rd R.MEM_CECNT_COUNT ∧ t.mem = s.mem ∧
          t.memory = { s.memory with history := s.memory.history.filter fun h => h.1 != word }) ∧
        (s.to (.scrub (.word .main off (.ce1 pos) none none)) fun t => t.mem = s.mem ∧ t.memory.writeBack.contains word = true ∧
          t.rd R.MEM_CECNT_COUNT = min (s.rd R.MEM_CECNT_COUNT + 1) 0xFFFFFFFF) ∧
        (s.to (.scrub (.word .main off (.ue n) none none)) fun t => t.mem = s.mem ∧
          t.rd R.MEM_UECNT_COUNT = min (s.rd R.MEM_UECNT_COUNT + 1) 0xFFFFFFFF ∧ (s.pgEn 8 = true → t.shows (ueCond .main)))) ∧
      (s.to (.scrub (.wear life mib busy)) fun t => t.rd R.FLASH_STAT_LIFE = min life 255 ∧
        t.rd R.FLASH_WRITTEN_MIB = min mib 0xFFFFFFFF ∧ t.on R.FLASH_STAT_WEARBUSY = busy ∧ t.mem = s.mem ∧
          (s.pgEn 0xA = true → 95 ≤ life → s.memory.lifeWarned < 2 → t.shows Ev.flashLifeWarn)) ∧
      (s.memory.store = none →
        (s.to (.marginRead slot page false .clean) fun t => t.mem = s.mem ∧
          t.memory.weak = s.memory.weak.filter fun k => k != (slot.val, pg)) ∧
        (s.memory.weak.contains (slot.val, pg) = false → s.to (.marginRead slot page true .clean) fun t => t.mem = s.mem ∧
          t.memory.weak = s.memory.weak ++ [(slot.val, pg)] ∧
          t.rd R.RETAIN_WEAKCNT_COUNT = min (s.rd R.RETAIN_WEAKCNT_COUNT + 1) 0xFFFFFFFF ∧
          (s.pgEn 9 = true → t.shows Ev.retainWeakRestored)))) ∧
    (s.pgEn 8 = true → (s.to (.mainScrubLate (.main bank)) fun t => t.shows Ev.memMainScrubLate ∧ t.mem = s.mem) ∧
      (s.to (.mainScrubLate .loop) fun t => t.shows Ev.memLoopScrubLate) ∧
      (s.to (.mainScrubLate .dram) fun t => t.shows Ev.memDramScrubLate)) ∧
    (s.pgEn 9 = true → s.to (.mainScrubLate (.margin bank)) fun t => t.shows Ev.retainMarginLate) ∧
    (s.pgEn 0xA = true → s.to (.mainScrubLate (.wear hours)) fun t => t.shows Ev.flashWearLate) ∧
    (s.to (.correctedWriteBack .main off) fun t => t.mem = s.mem ∧ t.regs = s.regs ∧
      t.memory.writeBack = s.memory.writeBack.filter fun k => k != word) ∧
    (bank < 17 → s.memory.rowCopy.contains (bank, row) = true → 0 < free → s.to (.rowReplaced bank row []) fun t =>
      t.rd (R.MEM_BANK_ROWSFREE.off (4 * bank)) = free - 1 ∧
      t.memory.rowCopy = s.memory.rowCopy.filter (fun k => k != (bank, row)) ∧ t.mem = s.mem ∧
      (s.pgEn 8 = true → t.shows Ev.memRowReplaced)) ∧
    (b < 16 → s.memory.bankCopy = some b → s.to (.bankSpared []) fun t => t.memory.bankCopy = none ∧
      t.rd (R.MEM_BANK_SERVES.off 64) = b ∧ t.on (R.MEM_BANK_OK.off (4 * b)) = true ∧ t.mem = s.mem ∧
      (s.pgEn 8 = true → t.shows Ev.memBankSpared))

/-- 04 R139, 10 R381, R382, 18 R559 to R561, R564, R565: the host's writes and reads of memory through its windows, and an
access that times out. The model's choices in it: log entries 58, 141, 172 and 193. -/
def Obligations.HostWritesReachMemory : Prop :=
  ∀ (s : State) (w : BitVec 22) (start : BitVec 21) (v : Word) (be : BitVec 4) (a o i cycles : Nat)
    (write more : Bool) (p : BitVec 17),
    let atOnce : Prop := s.mode = 2 ∨ s.mode = 6
    let stored (base : Nat) (t : State) : Prop :=
      (i < 4 → t.byte (base + i) = if be.getLsbD i then (v >>> (8 * i)).setWidth 8 else s.byte (base + i)) ∧
      (o < base ∨ base + 4 ≤ o → t.byte o = s.byte o) ∧ t.exec = s.exec ∧ t.regs = s.regs
    let sound (base : Nat) : Prop := s.memory.poison.contains (base / 32) = false
    let later (base : Nat) (t : State) : Prop := t.exec.hostWrites = s.exec.hostWrites ++ enabledBytes base v be ∧ t.mem = s.mem ∧
      t.regs = s.regs
    let fails (reason : Nat) (t : State) : Prop := t.mem = s.mem ∧ t.exec = s.exec ∧ t.wire.getLast? = some (.hpErr reason) ∧
      t.rd R.HOST_ERRCNT_COUNT = min (s.rd R.HOST_ERRCNT_COUNT + 1) 0xFFFFFFFF
    s.reaches .host = true → s.sys.hpOut = true →
      (s.recalled = true → start.toNat < 0x1F0000 → s.standbyRefuses = false → sound (retainBase + 4 * start.toNat) →
        (atOnce → s.to (.retainWriteBurst start [(v, be, .clean)]) (stored (retainBase + 4 * start.toNat))) ∧
        (s.mode = 3 → s.to (.retainWriteBurst start [(v, be, .clean)]) (later (retainBase + 4 * start.toNat)))) ∧
      (s.recalled = true → start.toNat = 0x1F0000 → s.to (.retainWriteBurst start [(v, be, .clean), (v, be, .clean)]) fun t =>
        t.mem = s.mem ∧ t.exec = s.exec ∧ t.wire.length = s.wire.length + 2) ∧
      (w.toNat = 0x10000 + p.toNat → s.to (.hostDataWrite w (.write v .clean) be) fun t =>
        s.to (.registerWrite .host p v be) fun u => t = u) ∧
      (w.toNat < 0x10000 ∨ 0x100000 ≤ w.toNat → w.toNat < 0x200000 → s.hostAddr (4 * w.toNat) = some a →
        (areaOf a = .marks ∨ areaOf a = .instData → s.standbyRefuses = false → sound a →
          (atOnce → s.to (.hostDataWrite w (.write v .clean) be) (stored a)) ∧
          (s.mode = 3 → s.to (.hostDataWrite w (.write v .clean) be) (later a))) ∧
        (areaOf a = .imageI ∨ areaOf a = .imageQ → s.imageAnswers = true →
          s.to (.hostDataWrite w (.write v .clean) be) (fails 2) ∧ s.to (.hostDataWrite w (.read more .clean) 15) fun t =>
            t.mem = s.mem ∧ t.exec = s.exec ∧ ∃ x, t.wire.getLast? = some (.hostValue (4 * w.toNat) x)) ∧
        (areaOf a = .instData → sound a → s.imageAnswers = true → s.to (.hostDataWrite w (.read more .clean) 15) fun t =>
          t.mem = s.mem ∧ t.wire.getLast? = some (.hostValue (4 * w.toNat) (BitVec.ofNat 32 (ofBytes (s.bytes a 4)))))) ∧
      (s.to (.accessTimeout w write cycles) fun t => fails 3 t ∧ t.on R.HOST_STAT_TIMEOUT = true ∧
        t.rd R.HOST_WAITMAX_CYCLES = min (max cycles (s.rd R.HOST_WAITMAX_CYCLES)) 0xFFFF ∧ t.pair.hostWait = none)

/-! ### Register pages and events (00, 03) -/

/-- 00 R7, 03 R101 to R106, R109, R110: the header of a page: block reset, enabling, locking, forced entries, and a refused
access. The model's choices in it: log entries 35, 41, 42 and 171. -/
def Obligations.PageHeaders : Prop :=
  ∀ (s : State) (r : Req) (page : BitVec 7) (bits v : Word) (key : BitVec 16) (src code b a : Nat) (be : BitVec 4) (w : BitVec 17),
    let p : Nat := page.toNat
    let may (off : Nat) : Prop := s.reaches r = true ∧ (r = .host → s.sys.hpOut = true) ∧
      (hostSide r = true → pageAnswers s.mode p = true ∧ ¬ ((s.pairState = 2 ∨ s.pairState = 3) ∧ standbyClosed p = true)) ∧
      (p = 0x12 → s.rd R.SYS_STRAP_ROLE = 0) ∧ mayWrite r p (hdr p off) = true ∧ (blockAt p).isSome = true
    let captured (off code : Nat) (t : State) : Prop := s.on ⟨hdr p 0x01C, 31, 31⟩ = false →
      t.reg (hdr p 0x01C) = BitVec.ofNat 32 (0x80000000 + code * 0x1000000 + reqCode r * 0x10000 + off)
    let roomy (k : Nat) : Prop := s.recorder.staged.length < 1024 ∨ k ≠ Ev.logDropped.source
    let plain : Prop := p = 0x08 ∨ p = 0x0A ∨ p = 0x0C ∨ p = 0x72
    (may 0x018 →
      (s.mode ≠ 3 → s.mode ≠ 4 → b < 32 → bits = BitVec.ofNat 32 (2 ^ b) → bitEvents p b = [(src, code)] →
        s.to (.pgEvforce r page bits) fun t => t.on ⟨hdr p 0x014, b, b⟩ = true ∧ t.mem = s.mem ∧
          (s.srcEn src = true → s.pgEn 4 = true → (s.queue src).length < 64 → roomy src →
            t.queue src = s.queue src ++ [⟨s.rd (R.EVT_SRCSTAT_NEXTSEQ.off (4 * src)), src, true, code, s.tb, 0⟩])) ∧
      (s.mode = 3 ∨ s.mode = 4 → s.to (.pgEvforce r page bits) fun t => captured 0x018 5 t)) ∧
    (may 0x028 →
      (s.locked p = false → s.to (.lock r page key) fun t => t.locked p = true ∧ t.rd (keyFld p) = key.toNat ∧ t.mem = s.mem) ∧
      (s.locked p = true →
        (key ≠ 0 → key.toNat = s.rd (keyFld p) → s.on (lockoutFld p) = false → s.to (.unlock r page key) fun t =>
          t.locked p = false ∧ t.rd (failsFld p) = 0 ∧ t.mem = s.mem) ∧
        (key = 0 ∨ key.toNat ≠ s.rd (keyFld p) ∨ s.on (lockoutFld p) = true → s.to (.unlock r page key) fun t =>
          t.locked p = true ∧ captured 0x028 3 t ∧ (s.rd (failsFld p) = 2 → t.on (lockoutFld p) = true)))) ∧
    (may 0x008 → s.locked p = false →
      (s.blockRefused (ctlPage p) = false →
        (plain → s.to (.blockReset r page) fun t => t.reg (hdr p 0x014) = 0 ∧ t.reg (hdr p 0x01C) = 0 ∧ t.pgEn p = s.pgEn p ∧
          t.mem = s.mem ∧ (a / 0x1000 = p → blockKeeps p a = false → t.reg a = resetVal a) ∧
          (a % 0x100000 / 0x1000 ≠ p → t.reg a = s.reg a)) ∧
        (p = 4 ∨ p = 5 → s.to (.blockReset r page) fun t => t.evt = {} ∧ t.reg (hdr p 0x01C) = 0 ∧ t.mem = s.mem) ∧
        (s.to (.blockDisable r page false) fun t => t.pgEn p = false ∧ t.mem = s.mem) ∧
        (plain → s.to (.blockDisable r page true) fun t => t.pgEn p = true ∧ t.mem = s.mem)) ∧
      (s.blockRefused (ctlPage p) = true → p ≠ 0 →
        (s.to (.blockReset r page) fun t => captured 8 5 t ∧ t.pgEn p = s.pgEn p) ∧
        (s.to (.blockDisable r page false) fun t => captured 8 5 t ∧ t.pgEn p = s.pgEn p))) ∧
    (s.accepts r (4 * w.toNat) → R.EVT_SRCCFG ≤ 4 * w.toNat → 4 * w.toNat < R.EVT_SRCCFG + 0x400 →
      s.to (.registerWrite r w v 15) fun t =>
        t = s.setReg (4 * w.toNat) (s.reg (4 * w.toNat) &&& ~~~0x30F#32 ||| v &&& 0x30F#32)) ∧
    (r = .host → s.reaches r = true → s.sys.hpOut = true → 4 * w.toNat / 0x1000 = p → pageAnswers s.mode p = true →
      (blockAt p).isSome = true → be ≠ 15 → s.to (.registerWrite r w v be) fun t => captured (4 * w.toNat % 0x1000) 1 t ∧
        t.wire.getLast? = some (.hpErr 8) ∧ t.mem = s.mem)

/-- 03 R103, R104, R113 to R116, R118 to R120, R123: a condition, an event of the program and a forced one come to a source's
queue; an enabled source whose queue is full discards the entry, consumes its number and shows OVF; a port delivers. -/
def Obligations.EventsAreQueuedAndDelivered : Prop :=
  ∀ (s : State) (cd : Cond) (data : Nat) (source : BitVec 8) (code : BitVec 7) (c : Fin 5) (r : Req) (port : Fin 4) (src : Nat)
    (e : EvEntry) (es : List EvEntry),
    let n (k : Nat) : Fld := R.EVT_SRCSTAT_NEXTSEQ.off (4 * k)
    let takes (k : Nat) (x : EvEntry) (t : State) : Prop := t.queue k = s.queue k ++ [x] ∧
      t.rd (n k) = (s.rd (n k) + 1) % 65536
    let keeps (k : Nat) (t : State) : Prop := t.queue k = s.queue k ∧ t.rd (n k) = s.rd (n k)
    let discards (k : Nat) (t : State) : Prop := t.queue k = s.queue k ∧ t.rd (n k) = (s.rd (n k) + 1) % 65536 ∧
      t.on (R.EVT_SRCSTAT_OVF.off (4 * k)) = true
    let roomy (k : Nat) : Prop := s.recorder.staged.length < 1024 ∨ k ≠ Ev.logDropped.source
    let rdata : Word := s.reg (s.bk (.core c) R.EVT_RDATA)
    let a : Nat := R.EVT_PHEAD + 16 * port.val
    let u : State := s.raise cd data
    let k : Nat := source.toNat
    (cd ∈ Ev.all →
      (s.pgEn cd.page = false → u = s) ∧
      (s.pgEn cd.page = true → u.shows cd ∧ u.mem = s.mem) ∧
      (s.pgEn cd.page = true → roomy cd.source →
        (s.srcEn cd.source = false → keeps cd.source u) ∧
        (s.on cd.even = false → keeps cd.source u) ∧
        (s.on cd.even = true → s.srcEn cd.source = true → s.pgEn 4 = true →
          ((s.queue cd.source).length < 64 →
            takes cd.source ⟨s.rd (n cd.source), cd.source, false, cd.code, s.tb, BitVec.ofNat 32 data⟩ u) ∧
          (64 ≤ (s.queue cd.source).length → discards cd.source u)))) ∧
    (s.accepts (.core c) R.EVT_RAISE → 240 ≤ k → code ≠ 0 →
      (s.srcEn k = true → (s.queue k).length < 64 → s.to (.evtRaise (.core c) source code)
        (takes k ⟨s.rd (n k), k, false, code.toNat, s.tb, rdata⟩)) ∧
      (s.srcEn k = true → 64 ≤ (s.queue k).length → s.to (.evtRaise (.core c) source code) (discards k)) ∧
      (s.srcEn k = false → s.to (.evtRaise (.core c) source code) (keeps k))) ∧
    (s.answers r a → portReader r port = true → s.pgEn 4 = true → port.val ≠ 2 →
      (s.nextSource port 3 = some src → s.queue src = e :: es → s.to (.evtPnhead r port) fun t => t.queue src = es ∧
        t.returned r a (entryInfo e) ∧ t.reg (s.bk r (R.EVT_PDATA + 16 * port.val)) = e.data ∧ t.lastOf port 3 = src ∧
        t.mem = s.mem) ∧
      (s.portNext port = none → s.to (.evtPnhead r port) fun t => t.returned r a 0 ∧ t.evt = s.evt))

/-! ### The whole machine -/

/-- A step runs the command at the front of the queue on the state whose queue is the rest; on an empty queue one tick of the
timebase passes (the model's choice: log entry 3), which changes nothing but the timebase, the watchdog's count and, in a unit of a
pair, what the link sends as time passes. -/
def Obligations.StepRunsFrontCommand : Prop :=
  ∀ (c : Instr) (q : List Instr) (s : State),
    (s.pending = c :: q → step s = Sys2Proof.Machine.exec c { s with pending := q }) ∧
    (s.pending = [] → ∃ t, step s = .next t ∧ t.tb = s.tb + 1 ∧ t.pending = [] ∧
      { t with tb := s.tb, regs := s.regs, wire := s.wire, pair := s.pair } = s ∧ (∀ a, a ≠ R.WDT_COUNT → t.reg a = s.reg a) ∧
      (s.paired = false → t.wire = s.wire ∧ t.pair = s.pair))

/-- Every command has a next state in every state: no event of the spec stops the module for good. The model's choices in
it: log entries 13 and 33. -/
def Obligations.EveryCommandIsAnswered : Prop :=
  ∀ (c : Instr) (s : State), s.safe ∧ ∃ t, Sys2Proof.Machine.exec c s = .next t

/-- Commands come from outside alone: a step takes the front one off the queue, and no command's effect puts one in. The
model's choices in it: log entry 143. -/
def Obligations.StepTakesOneCommand : Prop :=
  ∀ (s t : State), step s = .next t → t.pending = s.pending.tail

/-- Every step keeps memory and the register file in their canonical form. The model's choices in it: log entry 2. -/
def Obligations.CanonicalFormIsKept : Prop :=
  ∀ (s t : State), s.canonical → step s = .next t → t.canonical

/-- After reset memory and the register file are in their canonical form. The model's choices in it: log entry 2. -/
def Obligations.ResetIsCanonical : Prop := State.reset.canonical

/-- A command leaves every part of the machine outside those that partsOf names for it. -/
def Obligations.CommandsChangeTheirPartsAlone : Prop :=
  ∀ (c : Instr) (s t : State) (p : Part), Sys2Proof.Machine.exec c s = .next t → p ∉ partsOf c → p.same s t

/-- The Reset columns of 02, 03, 04, 05, 06, 08, 09, 11, 12, 14, 15 and 16. That no command waits, that memory lists nothing and
that the timebase starts at 0 are the model's choices (log entries 2 and 4). -/
def Obligations.StateAfterReset : Prop :=
  let s := State.reset
  s.pending = [] ∧ s.mem = [] ∧ s.tb = 0 ∧ (∀ a, s.reg a = resetVal a) ∧
  (∀ c : Fin 5, s.core c = {}) ∧
  s.rd R.SYS_MODE_MODE = 1 ∧ s.reg R.SYS_PONTGT = 0x121#32 ∧
  (∀ p : Fin 116, (blockAt p).isSome = true → s.reg (hdr p 0x008) = 1#32 ∧ s.reg (hdr p 0x010) = 0#32 ∧ s.reg (hdr p 0x014) = 0#32) ∧
  (∀ n : Fin 256, s.reg (R.EVT_SRCCFG + 4 * n) = 0x307#32) ∧
  s.reg R.EXEC_STROKELEN = 250#32 ∧ s.reg R.EXEC_COREMAP = 0x688#32 ∧
  (∀ n : Fin 64, s.reg (R.EXEC_TCFG0 + 16 * n) = 0x10000#32 ∧ s.reg (R.EXEC_TCFG1 + 16 * n) = 0#32) ∧
  s.reg R.EDIT_TMO = 0xFFFF#32 ∧ s.reg R.CLK_GATE = 0x10#32 ∧ s.reg R.WDT_PERIOD = 12500000#32 ∧
  s.reg R.MBX_DEADLINE = 5000#32 ∧ s.reg R.FLASH_SPARE = 0x600000#32 ∧
  s.reg R.FBC_STROKECFG = 250#32 ∧ s.reg R.FBC_MOFS = 0x5432#32 ∧ s.reg R.PAIR_LANES = 3#32 ∧ s.reg R.CLAIM_CFG = 2#32 ∧
  s.reg R.NET_CFG = 3#32 ∧ s.reg R.RADIO_BAUD = 9600#32 ∧ s.reg R.CAN_CFG = 0x380#32 ∧ s.reg R.PANEL_VCOM = 1500#32 ∧
  s.reg R.RTC_STGDATE = 0x20000101#32

/-! ### Task entries (04) -/

/-- 04 R133, R134: a task entry is writable in STOP only, and one with period 0, a phase not below the period, class 0b11,
trigger 0b10 or 0b11 or fault action 0b11 is refused with RANGE. -/
def Obligations.TaskEntriesAreRefused : Prop :=
  ∀ (s : State) (r : Req) (task : BitVec 6) (v : Word) (a : Nat),
    let cfg0 : Nat := R.EXEC_TCFG0 + 16 * task.toNat
    let cfg1 : Nat := R.EXEC_TCFG1 + 16 * task.toNat
    let w (n : Nat) : BitVec 17 := BitVec.ofNat 17 (n / 4)
    let captured (n code : Nat) (t : State) : Prop := s.on ⟨hdr 0x10 0x01C, 31, 31⟩ = false →
      t.reg (hdr 0x10 0x01C) = BitVec.ofNat 32 (0x80000000 + code * 0x1000000 + reqCode r * 0x10000 + n % 0x1000)
    let refused (n code : Nat) (t : State) : Prop := captured n code t ∧ t.mem = s.mem ∧ t.reg n = s.reg n ∧
      (R.EXEC_TCFG0 ≤ a → a < R.EXEC_TCFG0 + 0x400 → a % 16 ≠ 12 → t.reg a = s.reg a)
    let bad0 (x : Word) : Prop := bitsOf x 31 16 = 0 ∨ bitsOf x 31 16 ≤ bitsOf x 15 0
    let bad1 (x : Word) : Prop := bitsOf x 5 4 = 3 ∨ bitsOf x 13 12 = 2 ∨ bitsOf x 13 12 = 3 ∨ bitsOf x 17 16 = 3
    s.accepts r cfg0 →
      (s.mode = 2 →
        (bad0 v ∨ bad1 (s.reg cfg1) → s.to (.registerWrite r (w cfg0) v 15) (refused cfg0 7)) ∧
        (bad0 (s.reg cfg0) ∨ bad1 v → s.to (.registerWrite r (w cfg1) v 15) (refused cfg1 7)) ∧
        (¬ bad0 v → ¬ bad1 (s.reg cfg1) → s.to (.registerWrite r (w cfg0) v 15) fun t => t = s.setReg cfg0 v) ∧
        (¬ bad0 (s.reg cfg0) → ¬ bad1 v → s.to (.registerWrite r (w cfg1) v 15) fun t =>
          t = s.setReg cfg1 (s.reg cfg1 &&& ~~~0xFF033330#32 ||| v &&& 0xFF033330#32))) ∧
      (s.mode ≠ 2 →
        (s.to (.registerWrite r (w cfg0) v 15) (refused cfg0 5)) ∧
        (s.to (.registerWrite r (w cfg1) v 15) (refused cfg1 5)) ∧
        (s.to (.registerWrite r (w R.EXEC_TEN0) v 15) (refused R.EXEC_TEN0 5)) ∧
        (s.to (.registerWrite r (w R.EXEC_TEN1) v 15) (refused R.EXEC_TEN1 5)))

end Statements
end

