-- ==== Sys2Proof/Laws/SMap.lean ====
section
/-!
SUPPORT. Laws/SMap.lean: what reading a sparse map gives after a write, and that a write keeps the canonical form.
-/

namespace Sys2Proof.Machine

section Reading

variable {α : Type}

@[simp] theorem SMap.get_nil (d : Nat → α) (a : Nat) : SMap.get d [] a = d a := rfl

theorem SMap.get_erase_same (d : Nat → α) (a : Nat) : ∀ m : List (Nat × α), SMap.get d (SMap.erase a m) a = d a
  | [] => rfl
  | (k, v) :: t => by
    have ih := SMap.get_erase_same d a t
    by_cases h : k = a <;> simp [SMap.erase, SMap.get, h, ih]

theorem SMap.get_erase_ne (d : Nat → α) {a b : Nat} (h : b ≠ a) :
    ∀ m : List (Nat × α), SMap.get d (SMap.erase a m) b = SMap.get d m b
  | [] => rfl
  | (k, v) :: t => by
    have ih := SMap.get_erase_ne d h t
    by_cases hk : k = a
    · subst hk; simp [SMap.erase, SMap.get, ih, Ne.symm h]
    · by_cases hb : k = b <;> simp [SMap.erase, SMap.get, hk, hb, ih, h]

theorem SMap.erase_sublist (a : Nat) : ∀ m : List (Nat × α), (SMap.erase a m).Sublist m
  | [] => by simp [SMap.erase]
  | (k, v) :: t => by
    have ih := SMap.erase_sublist a t
    by_cases hk : k = a
    · simpa [SMap.erase, hk] using ih.trans (List.sublist_cons_self _ _)
    · simpa [SMap.erase, hk] using ih

theorem SMap.wf_erase {d : Nat → α} (a : Nat) {m : List (Nat × α)} (h : SMap.Wf d m) : SMap.Wf d (SMap.erase a m) :=
  ⟨h.1.sublist (SMap.erase_sublist a m), fun p hp => h.2 p ((SMap.erase_sublist a m).subset hp)⟩

theorem SMap.wf_nil (d : Nat → α) : SMap.Wf d [] := by simp [SMap.Wf]

end Reading

section Writing

variable {α : Type} [DecidableEq α]

/-- The key written reads as the value written. -/
@[simp] theorem SMap.get_set_same (d : Nat → α) (a : Nat) (v : α) :
    ∀ m : List (Nat × α), SMap.get d (SMap.set d a v m) a = v
  | [] => by by_cases h : v = d a <;> simp [SMap.set, SMap.get, h]
  | (k, w) :: t => by
    have ih := SMap.get_set_same d a v t
    simp only [SMap.set]
    split
    · simp [SMap.get, ih]; omega
    · split
      · rw [SMap.get_erase_same]; simp [*]
      · split <;> simp [SMap.get]

/-- Every other key reads as before. -/
theorem SMap.get_set_ne (d : Nat → α) {a b : Nat} (v : α) (h : b ≠ a) :
    ∀ m : List (Nat × α), SMap.get d (SMap.set d a v m) b = SMap.get d m b
  | [] => by by_cases hv : v = d a <;> simp [SMap.set, SMap.get, hv, Ne.symm h]
  | (k, w) :: t => by
    have ih := SMap.get_set_ne d v h t
    simp only [SMap.set]
    split
    · simp [SMap.get, ih]
    · split
      · exact SMap.get_erase_ne d h _
      · split
        · subst_vars; simp [SMap.get, Ne.symm h]
        · simp [SMap.get, Ne.symm h]

/-- Every entry after a write is the written one or an old one. -/
theorem SMap.mem_set (d : Nat → α) (a : Nat) (v : α) (p : Nat × α) :
    ∀ m : List (Nat × α), p ∈ SMap.set d a v m → p ∈ m ∨ (p = (a, v) ∧ v ≠ d a)
  | [], h => by
    by_cases hv : v = d a <;> simp [SMap.set, hv] at h
    exact .inr ⟨h, hv⟩
  | (k, w) :: t, h => by
    have ih := SMap.mem_set d a v p t
    simp only [SMap.set] at h
    split at h
    · rcases List.mem_cons.1 h with h | h
      · simp [h]
      · rcases ih h with h | h
        · simp [h]
        · exact .inr h
    · split at h
      · exact .inl ((SMap.erase_sublist a _).subset h)
      · split at h
        · rcases List.mem_cons.1 h with h | h
          · exact .inr ⟨h, by assumption⟩
          · exact .inl (by simp [h])
        · rcases List.mem_cons.1 h with h | h
          · exact .inr ⟨h, by assumption⟩
          · exact .inl h

/-- A write keeps the canonical form. -/
theorem SMap.wf_set (d : Nat → α) (a : Nat) (v : α) :
    ∀ m : List (Nat × α), SMap.Wf d m → SMap.Wf d (SMap.set d a v m)
  | [], _ => by by_cases h : v = d a <;> simp [SMap.set, SMap.Wf, h]
  | (k, w) :: t, ⟨hm, hv⟩ => by
    obtain ⟨h1, h2⟩ := List.pairwise_cons.1 hm
    obtain ⟨i1, i2⟩ := SMap.wf_set d a v t ⟨h2, fun p hp => hv p (by simp [hp])⟩
    have hk := hv (k, w) (by simp)
    simp only [SMap.set]
    split
    · refine ⟨List.pairwise_cons.2 ⟨fun p hp => ?_, i1⟩, fun p hp => ?_⟩
      · rcases SMap.mem_set d a v p t hp with h | ⟨h, _⟩
        · exact h1 p h
        · simpa [h]
      · rcases List.mem_cons.1 hp with h | h
        · simpa [h] using hk
        · exact i2 p h
    · split
      · exact SMap.wf_erase a ⟨hm, hv⟩
      · split
        · refine ⟨List.pairwise_cons.2 ⟨fun p hp => ?_, h2⟩, fun p hp => ?_⟩
          · have := h1 p hp; simp at this ⊢; omega
          · rcases List.mem_cons.1 hp with h | h
            · simpa [h]
            · exact hv p (by simp [h])
        · refine ⟨List.pairwise_cons.2 ⟨fun p hp => ?_, hm⟩, fun p hp => ?_⟩
          · rcases List.mem_cons.1 hp with h | h
            · simp [h]; omega
            · have := h1 p h; simp at this ⊢; omega
          · rcases List.mem_cons.1 hp with h | h
            · simpa [h]
            · exact hv p h

end Writing

end Sys2Proof.Machine
end

