-- ==== Sys2Proof/Laws/Regs.lean ====
section
/-!
SUPPORT. Laws/Regs.lean: what a register or a field reads as after a write of the same or of another register or field.
-/

namespace Sys2Proof.Machine

/-! ### Fields of a word -/

theorem bitsOf_eq_extract (w : Word) (hi lo : Nat) : bitsOf w hi lo = (w.extractLsb' lo (hi + 1 - lo)).toNat := by
  simp [bitsOf, BitVec.extractLsb', Nat.shiftRight_eq_div_pow]

theorem bitsOf_testBit (w : Word) (hi lo i : Nat) :
    (bitsOf w hi lo).testBit i = (decide (i < hi + 1 - lo) && w.getLsbD (lo + i)) := by
  simp [bitsOf, Nat.testBit_mod_two_pow, Nat.testBit_div_two_pow, BitVec.getLsbD, Nat.add_comm]

theorem bitsSet_split (w : Word) (hi lo v : Nat) (h : lo ≤ hi) (h32 : hi < 32) :
    (bitsSet w hi lo v).toNat = w.toNat % 2 ^ lo + 2 ^ lo * (v % 2 ^ (hi + 1 - lo) + 2 ^ (hi + 1 - lo) * (w.toNat / 2 ^ (hi + 1))) := by
  obtain ⟨k, hk⟩ : ∃ k, hi + 1 = lo + k := ⟨hi + 1 - lo, by omega⟩
  obtain ⟨j, hj⟩ : ∃ j, 32 = lo + k + j := ⟨31 - hi, by omega⟩
  have hsub : lo + k - lo = k := by omega
  simp only [bitsSet, bitsOf, hk, hsub]
  have hw : w.toNat = w.toNat % 2 ^ lo + 2 ^ lo * (w.toNat / 2 ^ lo % 2 ^ k + 2 ^ k * (w.toNat / 2 ^ (lo + k))) := by
    rw [pow_add, ← Nat.div_div_eq_div_mul, Nat.mod_add_div, Nat.mod_add_div]
  have hr : w.toNat % 2 ^ lo < 2 ^ lo := Nat.mod_lt _ (by positivity)
  have hv : v % 2 ^ k < 2 ^ k := Nat.mod_lt _ (by positivity)
  have hq : w.toNat / 2 ^ (lo + k) < 2 ^ j := by
    apply Nat.div_lt_of_lt_mul; rw [← pow_add, ← hj]; exact w.isLt
  have hb : w.toNat - w.toNat / 2 ^ lo % 2 ^ k * 2 ^ lo + v % 2 ^ k * 2 ^ lo =
      w.toNat % 2 ^ lo + 2 ^ lo * (v % 2 ^ k + 2 ^ k * (w.toNat / 2 ^ (lo + k))) := by
    have : w.toNat / 2 ^ lo % 2 ^ k * 2 ^ lo = 2 ^ lo * (w.toNat / 2 ^ lo % 2 ^ k) := Nat.mul_comm _ _
    rw [Nat.mul_add] at hw ⊢
    rw [this, Nat.mul_comm (v % 2 ^ k)]
    omega
  rw [hb, BitVec.toNat_ofNat]
  apply Nat.mod_eq_of_lt
  have h1 : v % 2 ^ k + 2 ^ k * (w.toNat / 2 ^ (lo + k)) < 2 ^ (k + j) := by
    rw [pow_add 2 k j]
    calc _ < 2 ^ k + 2 ^ k * (w.toNat / 2 ^ (lo + k)) := by omega
      _ = 2 ^ k * (w.toNat / 2 ^ (lo + k) + 1) := by ring
      _ ≤ 2 ^ k * 2 ^ j := Nat.mul_le_mul_left _ hq
  have h2 : (2 : Nat) ^ 32 = 2 ^ lo * 2 ^ (k + j) := by rw [← pow_add]; congr 1; omega
  rw [h2]
  calc _ < 2 ^ lo + 2 ^ lo * (v % 2 ^ k + 2 ^ k * (w.toNat / 2 ^ (lo + k))) := by omega
    _ = 2 ^ lo * (v % 2 ^ k + 2 ^ k * (w.toNat / 2 ^ (lo + k)) + 1) := by ring
    _ ≤ 2 ^ lo * 2 ^ (k + j) := Nat.mul_le_mul_left _ h1

/-- Each bit after a field is written: the field's bits are the value's, all others are kept. -/
theorem bitsSet_getLsbD (w : Word) (hi lo v i : Nat) (h : lo ≤ hi) (h32 : hi < 32) :
    (bitsSet w hi lo v).getLsbD i = if lo ≤ i ∧ i ≤ hi then v.testBit (i - lo) else w.getLsbD i := by
  rw [BitVec.getLsbD, bitsSet_split w hi lo v h h32, Nat.add_comm,
    Nat.testBit_two_pow_mul_add _ (Nat.mod_lt _ (by positivity))]
  split
  · rw [if_neg (by omega)]; simp [Nat.testBit_mod_two_pow, BitVec.getLsbD, *]
  · rw [Nat.add_comm, Nat.testBit_two_pow_mul_add _ (Nat.mod_lt _ (by positivity))]
    split
    · rw [if_pos (by omega)]; simp [Nat.testBit_mod_two_pow]; omega
    · rw [if_neg (by omega), Nat.testBit_div_two_pow]; simp [BitVec.getLsbD]; congr 1; omega

theorem bitsOf_bitsSet_same (w : Word) (hi lo v : Nat) (h : lo ≤ hi) (h32 : hi < 32) :
    bitsOf (bitsSet w hi lo v) hi lo = v % 2 ^ (hi + 1 - lo) := by
  apply Nat.eq_of_testBit_eq
  intro i
  rw [bitsOf_testBit, bitsSet_getLsbD w hi lo v _ h h32, Nat.testBit_mod_two_pow]
  by_cases hi' : i < hi + 1 - lo
  · rw [if_pos (by omega)]; simp [hi']
  · simp [hi']

theorem bitsOf_bitsSet_ne (w : Word) (hi lo v hi' lo' : Nat) (h : lo ≤ hi) (h32 : hi < 32)
    (hd : hi < lo' ∨ hi' < lo) : bitsOf (bitsSet w hi lo v) hi' lo' = bitsOf w hi' lo' := by
  apply Nat.eq_of_testBit_eq
  intro i
  rw [bitsOf_testBit, bitsOf_testBit, bitsSet_getLsbD w hi lo v _ h h32]
  by_cases hi'' : i < hi' + 1 - lo'
  · rw [if_neg (by omega)]
  · simp [hi'']

/-! ### Registers -/

@[simp] theorem State.reg_setReg_same (s : State) (a : Nat) (w : Word) : (s.setReg a w).reg a = w := by
  simp [State.reg, State.setReg]

theorem State.reg_setReg_ne (s : State) {a b : Nat} (w : Word) (h : b ≠ a) : (s.setReg a w).reg b = s.reg b := by
  simp [State.reg, State.setReg, SMap.get_set_ne _ _ h]

theorem State.reg_setReg (s : State) (a b : Nat) (w : Word) :
    (s.setReg a w).reg b = if b = a then w else s.reg b := by
  by_cases h : b = a
  · simp [h]
  · simp [h, State.reg_setReg_ne]

theorem State.reg_wr (s : State) (f : Fld) (v a : Nat) :
    (s.wr f v).reg a = if a = f.addr then bitsSet (s.reg f.addr) f.hi f.lo v else s.reg a := by
  simp [State.wr, State.reg_setReg]

theorem State.reg_wr_ne (s : State) {f : Fld} (v : Nat) {a : Nat} (h : a ≠ f.addr) : (s.wr f v).reg a = s.reg a := by
  simp [State.wr, State.reg_setReg_ne, h]

theorem State.rd_wr_same (s : State) (f : Fld) (v : Nat) (h : f.lo ≤ f.hi ∧ f.hi < 32) :
    (s.wr f v).rd f = v % 2 ^ (f.hi + 1 - f.lo) := by
  simp [State.rd, State.wr, bitsOf_bitsSet_same _ _ _ _ h.1 h.2]

/-- Two fields share no bit, and the second is a field of a register at all. -/
abbrev Fld.Apart (g f : Fld) : Prop := g.addr ≠ f.addr ∨ ((f.lo ≤ f.hi ∧ f.hi < 32) ∧ (f.hi < g.lo ∨ g.hi < f.lo))

theorem State.rd_wr_ne (s : State) {f g : Fld} (v : Nat) (h : g.Apart f) : (s.wr f v).rd g = s.rd g := by
  simp only [State.rd, State.reg_wr]
  split
  · rcases h with h | ⟨⟨h1, h2⟩, h3⟩
    · contradiction
    · rename_i e; rw [e, bitsOf_bitsSet_ne _ _ _ _ _ _ h1 h2 h3]
  · rfl

theorem State.rd_setReg_ne (s : State) {a : Nat} {g : Fld} (w : Word) (h : g.addr ≠ a) :
    (s.setReg a w).rd g = s.rd g := by simp [State.rd, State.reg_setReg_ne _ _ h]

@[simp] theorem State.rd_setReg_same (s : State) (g : Fld) (w : Word) :
    (s.setReg g.addr w).rd g = bitsOf w g.hi g.lo := by simp [State.rd]

theorem State.rd_lt (s : State) (f : Fld) : s.rd f < 2 ^ (f.hi + 1 - f.lo) := Nat.mod_lt _ (by positivity)

/-- Fields are read from the register file alone. -/
theorem State.rd_congr {s t : State} (f : Fld) (h : t.reg f.addr = s.reg f.addr) : t.rd f = s.rd f := by
  simp [State.rd, h]

theorem State.on_congr {s t : State} (f : Fld) (h : t.reg f.addr = s.reg f.addr) : t.on f = s.on f := by
  simp [State.on, State.rd_congr f h]

theorem State.reg_inc_ne (s : State) {f : Fld} {a : Nat} (h : a ≠ f.addr) : (s.inc f).reg a = s.reg a := by
  unfold State.inc; split <;> simp [State.reg_wr_ne, h]

theorem State.reg_incWrap_ne (s : State) {f : Fld} {a : Nat} (h : a ≠ f.addr) : (s.incWrap f).reg a = s.reg a := by
  simp [State.incWrap, State.reg_wr_ne, h]

/-- A saturating counter counts one more, below its largest value. -/
theorem State.rd_inc_same (s : State) (f : Fld) (h : f.lo ≤ f.hi ∧ f.hi < 32) :
    (s.inc f).rd f = min (s.rd f + 1) (2 ^ (f.hi + 1 - f.lo) - 1) := by
  have hl := s.rd_lt f
  unfold State.inc
  split
  · rw [State.rd_wr_same s f _ h, Nat.mod_eq_of_lt (by assumption)]; omega
  · omega

theorem State.rd_incWrap_same (s : State) (f : Fld) (h : f.lo ≤ f.hi ∧ f.hi < 32) :
    (s.incWrap f).rd f = (s.rd f + 1) % 2 ^ (f.hi + 1 - f.lo) := by
  rw [State.incWrap, State.rd_wr_same s f _ h]

end Sys2Proof.Machine
end

