-- ==== Sys2Proof/Laws/State.lean ====
section
/-!
SUPPORT. Laws/State.lean: what each update of the state leaves as it was, one lemma per field and update.
-/

namespace Sys2Proof.Machine

/-! ### State.setReg -/

@[simp] theorem State.setReg_pending (s : State) (a : Nat) (w : Word) : (s.setReg a w).pending = s.pending := rfl
@[simp] theorem State.setReg_tb (s : State) (a : Nat) (w : Word) : (s.setReg a w).tb = s.tb := rfl
@[simp] theorem State.setReg_fresh (s : State) (a : Nat) (w : Word) : (s.setReg a w).fresh = s.fresh := rfl
@[simp] theorem State.setReg_mem (s : State) (a : Nat) (w : Word) : (s.setReg a w).mem = s.mem := rfl
@[simp] theorem State.setReg_wire (s : State) (a : Nat) (w : Word) : (s.setReg a w).wire = s.wire := rfl
@[simp] theorem State.setReg_evt (s : State) (a : Nat) (w : Word) : (s.setReg a w).evt = s.evt := rfl
@[simp] theorem State.setReg_recorder (s : State) (a : Nat) (w : Word) : (s.setReg a w).recorder = s.recorder := rfl
@[simp] theorem State.setReg_sys (s : State) (a : Nat) (w : Word) : (s.setReg a w).sys = s.sys := rfl
@[simp] theorem State.setReg_exec (s : State) (a : Nat) (w : Word) : (s.setReg a w).exec = s.exec := rfl
@[simp] theorem State.setReg_prog (s : State) (a : Nat) (w : Word) : (s.setReg a w).prog = s.prog := rfl
@[simp] theorem State.setReg_memory (s : State) (a : Nat) (w : Word) : (s.setReg a w).memory = s.memory := rfl
@[simp] theorem State.setReg_cox (s : State) (a : Nat) (w : Word) : (s.setReg a w).cox = s.cox := rfl
@[simp] theorem State.setReg_force (s : State) (a : Nat) (w : Word) : (s.setReg a w).force = s.force := rfl
@[simp] theorem State.setReg_pwr (s : State) (a : Nat) (w : Word) : (s.setReg a w).pwr = s.pwr := rfl
@[simp] theorem State.setReg_edit (s : State) (a : Nat) (w : Word) : (s.setReg a w).edit = s.edit := rfl
@[simp] theorem State.setReg_loop (s : State) (a : Nat) (w : Word) : (s.setReg a w).loop = s.loop := rfl
@[simp] theorem State.setReg_clk (s : State) (a : Nat) (w : Word) : (s.setReg a w).clk = s.clk := rfl
@[simp] theorem State.setReg_wdt (s : State) (a : Nat) (w : Word) : (s.setReg a w).wdt = s.wdt := rfl
@[simp] theorem State.setReg_rtc (s : State) (a : Nat) (w : Word) : (s.setReg a w).rtc = s.rtc := rfl
@[simp] theorem State.setReg_dio (s : State) (a : Nat) (w : Word) : (s.setReg a w).dio = s.dio := rfl
@[simp] theorem State.setReg_panel (s : State) (a : Nat) (w : Word) : (s.setReg a w).panel = s.panel := rfl
@[simp] theorem State.setReg_mbx (s : State) (a : Nat) (w : Word) : (s.setReg a w).mbx = s.mbx := rfl
@[simp] theorem State.setReg_spare (s : State) (a : Nat) (w : Word) : (s.setReg a w).spare = s.spare := rfl
@[simp] theorem State.setReg_upd (s : State) (a : Nat) (w : Word) : (s.setReg a w).upd = s.upd := rfl
@[simp] theorem State.setReg_sec (s : State) (a : Nat) (w : Word) : (s.setReg a w).sec = s.sec := rfl
@[simp] theorem State.setReg_fbc (s : State) (a : Nat) (w : Word) : (s.setReg a w).fbc = s.fbc := rfl
@[simp] theorem State.setReg_pair (s : State) (a : Nat) (w : Word) : (s.setReg a w).pair = s.pair := rfl
@[simp] theorem State.setReg_net (s : State) (a : Nat) (w : Word) : (s.setReg a w).net = s.net := rfl
@[simp] theorem State.setReg_radio (s : State) (a : Nat) (w : Word) : (s.setReg a w).radio = s.radio := rfl
@[simp] theorem State.setReg_can (s : State) (a : Nat) (w : Word) : (s.setReg a w).can = s.can := rfl

/-! ### State.wr -/

@[simp] theorem State.wr_pending (s : State) (f : Fld) (v : Nat) : (s.wr f v).pending = s.pending := rfl
@[simp] theorem State.wr_tb (s : State) (f : Fld) (v : Nat) : (s.wr f v).tb = s.tb := rfl
@[simp] theorem State.wr_fresh (s : State) (f : Fld) (v : Nat) : (s.wr f v).fresh = s.fresh := rfl
@[simp] theorem State.wr_mem (s : State) (f : Fld) (v : Nat) : (s.wr f v).mem = s.mem := rfl
@[simp] theorem State.wr_wire (s : State) (f : Fld) (v : Nat) : (s.wr f v).wire = s.wire := rfl
@[simp] theorem State.wr_evt (s : State) (f : Fld) (v : Nat) : (s.wr f v).evt = s.evt := rfl
@[simp] theorem State.wr_recorder (s : State) (f : Fld) (v : Nat) : (s.wr f v).recorder = s.recorder := rfl
@[simp] theorem State.wr_sys (s : State) (f : Fld) (v : Nat) : (s.wr f v).sys = s.sys := rfl
@[simp] theorem State.wr_exec (s : State) (f : Fld) (v : Nat) : (s.wr f v).exec = s.exec := rfl
@[simp] theorem State.wr_prog (s : State) (f : Fld) (v : Nat) : (s.wr f v).prog = s.prog := rfl
@[simp] theorem State.wr_memory (s : State) (f : Fld) (v : Nat) : (s.wr f v).memory = s.memory := rfl
@[simp] theorem State.wr_cox (s : State) (f : Fld) (v : Nat) : (s.wr f v).cox = s.cox := rfl
@[simp] theorem State.wr_force (s : State) (f : Fld) (v : Nat) : (s.wr f v).force = s.force := rfl
@[simp] theorem State.wr_pwr (s : State) (f : Fld) (v : Nat) : (s.wr f v).pwr = s.pwr := rfl
@[simp] theorem State.wr_edit (s : State) (f : Fld) (v : Nat) : (s.wr f v).edit = s.edit := rfl
@[simp] theorem State.wr_loop (s : State) (f : Fld) (v : Nat) : (s.wr f v).loop = s.loop := rfl
@[simp] theorem State.wr_clk (s : State) (f : Fld) (v : Nat) : (s.wr f v).clk = s.clk := rfl
@[simp] theorem State.wr_wdt (s : State) (f : Fld) (v : Nat) : (s.wr f v).wdt = s.wdt := rfl
@[simp] theorem State.wr_rtc (s : State) (f : Fld) (v : Nat) : (s.wr f v).rtc = s.rtc := rfl
@[simp] theorem State.wr_dio (s : State) (f : Fld) (v : Nat) : (s.wr f v).dio = s.dio := rfl
@[simp] theorem State.wr_panel (s : State) (f : Fld) (v : Nat) : (s.wr f v).panel = s.panel := rfl
@[simp] theorem State.wr_mbx (s : State) (f : Fld) (v : Nat) : (s.wr f v).mbx = s.mbx := rfl
@[simp] theorem State.wr_spare (s : State) (f : Fld) (v : Nat) : (s.wr f v).spare = s.spare := rfl
@[simp] theorem State.wr_upd (s : State) (f : Fld) (v : Nat) : (s.wr f v).upd = s.upd := rfl
@[simp] theorem State.wr_sec (s : State) (f : Fld) (v : Nat) : (s.wr f v).sec = s.sec := rfl
@[simp] theorem State.wr_fbc (s : State) (f : Fld) (v : Nat) : (s.wr f v).fbc = s.fbc := rfl
@[simp] theorem State.wr_pair (s : State) (f : Fld) (v : Nat) : (s.wr f v).pair = s.pair := rfl
@[simp] theorem State.wr_net (s : State) (f : Fld) (v : Nat) : (s.wr f v).net = s.net := rfl
@[simp] theorem State.wr_radio (s : State) (f : Fld) (v : Nat) : (s.wr f v).radio = s.radio := rfl
@[simp] theorem State.wr_can (s : State) (f : Fld) (v : Nat) : (s.wr f v).can = s.can := rfl

/-! ### State.wrb -/

@[simp] theorem State.wrb_pending (s : State) (f : Fld) (v : Bool) : (s.wrb f v).pending = s.pending := rfl
@[simp] theorem State.wrb_tb (s : State) (f : Fld) (v : Bool) : (s.wrb f v).tb = s.tb := rfl
@[simp] theorem State.wrb_fresh (s : State) (f : Fld) (v : Bool) : (s.wrb f v).fresh = s.fresh := rfl
@[simp] theorem State.wrb_mem (s : State) (f : Fld) (v : Bool) : (s.wrb f v).mem = s.mem := rfl
@[simp] theorem State.wrb_wire (s : State) (f : Fld) (v : Bool) : (s.wrb f v).wire = s.wire := rfl
@[simp] theorem State.wrb_evt (s : State) (f : Fld) (v : Bool) : (s.wrb f v).evt = s.evt := rfl
@[simp] theorem State.wrb_recorder (s : State) (f : Fld) (v : Bool) : (s.wrb f v).recorder = s.recorder := rfl
@[simp] theorem State.wrb_sys (s : State) (f : Fld) (v : Bool) : (s.wrb f v).sys = s.sys := rfl
@[simp] theorem State.wrb_exec (s : State) (f : Fld) (v : Bool) : (s.wrb f v).exec = s.exec := rfl
@[simp] theorem State.wrb_prog (s : State) (f : Fld) (v : Bool) : (s.wrb f v).prog = s.prog := rfl
@[simp] theorem State.wrb_memory (s : State) (f : Fld) (v : Bool) : (s.wrb f v).memory = s.memory := rfl
@[simp] theorem State.wrb_cox (s : State) (f : Fld) (v : Bool) : (s.wrb f v).cox = s.cox := rfl
@[simp] theorem State.wrb_force (s : State) (f : Fld) (v : Bool) : (s.wrb f v).force = s.force := rfl
@[simp] theorem State.wrb_pwr (s : State) (f : Fld) (v : Bool) : (s.wrb f v).pwr = s.pwr := rfl
@[simp] theorem State.wrb_edit (s : State) (f : Fld) (v : Bool) : (s.wrb f v).edit = s.edit := rfl
@[simp] theorem State.wrb_loop (s : State) (f : Fld) (v : Bool) : (s.wrb f v).loop = s.loop := rfl
@[simp] theorem State.wrb_clk (s : State) (f : Fld) (v : Bool) : (s.wrb f v).clk = s.clk := rfl
@[simp] theorem State.wrb_wdt (s : State) (f : Fld) (v : Bool) : (s.wrb f v).wdt = s.wdt := rfl
@[simp] theorem State.wrb_rtc (s : State) (f : Fld) (v : Bool) : (s.wrb f v).rtc = s.rtc := rfl
@[simp] theorem State.wrb_dio (s : State) (f : Fld) (v : Bool) : (s.wrb f v).dio = s.dio := rfl
@[simp] theorem State.wrb_panel (s : State) (f : Fld) (v : Bool) : (s.wrb f v).panel = s.panel := rfl
@[simp] theorem State.wrb_mbx (s : State) (f : Fld) (v : Bool) : (s.wrb f v).mbx = s.mbx := rfl
@[simp] theorem State.wrb_spare (s : State) (f : Fld) (v : Bool) : (s.wrb f v).spare = s.spare := rfl
@[simp] theorem State.wrb_upd (s : State) (f : Fld) (v : Bool) : (s.wrb f v).upd = s.upd := rfl
@[simp] theorem State.wrb_sec (s : State) (f : Fld) (v : Bool) : (s.wrb f v).sec = s.sec := rfl
@[simp] theorem State.wrb_fbc (s : State) (f : Fld) (v : Bool) : (s.wrb f v).fbc = s.fbc := rfl
@[simp] theorem State.wrb_pair (s : State) (f : Fld) (v : Bool) : (s.wrb f v).pair = s.pair := rfl
@[simp] theorem State.wrb_net (s : State) (f : Fld) (v : Bool) : (s.wrb f v).net = s.net := rfl
@[simp] theorem State.wrb_radio (s : State) (f : Fld) (v : Bool) : (s.wrb f v).radio = s.radio := rfl
@[simp] theorem State.wrb_can (s : State) (f : Fld) (v : Bool) : (s.wrb f v).can = s.can := rfl

/-! ### State.wrInt -/

@[simp] theorem State.wrInt_pending (s : State) (f : Fld) (v : Int) : (s.wrInt f v).pending = s.pending := rfl
@[simp] theorem State.wrInt_tb (s : State) (f : Fld) (v : Int) : (s.wrInt f v).tb = s.tb := rfl
@[simp] theorem State.wrInt_fresh (s : State) (f : Fld) (v : Int) : (s.wrInt f v).fresh = s.fresh := rfl
@[simp] theorem State.wrInt_mem (s : State) (f : Fld) (v : Int) : (s.wrInt f v).mem = s.mem := rfl
@[simp] theorem State.wrInt_wire (s : State) (f : Fld) (v : Int) : (s.wrInt f v).wire = s.wire := rfl
@[simp] theorem State.wrInt_evt (s : State) (f : Fld) (v : Int) : (s.wrInt f v).evt = s.evt := rfl
@[simp] theorem State.wrInt_recorder (s : State) (f : Fld) (v : Int) : (s.wrInt f v).recorder = s.recorder := rfl
@[simp] theorem State.wrInt_sys (s : State) (f : Fld) (v : Int) : (s.wrInt f v).sys = s.sys := rfl
@[simp] theorem State.wrInt_exec (s : State) (f : Fld) (v : Int) : (s.wrInt f v).exec = s.exec := rfl
@[simp] theorem State.wrInt_prog (s : State) (f : Fld) (v : Int) : (s.wrInt f v).prog = s.prog := rfl
@[simp] theorem State.wrInt_memory (s : State) (f : Fld) (v : Int) : (s.wrInt f v).memory = s.memory := rfl
@[simp] theorem State.wrInt_cox (s : State) (f : Fld) (v : Int) : (s.wrInt f v).cox = s.cox := rfl
@[simp] theorem State.wrInt_force (s : State) (f : Fld) (v : Int) : (s.wrInt f v).force = s.force := rfl
@[simp] theorem State.wrInt_pwr (s : State) (f : Fld) (v : Int) : (s.wrInt f v).pwr = s.pwr := rfl
@[simp] theorem State.wrInt_edit (s : State) (f : Fld) (v : Int) : (s.wrInt f v).edit = s.edit := rfl
@[simp] theorem State.wrInt_loop (s : State) (f : Fld) (v : Int) : (s.wrInt f v).loop = s.loop := rfl
@[simp] theorem State.wrInt_clk (s : State) (f : Fld) (v : Int) : (s.wrInt f v).clk = s.clk := rfl
@[simp] theorem State.wrInt_wdt (s : State) (f : Fld) (v : Int) : (s.wrInt f v).wdt = s.wdt := rfl
@[simp] theorem State.wrInt_rtc (s : State) (f : Fld) (v : Int) : (s.wrInt f v).rtc = s.rtc := rfl
@[simp] theorem State.wrInt_dio (s : State) (f : Fld) (v : Int) : (s.wrInt f v).dio = s.dio := rfl
@[simp] theorem State.wrInt_panel (s : State) (f : Fld) (v : Int) : (s.wrInt f v).panel = s.panel := rfl
@[simp] theorem State.wrInt_mbx (s : State) (f : Fld) (v : Int) : (s.wrInt f v).mbx = s.mbx := rfl
@[simp] theorem State.wrInt_spare (s : State) (f : Fld) (v : Int) : (s.wrInt f v).spare = s.spare := rfl
@[simp] theorem State.wrInt_upd (s : State) (f : Fld) (v : Int) : (s.wrInt f v).upd = s.upd := rfl
@[simp] theorem State.wrInt_sec (s : State) (f : Fld) (v : Int) : (s.wrInt f v).sec = s.sec := rfl
@[simp] theorem State.wrInt_fbc (s : State) (f : Fld) (v : Int) : (s.wrInt f v).fbc = s.fbc := rfl
@[simp] theorem State.wrInt_pair (s : State) (f : Fld) (v : Int) : (s.wrInt f v).pair = s.pair := rfl
@[simp] theorem State.wrInt_net (s : State) (f : Fld) (v : Int) : (s.wrInt f v).net = s.net := rfl
@[simp] theorem State.wrInt_radio (s : State) (f : Fld) (v : Int) : (s.wrInt f v).radio = s.radio := rfl
@[simp] theorem State.wrInt_can (s : State) (f : Fld) (v : Int) : (s.wrInt f v).can = s.can := rfl

/-! ### State.incBy -/

@[simp] theorem State.incBy_pending (s : State) (f : Fld) (n : Nat) : (s.incBy f n).pending = s.pending := rfl
@[simp] theorem State.incBy_tb (s : State) (f : Fld) (n : Nat) : (s.incBy f n).tb = s.tb := rfl
@[simp] theorem State.incBy_fresh (s : State) (f : Fld) (n : Nat) : (s.incBy f n).fresh = s.fresh := rfl
@[simp] theorem State.incBy_mem (s : State) (f : Fld) (n : Nat) : (s.incBy f n).mem = s.mem := rfl
@[simp] theorem State.incBy_wire (s : State) (f : Fld) (n : Nat) : (s.incBy f n).wire = s.wire := rfl
@[simp] theorem State.incBy_evt (s : State) (f : Fld) (n : Nat) : (s.incBy f n).evt = s.evt := rfl
@[simp] theorem State.incBy_recorder (s : State) (f : Fld) (n : Nat) : (s.incBy f n).recorder = s.recorder := rfl
@[simp] theorem State.incBy_sys (s : State) (f : Fld) (n : Nat) : (s.incBy f n).sys = s.sys := rfl
@[simp] theorem State.incBy_exec (s : State) (f : Fld) (n : Nat) : (s.incBy f n).exec = s.exec := rfl
@[simp] theorem State.incBy_prog (s : State) (f : Fld) (n : Nat) : (s.incBy f n).prog = s.prog := rfl
@[simp] theorem State.incBy_memory (s : State) (f : Fld) (n : Nat) : (s.incBy f n).memory = s.memory := rfl
@[simp] theorem State.incBy_cox (s : State) (f : Fld) (n : Nat) : (s.incBy f n).cox = s.cox := rfl
@[simp] theorem State.incBy_force (s : State) (f : Fld) (n : Nat) : (s.incBy f n).force = s.force := rfl
@[simp] theorem State.incBy_pwr (s : State) (f : Fld) (n : Nat) : (s.incBy f n).pwr = s.pwr := rfl
@[simp] theorem State.incBy_edit (s : State) (f : Fld) (n : Nat) : (s.incBy f n).edit = s.edit := rfl
@[simp] theorem State.incBy_loop (s : State) (f : Fld) (n : Nat) : (s.incBy f n).loop = s.loop := rfl
@[simp] theorem State.incBy_clk (s : State) (f : Fld) (n : Nat) : (s.incBy f n).clk = s.clk := rfl
@[simp] theorem State.incBy_wdt (s : State) (f : Fld) (n : Nat) : (s.incBy f n).wdt = s.wdt := rfl
@[simp] theorem State.incBy_rtc (s : State) (f : Fld) (n : Nat) : (s.incBy f n).rtc = s.rtc := rfl
@[simp] theorem State.incBy_dio (s : State) (f : Fld) (n : Nat) : (s.incBy f n).dio = s.dio := rfl
@[simp] theorem State.incBy_panel (s : State) (f : Fld) (n : Nat) : (s.incBy f n).panel = s.panel := rfl
@[simp] theorem State.incBy_mbx (s : State) (f : Fld) (n : Nat) : (s.incBy f n).mbx = s.mbx := rfl
@[simp] theorem State.incBy_spare (s : State) (f : Fld) (n : Nat) : (s.incBy f n).spare = s.spare := rfl
@[simp] theorem State.incBy_upd (s : State) (f : Fld) (n : Nat) : (s.incBy f n).upd = s.upd := rfl
@[simp] theorem State.incBy_sec (s : State) (f : Fld) (n : Nat) : (s.incBy f n).sec = s.sec := rfl
@[simp] theorem State.incBy_fbc (s : State) (f : Fld) (n : Nat) : (s.incBy f n).fbc = s.fbc := rfl
@[simp] theorem State.incBy_pair (s : State) (f : Fld) (n : Nat) : (s.incBy f n).pair = s.pair := rfl
@[simp] theorem State.incBy_net (s : State) (f : Fld) (n : Nat) : (s.incBy f n).net = s.net := rfl
@[simp] theorem State.incBy_radio (s : State) (f : Fld) (n : Nat) : (s.incBy f n).radio = s.radio := rfl
@[simp] theorem State.incBy_can (s : State) (f : Fld) (n : Nat) : (s.incBy f n).can = s.can := rfl

/-! ### State.incWrap -/

@[simp] theorem State.incWrap_pending (s : State) (f : Fld) : (s.incWrap f).pending = s.pending := rfl
@[simp] theorem State.incWrap_tb (s : State) (f : Fld) : (s.incWrap f).tb = s.tb := rfl
@[simp] theorem State.incWrap_fresh (s : State) (f : Fld) : (s.incWrap f).fresh = s.fresh := rfl
@[simp] theorem State.incWrap_mem (s : State) (f : Fld) : (s.incWrap f).mem = s.mem := rfl
@[simp] theorem State.incWrap_wire (s : State) (f : Fld) : (s.incWrap f).wire = s.wire := rfl
@[simp] theorem State.incWrap_evt (s : State) (f : Fld) : (s.incWrap f).evt = s.evt := rfl
@[simp] theorem State.incWrap_recorder (s : State) (f : Fld) : (s.incWrap f).recorder = s.recorder := rfl
@[simp] theorem State.incWrap_sys (s : State) (f : Fld) : (s.incWrap f).sys = s.sys := rfl
@[simp] theorem State.incWrap_exec (s : State) (f : Fld) : (s.incWrap f).exec = s.exec := rfl
@[simp] theorem State.incWrap_prog (s : State) (f : Fld) : (s.incWrap f).prog = s.prog := rfl
@[simp] theorem State.incWrap_memory (s : State) (f : Fld) : (s.incWrap f).memory = s.memory := rfl
@[simp] theorem State.incWrap_cox (s : State) (f : Fld) : (s.incWrap f).cox = s.cox := rfl
@[simp] theorem State.incWrap_force (s : State) (f : Fld) : (s.incWrap f).force = s.force := rfl
@[simp] theorem State.incWrap_pwr (s : State) (f : Fld) : (s.incWrap f).pwr = s.pwr := rfl
@[simp] theorem State.incWrap_edit (s : State) (f : Fld) : (s.incWrap f).edit = s.edit := rfl
@[simp] theorem State.incWrap_loop (s : State) (f : Fld) : (s.incWrap f).loop = s.loop := rfl
@[simp] theorem State.incWrap_clk (s : State) (f : Fld) : (s.incWrap f).clk = s.clk := rfl
@[simp] theorem State.incWrap_wdt (s : State) (f : Fld) : (s.incWrap f).wdt = s.wdt := rfl
@[simp] theorem State.incWrap_rtc (s : State) (f : Fld) : (s.incWrap f).rtc = s.rtc := rfl
@[simp] theorem State.incWrap_dio (s : State) (f : Fld) : (s.incWrap f).dio = s.dio := rfl
@[simp] theorem State.incWrap_panel (s : State) (f : Fld) : (s.incWrap f).panel = s.panel := rfl
@[simp] theorem State.incWrap_mbx (s : State) (f : Fld) : (s.incWrap f).mbx = s.mbx := rfl
@[simp] theorem State.incWrap_spare (s : State) (f : Fld) : (s.incWrap f).spare = s.spare := rfl
@[simp] theorem State.incWrap_upd (s : State) (f : Fld) : (s.incWrap f).upd = s.upd := rfl
@[simp] theorem State.incWrap_sec (s : State) (f : Fld) : (s.incWrap f).sec = s.sec := rfl
@[simp] theorem State.incWrap_fbc (s : State) (f : Fld) : (s.incWrap f).fbc = s.fbc := rfl
@[simp] theorem State.incWrap_pair (s : State) (f : Fld) : (s.incWrap f).pair = s.pair := rfl
@[simp] theorem State.incWrap_net (s : State) (f : Fld) : (s.incWrap f).net = s.net := rfl
@[simp] theorem State.incWrap_radio (s : State) (f : Fld) : (s.incWrap f).radio = s.radio := rfl
@[simp] theorem State.incWrap_can (s : State) (f : Fld) : (s.incWrap f).can = s.can := rfl

/-! ### State.wr64 -/

@[simp] theorem State.wr64_pending (s : State) (a v : Nat) : (s.wr64 a v).pending = s.pending := rfl
@[simp] theorem State.wr64_tb (s : State) (a v : Nat) : (s.wr64 a v).tb = s.tb := rfl
@[simp] theorem State.wr64_fresh (s : State) (a v : Nat) : (s.wr64 a v).fresh = s.fresh := rfl
@[simp] theorem State.wr64_mem (s : State) (a v : Nat) : (s.wr64 a v).mem = s.mem := rfl
@[simp] theorem State.wr64_wire (s : State) (a v : Nat) : (s.wr64 a v).wire = s.wire := rfl
@[simp] theorem State.wr64_evt (s : State) (a v : Nat) : (s.wr64 a v).evt = s.evt := rfl
@[simp] theorem State.wr64_recorder (s : State) (a v : Nat) : (s.wr64 a v).recorder = s.recorder := rfl
@[simp] theorem State.wr64_sys (s : State) (a v : Nat) : (s.wr64 a v).sys = s.sys := rfl
@[simp] theorem State.wr64_exec (s : State) (a v : Nat) : (s.wr64 a v).exec = s.exec := rfl
@[simp] theorem State.wr64_prog (s : State) (a v : Nat) : (s.wr64 a v).prog = s.prog := rfl
@[simp] theorem State.wr64_memory (s : State) (a v : Nat) : (s.wr64 a v).memory = s.memory := rfl
@[simp] theorem State.wr64_cox (s : State) (a v : Nat) : (s.wr64 a v).cox = s.cox := rfl
@[simp] theorem State.wr64_force (s : State) (a v : Nat) : (s.wr64 a v).force = s.force := rfl
@[simp] theorem State.wr64_pwr (s : State) (a v : Nat) : (s.wr64 a v).pwr = s.pwr := rfl
@[simp] theorem State.wr64_edit (s : State) (a v : Nat) : (s.wr64 a v).edit = s.edit := rfl
@[simp] theorem State.wr64_loop (s : State) (a v : Nat) : (s.wr64 a v).loop = s.loop := rfl
@[simp] theorem State.wr64_clk (s : State) (a v : Nat) : (s.wr64 a v).clk = s.clk := rfl
@[simp] theorem State.wr64_wdt (s : State) (a v : Nat) : (s.wr64 a v).wdt = s.wdt := rfl
@[simp] theorem State.wr64_rtc (s : State) (a v : Nat) : (s.wr64 a v).rtc = s.rtc := rfl
@[simp] theorem State.wr64_dio (s : State) (a v : Nat) : (s.wr64 a v).dio = s.dio := rfl
@[simp] theorem State.wr64_panel (s : State) (a v : Nat) : (s.wr64 a v).panel = s.panel := rfl
@[simp] theorem State.wr64_mbx (s : State) (a v : Nat) : (s.wr64 a v).mbx = s.mbx := rfl
@[simp] theorem State.wr64_spare (s : State) (a v : Nat) : (s.wr64 a v).spare = s.spare := rfl
@[simp] theorem State.wr64_upd (s : State) (a v : Nat) : (s.wr64 a v).upd = s.upd := rfl
@[simp] theorem State.wr64_sec (s : State) (a v : Nat) : (s.wr64 a v).sec = s.sec := rfl
@[simp] theorem State.wr64_fbc (s : State) (a v : Nat) : (s.wr64 a v).fbc = s.fbc := rfl
@[simp] theorem State.wr64_pair (s : State) (a v : Nat) : (s.wr64 a v).pair = s.pair := rfl
@[simp] theorem State.wr64_net (s : State) (a v : Nat) : (s.wr64 a v).net = s.net := rfl
@[simp] theorem State.wr64_radio (s : State) (a v : Nat) : (s.wr64 a v).radio = s.radio := rfl
@[simp] theorem State.wr64_can (s : State) (a v : Nat) : (s.wr64 a v).can = s.can := rfl

/-! ### State.used -/

@[simp] theorem State.used_pending (s : State)  : (s.used).pending = s.pending := rfl
@[simp] theorem State.used_regs (s : State)  : (s.used).regs = s.regs := rfl
@[simp] theorem State.used_tb (s : State)  : (s.used).tb = s.tb := rfl
@[simp] theorem State.used_mem (s : State)  : (s.used).mem = s.mem := rfl
@[simp] theorem State.used_wire (s : State)  : (s.used).wire = s.wire := rfl
@[simp] theorem State.used_evt (s : State)  : (s.used).evt = s.evt := rfl
@[simp] theorem State.used_recorder (s : State)  : (s.used).recorder = s.recorder := rfl
@[simp] theorem State.used_sys (s : State)  : (s.used).sys = s.sys := rfl
@[simp] theorem State.used_exec (s : State)  : (s.used).exec = s.exec := rfl
@[simp] theorem State.used_prog (s : State)  : (s.used).prog = s.prog := rfl
@[simp] theorem State.used_memory (s : State)  : (s.used).memory = s.memory := rfl
@[simp] theorem State.used_cox (s : State)  : (s.used).cox = s.cox := rfl
@[simp] theorem State.used_force (s : State)  : (s.used).force = s.force := rfl
@[simp] theorem State.used_pwr (s : State)  : (s.used).pwr = s.pwr := rfl
@[simp] theorem State.used_edit (s : State)  : (s.used).edit = s.edit := rfl
@[simp] theorem State.used_loop (s : State)  : (s.used).loop = s.loop := rfl
@[simp] theorem State.used_clk (s : State)  : (s.used).clk = s.clk := rfl
@[simp] theorem State.used_wdt (s : State)  : (s.used).wdt = s.wdt := rfl
@[simp] theorem State.used_rtc (s : State)  : (s.used).rtc = s.rtc := rfl
@[simp] theorem State.used_dio (s : State)  : (s.used).dio = s.dio := rfl
@[simp] theorem State.used_panel (s : State)  : (s.used).panel = s.panel := rfl
@[simp] theorem State.used_mbx (s : State)  : (s.used).mbx = s.mbx := rfl
@[simp] theorem State.used_spare (s : State)  : (s.used).spare = s.spare := rfl
@[simp] theorem State.used_upd (s : State)  : (s.used).upd = s.upd := rfl
@[simp] theorem State.used_sec (s : State)  : (s.used).sec = s.sec := rfl
@[simp] theorem State.used_fbc (s : State)  : (s.used).fbc = s.fbc := rfl
@[simp] theorem State.used_pair (s : State)  : (s.used).pair = s.pair := rfl
@[simp] theorem State.used_net (s : State)  : (s.used).net = s.net := rfl
@[simp] theorem State.used_radio (s : State)  : (s.used).radio = s.radio := rfl
@[simp] theorem State.used_can (s : State)  : (s.used).can = s.can := rfl

/-! ### State.out -/

@[simp] theorem State.out_pending (s : State) (w : Wire) : (s.out w).pending = s.pending := rfl
@[simp] theorem State.out_regs (s : State) (w : Wire) : (s.out w).regs = s.regs := rfl
@[simp] theorem State.out_tb (s : State) (w : Wire) : (s.out w).tb = s.tb := rfl
@[simp] theorem State.out_fresh (s : State) (w : Wire) : (s.out w).fresh = s.fresh := rfl
@[simp] theorem State.out_mem (s : State) (w : Wire) : (s.out w).mem = s.mem := rfl
@[simp] theorem State.out_evt (s : State) (w : Wire) : (s.out w).evt = s.evt := rfl
@[simp] theorem State.out_recorder (s : State) (w : Wire) : (s.out w).recorder = s.recorder := rfl
@[simp] theorem State.out_sys (s : State) (w : Wire) : (s.out w).sys = s.sys := rfl
@[simp] theorem State.out_exec (s : State) (w : Wire) : (s.out w).exec = s.exec := rfl
@[simp] theorem State.out_prog (s : State) (w : Wire) : (s.out w).prog = s.prog := rfl
@[simp] theorem State.out_memory (s : State) (w : Wire) : (s.out w).memory = s.memory := rfl
@[simp] theorem State.out_cox (s : State) (w : Wire) : (s.out w).cox = s.cox := rfl
@[simp] theorem State.out_force (s : State) (w : Wire) : (s.out w).force = s.force := rfl
@[simp] theorem State.out_pwr (s : State) (w : Wire) : (s.out w).pwr = s.pwr := rfl
@[simp] theorem State.out_edit (s : State) (w : Wire) : (s.out w).edit = s.edit := rfl
@[simp] theorem State.out_loop (s : State) (w : Wire) : (s.out w).loop = s.loop := rfl
@[simp] theorem State.out_clk (s : State) (w : Wire) : (s.out w).clk = s.clk := rfl
@[simp] theorem State.out_wdt (s : State) (w : Wire) : (s.out w).wdt = s.wdt := rfl
@[simp] theorem State.out_rtc (s : State) (w : Wire) : (s.out w).rtc = s.rtc := rfl
@[simp] theorem State.out_dio (s : State) (w : Wire) : (s.out w).dio = s.dio := rfl
@[simp] theorem State.out_panel (s : State) (w : Wire) : (s.out w).panel = s.panel := rfl
@[simp] theorem State.out_mbx (s : State) (w : Wire) : (s.out w).mbx = s.mbx := rfl
@[simp] theorem State.out_spare (s : State) (w : Wire) : (s.out w).spare = s.spare := rfl
@[simp] theorem State.out_upd (s : State) (w : Wire) : (s.out w).upd = s.upd := rfl
@[simp] theorem State.out_sec (s : State) (w : Wire) : (s.out w).sec = s.sec := rfl
@[simp] theorem State.out_fbc (s : State) (w : Wire) : (s.out w).fbc = s.fbc := rfl
@[simp] theorem State.out_pair (s : State) (w : Wire) : (s.out w).pair = s.pair := rfl
@[simp] theorem State.out_net (s : State) (w : Wire) : (s.out w).net = s.net := rfl
@[simp] theorem State.out_radio (s : State) (w : Wire) : (s.out w).radio = s.radio := rfl
@[simp] theorem State.out_can (s : State) (w : Wire) : (s.out w).can = s.can := rfl

/-! ### State.setQueue -/

@[simp] theorem State.setQueue_pending (s : State) (n : Nat) (q : List EvEntry) : (s.setQueue n q).pending = s.pending := rfl
@[simp] theorem State.setQueue_regs (s : State) (n : Nat) (q : List EvEntry) : (s.setQueue n q).regs = s.regs := rfl
@[simp] theorem State.setQueue_tb (s : State) (n : Nat) (q : List EvEntry) : (s.setQueue n q).tb = s.tb := rfl
@[simp] theorem State.setQueue_fresh (s : State) (n : Nat) (q : List EvEntry) : (s.setQueue n q).fresh = s.fresh := rfl
@[simp] theorem State.setQueue_mem (s : State) (n : Nat) (q : List EvEntry) : (s.setQueue n q).mem = s.mem := rfl
@[simp] theorem State.setQueue_wire (s : State) (n : Nat) (q : List EvEntry) : (s.setQueue n q).wire = s.wire := rfl
@[simp] theorem State.setQueue_recorder (s : State) (n : Nat) (q : List EvEntry) : (s.setQueue n q).recorder = s.recorder := rfl
@[simp] theorem State.setQueue_sys (s : State) (n : Nat) (q : List EvEntry) : (s.setQueue n q).sys = s.sys := rfl
@[simp] theorem State.setQueue_exec (s : State) (n : Nat) (q : List EvEntry) : (s.setQueue n q).exec = s.exec := rfl
@[simp] theorem State.setQueue_prog (s : State) (n : Nat) (q : List EvEntry) : (s.setQueue n q).prog = s.prog := rfl
@[simp] theorem State.setQueue_memory (s : State) (n : Nat) (q : List EvEntry) : (s.setQueue n q).memory = s.memory := rfl
@[simp] theorem State.setQueue_cox (s : State) (n : Nat) (q : List EvEntry) : (s.setQueue n q).cox = s.cox := rfl
@[simp] theorem State.setQueue_force (s : State) (n : Nat) (q : List EvEntry) : (s.setQueue n q).force = s.force := rfl
@[simp] theorem State.setQueue_pwr (s : State) (n : Nat) (q : List EvEntry) : (s.setQueue n q).pwr = s.pwr := rfl
@[simp] theorem State.setQueue_edit (s : State) (n : Nat) (q : List EvEntry) : (s.setQueue n q).edit = s.edit := rfl
@[simp] theorem State.setQueue_loop (s : State) (n : Nat) (q : List EvEntry) : (s.setQueue n q).loop = s.loop := rfl
@[simp] theorem State.setQueue_clk (s : State) (n : Nat) (q : List EvEntry) : (s.setQueue n q).clk = s.clk := rfl
@[simp] theorem State.setQueue_wdt (s : State) (n : Nat) (q : List EvEntry) : (s.setQueue n q).wdt = s.wdt := rfl
@[simp] theorem State.setQueue_rtc (s : State) (n : Nat) (q : List EvEntry) : (s.setQueue n q).rtc = s.rtc := rfl
@[simp] theorem State.setQueue_dio (s : State) (n : Nat) (q : List EvEntry) : (s.setQueue n q).dio = s.dio := rfl
@[simp] theorem State.setQueue_panel (s : State) (n : Nat) (q : List EvEntry) : (s.setQueue n q).panel = s.panel := rfl
@[simp] theorem State.setQueue_mbx (s : State) (n : Nat) (q : List EvEntry) : (s.setQueue n q).mbx = s.mbx := rfl
@[simp] theorem State.setQueue_spare (s : State) (n : Nat) (q : List EvEntry) : (s.setQueue n q).spare = s.spare := rfl
@[simp] theorem State.setQueue_upd (s : State) (n : Nat) (q : List EvEntry) : (s.setQueue n q).upd = s.upd := rfl
@[simp] theorem State.setQueue_sec (s : State) (n : Nat) (q : List EvEntry) : (s.setQueue n q).sec = s.sec := rfl
@[simp] theorem State.setQueue_fbc (s : State) (n : Nat) (q : List EvEntry) : (s.setQueue n q).fbc = s.fbc := rfl
@[simp] theorem State.setQueue_pair (s : State) (n : Nat) (q : List EvEntry) : (s.setQueue n q).pair = s.pair := rfl
@[simp] theorem State.setQueue_net (s : State) (n : Nat) (q : List EvEntry) : (s.setQueue n q).net = s.net := rfl
@[simp] theorem State.setQueue_radio (s : State) (n : Nat) (q : List EvEntry) : (s.setQueue n q).radio = s.radio := rfl
@[simp] theorem State.setQueue_can (s : State) (n : Nat) (q : List EvEntry) : (s.setQueue n q).can = s.can := rfl

/-! ### State.setByte -/

@[simp] theorem State.setByte_pending (s : State) (a : Nat) (v : Byte) : (s.setByte a v).pending = s.pending := rfl
@[simp] theorem State.setByte_regs (s : State) (a : Nat) (v : Byte) : (s.setByte a v).regs = s.regs := rfl
@[simp] theorem State.setByte_tb (s : State) (a : Nat) (v : Byte) : (s.setByte a v).tb = s.tb := rfl
@[simp] theorem State.setByte_fresh (s : State) (a : Nat) (v : Byte) : (s.setByte a v).fresh = s.fresh := rfl
@[simp] theorem State.setByte_wire (s : State) (a : Nat) (v : Byte) : (s.setByte a v).wire = s.wire := rfl
@[simp] theorem State.setByte_evt (s : State) (a : Nat) (v : Byte) : (s.setByte a v).evt = s.evt := rfl
@[simp] theorem State.setByte_recorder (s : State) (a : Nat) (v : Byte) : (s.setByte a v).recorder = s.recorder := rfl
@[simp] theorem State.setByte_sys (s : State) (a : Nat) (v : Byte) : (s.setByte a v).sys = s.sys := rfl
@[simp] theorem State.setByte_exec (s : State) (a : Nat) (v : Byte) : (s.setByte a v).exec = s.exec := rfl
@[simp] theorem State.setByte_prog (s : State) (a : Nat) (v : Byte) : (s.setByte a v).prog = s.prog := rfl
@[simp] theorem State.setByte_memory (s : State) (a : Nat) (v : Byte) : (s.setByte a v).memory = s.memory := rfl
@[simp] theorem State.setByte_cox (s : State) (a : Nat) (v : Byte) : (s.setByte a v).cox = s.cox := rfl
@[simp] theorem State.setByte_force (s : State) (a : Nat) (v : Byte) : (s.setByte a v).force = s.force := rfl
@[simp] theorem State.setByte_pwr (s : State) (a : Nat) (v : Byte) : (s.setByte a v).pwr = s.pwr := rfl
@[simp] theorem State.setByte_edit (s : State) (a : Nat) (v : Byte) : (s.setByte a v).edit = s.edit := rfl
@[simp] theorem State.setByte_loop (s : State) (a : Nat) (v : Byte) : (s.setByte a v).loop = s.loop := rfl
@[simp] theorem State.setByte_clk (s : State) (a : Nat) (v : Byte) : (s.setByte a v).clk = s.clk := rfl
@[simp] theorem State.setByte_wdt (s : State) (a : Nat) (v : Byte) : (s.setByte a v).wdt = s.wdt := rfl
@[simp] theorem State.setByte_rtc (s : State) (a : Nat) (v : Byte) : (s.setByte a v).rtc = s.rtc := rfl
@[simp] theorem State.setByte_dio (s : State) (a : Nat) (v : Byte) : (s.setByte a v).dio = s.dio := rfl
@[simp] theorem State.setByte_panel (s : State) (a : Nat) (v : Byte) : (s.setByte a v).panel = s.panel := rfl
@[simp] theorem State.setByte_mbx (s : State) (a : Nat) (v : Byte) : (s.setByte a v).mbx = s.mbx := rfl
@[simp] theorem State.setByte_spare (s : State) (a : Nat) (v : Byte) : (s.setByte a v).spare = s.spare := rfl
@[simp] theorem State.setByte_upd (s : State) (a : Nat) (v : Byte) : (s.setByte a v).upd = s.upd := rfl
@[simp] theorem State.setByte_sec (s : State) (a : Nat) (v : Byte) : (s.setByte a v).sec = s.sec := rfl
@[simp] theorem State.setByte_fbc (s : State) (a : Nat) (v : Byte) : (s.setByte a v).fbc = s.fbc := rfl
@[simp] theorem State.setByte_pair (s : State) (a : Nat) (v : Byte) : (s.setByte a v).pair = s.pair := rfl
@[simp] theorem State.setByte_net (s : State) (a : Nat) (v : Byte) : (s.setByte a v).net = s.net := rfl
@[simp] theorem State.setByte_radio (s : State) (a : Nat) (v : Byte) : (s.setByte a v).radio = s.radio := rfl
@[simp] theorem State.setByte_can (s : State) (a : Nat) (v : Byte) : (s.setByte a v).can = s.can := rfl

/-! ### State.inc -/

@[simp] theorem State.inc_pending (s : State) (f : Fld) : (s.inc f).pending = s.pending := by unfold State.inc; split <;> rfl
@[simp] theorem State.inc_tb (s : State) (f : Fld) : (s.inc f).tb = s.tb := by unfold State.inc; split <;> rfl
@[simp] theorem State.inc_fresh (s : State) (f : Fld) : (s.inc f).fresh = s.fresh := by unfold State.inc; split <;> rfl
@[simp] theorem State.inc_mem (s : State) (f : Fld) : (s.inc f).mem = s.mem := by unfold State.inc; split <;> rfl
@[simp] theorem State.inc_wire (s : State) (f : Fld) : (s.inc f).wire = s.wire := by unfold State.inc; split <;> rfl
@[simp] theorem State.inc_evt (s : State) (f : Fld) : (s.inc f).evt = s.evt := by unfold State.inc; split <;> rfl
@[simp] theorem State.inc_recorder (s : State) (f : Fld) : (s.inc f).recorder = s.recorder := by unfold State.inc; split <;> rfl
@[simp] theorem State.inc_sys (s : State) (f : Fld) : (s.inc f).sys = s.sys := by unfold State.inc; split <;> rfl
@[simp] theorem State.inc_exec (s : State) (f : Fld) : (s.inc f).exec = s.exec := by unfold State.inc; split <;> rfl
@[simp] theorem State.inc_prog (s : State) (f : Fld) : (s.inc f).prog = s.prog := by unfold State.inc; split <;> rfl
@[simp] theorem State.inc_memory (s : State) (f : Fld) : (s.inc f).memory = s.memory := by unfold State.inc; split <;> rfl
@[simp] theorem State.inc_cox (s : State) (f : Fld) : (s.inc f).cox = s.cox := by unfold State.inc; split <;> rfl
@[simp] theorem State.inc_force (s : State) (f : Fld) : (s.inc f).force = s.force := by unfold State.inc; split <;> rfl
@[simp] theorem State.inc_pwr (s : State) (f : Fld) : (s.inc f).pwr = s.pwr := by unfold State.inc; split <;> rfl
@[simp] theorem State.inc_edit (s : State) (f : Fld) : (s.inc f).edit = s.edit := by unfold State.inc; split <;> rfl
@[simp] theorem State.inc_loop (s : State) (f : Fld) : (s.inc f).loop = s.loop := by unfold State.inc; split <;> rfl
@[simp] theorem State.inc_clk (s : State) (f : Fld) : (s.inc f).clk = s.clk := by unfold State.inc; split <;> rfl
@[simp] theorem State.inc_wdt (s : State) (f : Fld) : (s.inc f).wdt = s.wdt := by unfold State.inc; split <;> rfl
@[simp] theorem State.inc_rtc (s : State) (f : Fld) : (s.inc f).rtc = s.rtc := by unfold State.inc; split <;> rfl
@[simp] theorem State.inc_dio (s : State) (f : Fld) : (s.inc f).dio = s.dio := by unfold State.inc; split <;> rfl
@[simp] theorem State.inc_panel (s : State) (f : Fld) : (s.inc f).panel = s.panel := by unfold State.inc; split <;> rfl
@[simp] theorem State.inc_mbx (s : State) (f : Fld) : (s.inc f).mbx = s.mbx := by unfold State.inc; split <;> rfl
@[simp] theorem State.inc_spare (s : State) (f : Fld) : (s.inc f).spare = s.spare := by unfold State.inc; split <;> rfl
@[simp] theorem State.inc_upd (s : State) (f : Fld) : (s.inc f).upd = s.upd := by unfold State.inc; split <;> rfl
@[simp] theorem State.inc_sec (s : State) (f : Fld) : (s.inc f).sec = s.sec := by unfold State.inc; split <;> rfl
@[simp] theorem State.inc_fbc (s : State) (f : Fld) : (s.inc f).fbc = s.fbc := by unfold State.inc; split <;> rfl
@[simp] theorem State.inc_pair (s : State) (f : Fld) : (s.inc f).pair = s.pair := by unfold State.inc; split <;> rfl
@[simp] theorem State.inc_net (s : State) (f : Fld) : (s.inc f).net = s.net := by unfold State.inc; split <;> rfl
@[simp] theorem State.inc_radio (s : State) (f : Fld) : (s.inc f).radio = s.radio := by unfold State.inc; split <;> rfl
@[simp] theorem State.inc_can (s : State) (f : Fld) : (s.inc f).can = s.can := by unfold State.inc; split <;> rfl

/-! ### What the registers and the bytes of memory are read from -/

@[simp] theorem State.reg_used (s : State) (a : Nat) : s.used.reg a = s.reg a := rfl
@[simp] theorem State.rd_used (s : State) (f : Fld) : s.used.rd f = s.rd f := rfl
@[simp] theorem State.on_used (s : State) (f : Fld) : s.used.on f = s.on f := rfl
@[simp] theorem State.reg_out (s : State) (w : Wire) (a : Nat) : (s.out w).reg a = s.reg a := rfl
@[simp] theorem State.rd_out (s : State) (w : Wire) (f : Fld) : (s.out w).rd f = s.rd f := rfl
@[simp] theorem State.on_out (s : State) (w : Wire) (f : Fld) : (s.out w).on f = s.on f := rfl
@[simp] theorem State.reg_setQueue (s : State) (n : Nat) (q : List EvEntry) (a : Nat) : (s.setQueue n q).reg a = s.reg a := rfl
@[simp] theorem State.rd_setQueue (s : State) (n : Nat) (q : List EvEntry) (f : Fld) : (s.setQueue n q).rd f = s.rd f := rfl
@[simp] theorem State.on_setQueue (s : State) (n : Nat) (q : List EvEntry) (f : Fld) : (s.setQueue n q).on f = s.on f := rfl

end Sys2Proof.Machine
end

