-- ==== Sys2Proof/Laws/Ops.lean ====
section
/-!
SUPPORT. Laws/Ops.lean: everything that raising an event can change: the event controller, the recorder and the registers of
`evtReg`.
-/

namespace Sys2Proof.Machine

/-- The registers that queueing and recording an event can write: LOG's PG_EVPEND, EVT_OVFTOTAL, EVT_SRCSTAT, LOG_DROP. -/
def entryReg (a : Nat) : Bool :=
  decide (a = 0xC014 ∨ a = 0x4104 ∨ (0x5500 ≤ a ∧ a < 0x5900) ∨ (0xC160 ≤ a ∧ a < 0xC180))

/-- The registers that raising an event can write: these and PG_EVPEND of a page. -/
def evtReg (a : Nat) : Bool :=
  decide (a % 0x1000 = 0x14 ∨ a = 0x4104 ∨ (0x5500 ≤ a ∧ a < 0x5900) ∨ (0xC160 ≤ a ∧ a < 0xC180))

/-! ### State.enqueue -/

theorem State.enqueue_rest (s : State) (n code : Nat) (forced : Bool) (d : Word) :
    { s.enqueue n code forced d with regs := s.regs, evt := s.evt } = s := by unfold State.enqueue; (repeat' split) <;> simp

@[simp] theorem State.enqueue_pending (s : State) (n code : Nat) (forced : Bool) (d : Word) : (s.enqueue n code forced d).pending = s.pending := (congrArg State.pending (s.enqueue_rest n code forced d) :)
@[simp] theorem State.enqueue_tb (s : State) (n code : Nat) (forced : Bool) (d : Word) : (s.enqueue n code forced d).tb = s.tb := (congrArg State.tb (s.enqueue_rest n code forced d) :)
@[simp] theorem State.enqueue_fresh (s : State) (n code : Nat) (forced : Bool) (d : Word) : (s.enqueue n code forced d).fresh = s.fresh := (congrArg State.fresh (s.enqueue_rest n code forced d) :)
@[simp] theorem State.enqueue_mem (s : State) (n code : Nat) (forced : Bool) (d : Word) : (s.enqueue n code forced d).mem = s.mem := (congrArg State.mem (s.enqueue_rest n code forced d) :)
@[simp] theorem State.enqueue_wire (s : State) (n code : Nat) (forced : Bool) (d : Word) : (s.enqueue n code forced d).wire = s.wire := (congrArg State.wire (s.enqueue_rest n code forced d) :)
@[simp] theorem State.enqueue_recorder (s : State) (n code : Nat) (forced : Bool) (d : Word) : (s.enqueue n code forced d).recorder = s.recorder := (congrArg State.recorder (s.enqueue_rest n code forced d) :)
@[simp] theorem State.enqueue_sys (s : State) (n code : Nat) (forced : Bool) (d : Word) : (s.enqueue n code forced d).sys = s.sys := (congrArg State.sys (s.enqueue_rest n code forced d) :)
@[simp] theorem State.enqueue_exec (s : State) (n code : Nat) (forced : Bool) (d : Word) : (s.enqueue n code forced d).exec = s.exec := (congrArg State.exec (s.enqueue_rest n code forced d) :)
@[simp] theorem State.enqueue_prog (s : State) (n code : Nat) (forced : Bool) (d : Word) : (s.enqueue n code forced d).prog = s.prog := (congrArg State.prog (s.enqueue_rest n code forced d) :)
@[simp] theorem State.enqueue_memory (s : State) (n code : Nat) (forced : Bool) (d : Word) : (s.enqueue n code forced d).memory = s.memory := (congrArg State.memory (s.enqueue_rest n code forced d) :)
@[simp] theorem State.enqueue_cox (s : State) (n code : Nat) (forced : Bool) (d : Word) : (s.enqueue n code forced d).cox = s.cox := (congrArg State.cox (s.enqueue_rest n code forced d) :)
@[simp] theorem State.enqueue_force (s : State) (n code : Nat) (forced : Bool) (d : Word) : (s.enqueue n code forced d).force = s.force := (congrArg State.force (s.enqueue_rest n code forced d) :)
@[simp] theorem State.enqueue_pwr (s : State) (n code : Nat) (forced : Bool) (d : Word) : (s.enqueue n code forced d).pwr = s.pwr := (congrArg State.pwr (s.enqueue_rest n code forced d) :)
@[simp] theorem State.enqueue_edit (s : State) (n code : Nat) (forced : Bool) (d : Word) : (s.enqueue n code forced d).edit = s.edit := (congrArg State.edit (s.enqueue_rest n code forced d) :)
@[simp] theorem State.enqueue_loop (s : State) (n code : Nat) (forced : Bool) (d : Word) : (s.enqueue n code forced d).loop = s.loop := (congrArg State.loop (s.enqueue_rest n code forced d) :)
@[simp] theorem State.enqueue_clk (s : State) (n code : Nat) (forced : Bool) (d : Word) : (s.enqueue n code forced d).clk = s.clk := (congrArg State.clk (s.enqueue_rest n code forced d) :)
@[simp] theorem State.enqueue_wdt (s : State) (n code : Nat) (forced : Bool) (d : Word) : (s.enqueue n code forced d).wdt = s.wdt := (congrArg State.wdt (s.enqueue_rest n code forced d) :)
@[simp] theorem State.enqueue_rtc (s : State) (n code : Nat) (forced : Bool) (d : Word) : (s.enqueue n code forced d).rtc = s.rtc := (congrArg State.rtc (s.enqueue_rest n code forced d) :)
@[simp] theorem State.enqueue_dio (s : State) (n code : Nat) (forced : Bool) (d : Word) : (s.enqueue n code forced d).dio = s.dio := (congrArg State.dio (s.enqueue_rest n code forced d) :)
@[simp] theorem State.enqueue_panel (s : State) (n code : Nat) (forced : Bool) (d : Word) : (s.enqueue n code forced d).panel = s.panel := (congrArg State.panel (s.enqueue_rest n code forced d) :)
@[simp] theorem State.enqueue_mbx (s : State) (n code : Nat) (forced : Bool) (d : Word) : (s.enqueue n code forced d).mbx = s.mbx := (congrArg State.mbx (s.enqueue_rest n code forced d) :)
@[simp] theorem State.enqueue_spare (s : State) (n code : Nat) (forced : Bool) (d : Word) : (s.enqueue n code forced d).spare = s.spare := (congrArg State.spare (s.enqueue_rest n code forced d) :)
@[simp] theorem State.enqueue_upd (s : State) (n code : Nat) (forced : Bool) (d : Word) : (s.enqueue n code forced d).upd = s.upd := (congrArg State.upd (s.enqueue_rest n code forced d) :)
@[simp] theorem State.enqueue_sec (s : State) (n code : Nat) (forced : Bool) (d : Word) : (s.enqueue n code forced d).sec = s.sec := (congrArg State.sec (s.enqueue_rest n code forced d) :)
@[simp] theorem State.enqueue_fbc (s : State) (n code : Nat) (forced : Bool) (d : Word) : (s.enqueue n code forced d).fbc = s.fbc := (congrArg State.fbc (s.enqueue_rest n code forced d) :)
@[simp] theorem State.enqueue_pair (s : State) (n code : Nat) (forced : Bool) (d : Word) : (s.enqueue n code forced d).pair = s.pair := (congrArg State.pair (s.enqueue_rest n code forced d) :)
@[simp] theorem State.enqueue_net (s : State) (n code : Nat) (forced : Bool) (d : Word) : (s.enqueue n code forced d).net = s.net := (congrArg State.net (s.enqueue_rest n code forced d) :)
@[simp] theorem State.enqueue_radio (s : State) (n code : Nat) (forced : Bool) (d : Word) : (s.enqueue n code forced d).radio = s.radio := (congrArg State.radio (s.enqueue_rest n code forced d) :)
@[simp] theorem State.enqueue_can (s : State) (n code : Nat) (forced : Bool) (d : Word) : (s.enqueue n code forced d).can = s.can := (congrArg State.can (s.enqueue_rest n code forced d) :)

/-! ### State.dropRecord -/

theorem State.dropRecord_rest (s : State) (sev : Nat) :
    { s.dropRecord sev with regs := s.regs, evt := s.evt, recorder := s.recorder } = s := by unfold State.dropRecord; simp only []; (repeat' split) <;> simp

@[simp] theorem State.dropRecord_pending (s : State) (sev : Nat) : (s.dropRecord sev).pending = s.pending := (congrArg State.pending (s.dropRecord_rest sev) :)
@[simp] theorem State.dropRecord_tb (s : State) (sev : Nat) : (s.dropRecord sev).tb = s.tb := (congrArg State.tb (s.dropRecord_rest sev) :)
@[simp] theorem State.dropRecord_fresh (s : State) (sev : Nat) : (s.dropRecord sev).fresh = s.fresh := (congrArg State.fresh (s.dropRecord_rest sev) :)
@[simp] theorem State.dropRecord_mem (s : State) (sev : Nat) : (s.dropRecord sev).mem = s.mem := (congrArg State.mem (s.dropRecord_rest sev) :)
@[simp] theorem State.dropRecord_wire (s : State) (sev : Nat) : (s.dropRecord sev).wire = s.wire := (congrArg State.wire (s.dropRecord_rest sev) :)
@[simp] theorem State.dropRecord_sys (s : State) (sev : Nat) : (s.dropRecord sev).sys = s.sys := (congrArg State.sys (s.dropRecord_rest sev) :)
@[simp] theorem State.dropRecord_exec (s : State) (sev : Nat) : (s.dropRecord sev).exec = s.exec := (congrArg State.exec (s.dropRecord_rest sev) :)
@[simp] theorem State.dropRecord_prog (s : State) (sev : Nat) : (s.dropRecord sev).prog = s.prog := (congrArg State.prog (s.dropRecord_rest sev) :)
@[simp] theorem State.dropRecord_memory (s : State) (sev : Nat) : (s.dropRecord sev).memory = s.memory := (congrArg State.memory (s.dropRecord_rest sev) :)
@[simp] theorem State.dropRecord_cox (s : State) (sev : Nat) : (s.dropRecord sev).cox = s.cox := (congrArg State.cox (s.dropRecord_rest sev) :)
@[simp] theorem State.dropRecord_force (s : State) (sev : Nat) : (s.dropRecord sev).force = s.force := (congrArg State.force (s.dropRecord_rest sev) :)
@[simp] theorem State.dropRecord_pwr (s : State) (sev : Nat) : (s.dropRecord sev).pwr = s.pwr := (congrArg State.pwr (s.dropRecord_rest sev) :)
@[simp] theorem State.dropRecord_edit (s : State) (sev : Nat) : (s.dropRecord sev).edit = s.edit := (congrArg State.edit (s.dropRecord_rest sev) :)
@[simp] theorem State.dropRecord_loop (s : State) (sev : Nat) : (s.dropRecord sev).loop = s.loop := (congrArg State.loop (s.dropRecord_rest sev) :)
@[simp] theorem State.dropRecord_clk (s : State) (sev : Nat) : (s.dropRecord sev).clk = s.clk := (congrArg State.clk (s.dropRecord_rest sev) :)
@[simp] theorem State.dropRecord_wdt (s : State) (sev : Nat) : (s.dropRecord sev).wdt = s.wdt := (congrArg State.wdt (s.dropRecord_rest sev) :)
@[simp] theorem State.dropRecord_rtc (s : State) (sev : Nat) : (s.dropRecord sev).rtc = s.rtc := (congrArg State.rtc (s.dropRecord_rest sev) :)
@[simp] theorem State.dropRecord_dio (s : State) (sev : Nat) : (s.dropRecord sev).dio = s.dio := (congrArg State.dio (s.dropRecord_rest sev) :)
@[simp] theorem State.dropRecord_panel (s : State) (sev : Nat) : (s.dropRecord sev).panel = s.panel := (congrArg State.panel (s.dropRecord_rest sev) :)
@[simp] theorem State.dropRecord_mbx (s : State) (sev : Nat) : (s.dropRecord sev).mbx = s.mbx := (congrArg State.mbx (s.dropRecord_rest sev) :)
@[simp] theorem State.dropRecord_spare (s : State) (sev : Nat) : (s.dropRecord sev).spare = s.spare := (congrArg State.spare (s.dropRecord_rest sev) :)
@[simp] theorem State.dropRecord_upd (s : State) (sev : Nat) : (s.dropRecord sev).upd = s.upd := (congrArg State.upd (s.dropRecord_rest sev) :)
@[simp] theorem State.dropRecord_sec (s : State) (sev : Nat) : (s.dropRecord sev).sec = s.sec := (congrArg State.sec (s.dropRecord_rest sev) :)
@[simp] theorem State.dropRecord_fbc (s : State) (sev : Nat) : (s.dropRecord sev).fbc = s.fbc := (congrArg State.fbc (s.dropRecord_rest sev) :)
@[simp] theorem State.dropRecord_pair (s : State) (sev : Nat) : (s.dropRecord sev).pair = s.pair := (congrArg State.pair (s.dropRecord_rest sev) :)
@[simp] theorem State.dropRecord_net (s : State) (sev : Nat) : (s.dropRecord sev).net = s.net := (congrArg State.net (s.dropRecord_rest sev) :)
@[simp] theorem State.dropRecord_radio (s : State) (sev : Nat) : (s.dropRecord sev).radio = s.radio := (congrArg State.radio (s.dropRecord_rest sev) :)
@[simp] theorem State.dropRecord_can (s : State) (sev : Nat) : (s.dropRecord sev).can = s.can := (congrArg State.can (s.dropRecord_rest sev) :)

/-! ### State.stage -/

theorem State.stage_rest (s : State) (n code : Nat) (forced : Bool) (q sp d : Nat) (l : List Byte) (lost : Nat) :
    { s.stage n code forced q sp d l lost with regs := s.regs, evt := s.evt, recorder := s.recorder } = s := by unfold State.stage; split <;> simp

@[simp] theorem State.stage_pending (s : State) (n code : Nat) (forced : Bool) (q sp d : Nat) (l : List Byte) (lost : Nat) : (s.stage n code forced q sp d l lost).pending = s.pending := (congrArg State.pending (s.stage_rest n code forced q sp d l lost) :)
@[simp] theorem State.stage_tb (s : State) (n code : Nat) (forced : Bool) (q sp d : Nat) (l : List Byte) (lost : Nat) : (s.stage n code forced q sp d l lost).tb = s.tb := (congrArg State.tb (s.stage_rest n code forced q sp d l lost) :)
@[simp] theorem State.stage_fresh (s : State) (n code : Nat) (forced : Bool) (q sp d : Nat) (l : List Byte) (lost : Nat) : (s.stage n code forced q sp d l lost).fresh = s.fresh := (congrArg State.fresh (s.stage_rest n code forced q sp d l lost) :)
@[simp] theorem State.stage_mem (s : State) (n code : Nat) (forced : Bool) (q sp d : Nat) (l : List Byte) (lost : Nat) : (s.stage n code forced q sp d l lost).mem = s.mem := (congrArg State.mem (s.stage_rest n code forced q sp d l lost) :)
@[simp] theorem State.stage_wire (s : State) (n code : Nat) (forced : Bool) (q sp d : Nat) (l : List Byte) (lost : Nat) : (s.stage n code forced q sp d l lost).wire = s.wire := (congrArg State.wire (s.stage_rest n code forced q sp d l lost) :)
@[simp] theorem State.stage_sys (s : State) (n code : Nat) (forced : Bool) (q sp d : Nat) (l : List Byte) (lost : Nat) : (s.stage n code forced q sp d l lost).sys = s.sys := (congrArg State.sys (s.stage_rest n code forced q sp d l lost) :)
@[simp] theorem State.stage_exec (s : State) (n code : Nat) (forced : Bool) (q sp d : Nat) (l : List Byte) (lost : Nat) : (s.stage n code forced q sp d l lost).exec = s.exec := (congrArg State.exec (s.stage_rest n code forced q sp d l lost) :)
@[simp] theorem State.stage_prog (s : State) (n code : Nat) (forced : Bool) (q sp d : Nat) (l : List Byte) (lost : Nat) : (s.stage n code forced q sp d l lost).prog = s.prog := (congrArg State.prog (s.stage_rest n code forced q sp d l lost) :)
@[simp] theorem State.stage_memory (s : State) (n code : Nat) (forced : Bool) (q sp d : Nat) (l : List Byte) (lost : Nat) : (s.stage n code forced q sp d l lost).memory = s.memory := (congrArg State.memory (s.stage_rest n code forced q sp d l lost) :)
@[simp] theorem State.stage_cox (s : State) (n code : Nat) (forced : Bool) (q sp d : Nat) (l : List Byte) (lost : Nat) : (s.stage n code forced q sp d l lost).cox = s.cox := (congrArg State.cox (s.stage_rest n code forced q sp d l lost) :)
@[simp] theorem State.stage_force (s : State) (n code : Nat) (forced : Bool) (q sp d : Nat) (l : List Byte) (lost : Nat) : (s.stage n code forced q sp d l lost).force = s.force := (congrArg State.force (s.stage_rest n code forced q sp d l lost) :)
@[simp] theorem State.stage_pwr (s : State) (n code : Nat) (forced : Bool) (q sp d : Nat) (l : List Byte) (lost : Nat) : (s.stage n code forced q sp d l lost).pwr = s.pwr := (congrArg State.pwr (s.stage_rest n code forced q sp d l lost) :)
@[simp] theorem State.stage_edit (s : State) (n code : Nat) (forced : Bool) (q sp d : Nat) (l : List Byte) (lost : Nat) : (s.stage n code forced q sp d l lost).edit = s.edit := (congrArg State.edit (s.stage_rest n code forced q sp d l lost) :)
@[simp] theorem State.stage_loop (s : State) (n code : Nat) (forced : Bool) (q sp d : Nat) (l : List Byte) (lost : Nat) : (s.stage n code forced q sp d l lost).loop = s.loop := (congrArg State.loop (s.stage_rest n code forced q sp d l lost) :)
@[simp] theorem State.stage_clk (s : State) (n code : Nat) (forced : Bool) (q sp d : Nat) (l : List Byte) (lost : Nat) : (s.stage n code forced q sp d l lost).clk = s.clk := (congrArg State.clk (s.stage_rest n code forced q sp d l lost) :)
@[simp] theorem State.stage_wdt (s : State) (n code : Nat) (forced : Bool) (q sp d : Nat) (l : List Byte) (lost : Nat) : (s.stage n code forced q sp d l lost).wdt = s.wdt := (congrArg State.wdt (s.stage_rest n code forced q sp d l lost) :)
@[simp] theorem State.stage_rtc (s : State) (n code : Nat) (forced : Bool) (q sp d : Nat) (l : List Byte) (lost : Nat) : (s.stage n code forced q sp d l lost).rtc = s.rtc := (congrArg State.rtc (s.stage_rest n code forced q sp d l lost) :)
@[simp] theorem State.stage_dio (s : State) (n code : Nat) (forced : Bool) (q sp d : Nat) (l : List Byte) (lost : Nat) : (s.stage n code forced q sp d l lost).dio = s.dio := (congrArg State.dio (s.stage_rest n code forced q sp d l lost) :)
@[simp] theorem State.stage_panel (s : State) (n code : Nat) (forced : Bool) (q sp d : Nat) (l : List Byte) (lost : Nat) : (s.stage n code forced q sp d l lost).panel = s.panel := (congrArg State.panel (s.stage_rest n code forced q sp d l lost) :)
@[simp] theorem State.stage_mbx (s : State) (n code : Nat) (forced : Bool) (q sp d : Nat) (l : List Byte) (lost : Nat) : (s.stage n code forced q sp d l lost).mbx = s.mbx := (congrArg State.mbx (s.stage_rest n code forced q sp d l lost) :)
@[simp] theorem State.stage_spare (s : State) (n code : Nat) (forced : Bool) (q sp d : Nat) (l : List Byte) (lost : Nat) : (s.stage n code forced q sp d l lost).spare = s.spare := (congrArg State.spare (s.stage_rest n code forced q sp d l lost) :)
@[simp] theorem State.stage_upd (s : State) (n code : Nat) (forced : Bool) (q sp d : Nat) (l : List Byte) (lost : Nat) : (s.stage n code forced q sp d l lost).upd = s.upd := (congrArg State.upd (s.stage_rest n code forced q sp d l lost) :)
@[simp] theorem State.stage_sec (s : State) (n code : Nat) (forced : Bool) (q sp d : Nat) (l : List Byte) (lost : Nat) : (s.stage n code forced q sp d l lost).sec = s.sec := (congrArg State.sec (s.stage_rest n code forced q sp d l lost) :)
@[simp] theorem State.stage_fbc (s : State) (n code : Nat) (forced : Bool) (q sp d : Nat) (l : List Byte) (lost : Nat) : (s.stage n code forced q sp d l lost).fbc = s.fbc := (congrArg State.fbc (s.stage_rest n code forced q sp d l lost) :)
@[simp] theorem State.stage_pair (s : State) (n code : Nat) (forced : Bool) (q sp d : Nat) (l : List Byte) (lost : Nat) : (s.stage n code forced q sp d l lost).pair = s.pair := (congrArg State.pair (s.stage_rest n code forced q sp d l lost) :)
@[simp] theorem State.stage_net (s : State) (n code : Nat) (forced : Bool) (q sp d : Nat) (l : List Byte) (lost : Nat) : (s.stage n code forced q sp d l lost).net = s.net := (congrArg State.net (s.stage_rest n code forced q sp d l lost) :)
@[simp] theorem State.stage_radio (s : State) (n code : Nat) (forced : Bool) (q sp d : Nat) (l : List Byte) (lost : Nat) : (s.stage n code forced q sp d l lost).radio = s.radio := (congrArg State.radio (s.stage_rest n code forced q sp d l lost) :)
@[simp] theorem State.stage_can (s : State) (n code : Nat) (forced : Bool) (q sp d : Nat) (l : List Byte) (lost : Nat) : (s.stage n code forced q sp d l lost).can = s.can := (congrArg State.can (s.stage_rest n code forced q sp d l lost) :)

/-! ### State.offer -/

theorem State.offer_rest (s : State) (n code : Nat) (forced : Bool) (q d : Nat) (l : List Byte) (lost : Nat) :
    { s.offer n code forced q d l lost with regs := s.regs, evt := s.evt, recorder := s.recorder } = s := by unfold State.offer; simp only []; (repeat' split) <;> simp

@[simp] theorem State.offer_pending (s : State) (n code : Nat) (forced : Bool) (q d : Nat) (l : List Byte) (lost : Nat) : (s.offer n code forced q d l lost).pending = s.pending := (congrArg State.pending (s.offer_rest n code forced q d l lost) :)
@[simp] theorem State.offer_tb (s : State) (n code : Nat) (forced : Bool) (q d : Nat) (l : List Byte) (lost : Nat) : (s.offer n code forced q d l lost).tb = s.tb := (congrArg State.tb (s.offer_rest n code forced q d l lost) :)
@[simp] theorem State.offer_fresh (s : State) (n code : Nat) (forced : Bool) (q d : Nat) (l : List Byte) (lost : Nat) : (s.offer n code forced q d l lost).fresh = s.fresh := (congrArg State.fresh (s.offer_rest n code forced q d l lost) :)
@[simp] theorem State.offer_mem (s : State) (n code : Nat) (forced : Bool) (q d : Nat) (l : List Byte) (lost : Nat) : (s.offer n code forced q d l lost).mem = s.mem := (congrArg State.mem (s.offer_rest n code forced q d l lost) :)
@[simp] theorem State.offer_wire (s : State) (n code : Nat) (forced : Bool) (q d : Nat) (l : List Byte) (lost : Nat) : (s.offer n code forced q d l lost).wire = s.wire := (congrArg State.wire (s.offer_rest n code forced q d l lost) :)
@[simp] theorem State.offer_sys (s : State) (n code : Nat) (forced : Bool) (q d : Nat) (l : List Byte) (lost : Nat) : (s.offer n code forced q d l lost).sys = s.sys := (congrArg State.sys (s.offer_rest n code forced q d l lost) :)
@[simp] theorem State.offer_exec (s : State) (n code : Nat) (forced : Bool) (q d : Nat) (l : List Byte) (lost : Nat) : (s.offer n code forced q d l lost).exec = s.exec := (congrArg State.exec (s.offer_rest n code forced q d l lost) :)
@[simp] theorem State.offer_prog (s : State) (n code : Nat) (forced : Bool) (q d : Nat) (l : List Byte) (lost : Nat) : (s.offer n code forced q d l lost).prog = s.prog := (congrArg State.prog (s.offer_rest n code forced q d l lost) :)
@[simp] theorem State.offer_memory (s : State) (n code : Nat) (forced : Bool) (q d : Nat) (l : List Byte) (lost : Nat) : (s.offer n code forced q d l lost).memory = s.memory := (congrArg State.memory (s.offer_rest n code forced q d l lost) :)
@[simp] theorem State.offer_cox (s : State) (n code : Nat) (forced : Bool) (q d : Nat) (l : List Byte) (lost : Nat) : (s.offer n code forced q d l lost).cox = s.cox := (congrArg State.cox (s.offer_rest n code forced q d l lost) :)
@[simp] theorem State.offer_force (s : State) (n code : Nat) (forced : Bool) (q d : Nat) (l : List Byte) (lost : Nat) : (s.offer n code forced q d l lost).force = s.force := (congrArg State.force (s.offer_rest n code forced q d l lost) :)
@[simp] theorem State.offer_pwr (s : State) (n code : Nat) (forced : Bool) (q d : Nat) (l : List Byte) (lost : Nat) : (s.offer n code forced q d l lost).pwr = s.pwr := (congrArg State.pwr (s.offer_rest n code forced q d l lost) :)
@[simp] theorem State.offer_edit (s : State) (n code : Nat) (forced : Bool) (q d : Nat) (l : List Byte) (lost : Nat) : (s.offer n code forced q d l lost).edit = s.edit := (congrArg State.edit (s.offer_rest n code forced q d l lost) :)
@[simp] theorem State.offer_loop (s : State) (n code : Nat) (forced : Bool) (q d : Nat) (l : List Byte) (lost : Nat) : (s.offer n code forced q d l lost).loop = s.loop := (congrArg State.loop (s.offer_rest n code forced q d l lost) :)
@[simp] theorem State.offer_clk (s : State) (n code : Nat) (forced : Bool) (q d : Nat) (l : List Byte) (lost : Nat) : (s.offer n code forced q d l lost).clk = s.clk := (congrArg State.clk (s.offer_rest n code forced q d l lost) :)
@[simp] theorem State.offer_wdt (s : State) (n code : Nat) (forced : Bool) (q d : Nat) (l : List Byte) (lost : Nat) : (s.offer n code forced q d l lost).wdt = s.wdt := (congrArg State.wdt (s.offer_rest n code forced q d l lost) :)
@[simp] theorem State.offer_rtc (s : State) (n code : Nat) (forced : Bool) (q d : Nat) (l : List Byte) (lost : Nat) : (s.offer n code forced q d l lost).rtc = s.rtc := (congrArg State.rtc (s.offer_rest n code forced q d l lost) :)
@[simp] theorem State.offer_dio (s : State) (n code : Nat) (forced : Bool) (q d : Nat) (l : List Byte) (lost : Nat) : (s.offer n code forced q d l lost).dio = s.dio := (congrArg State.dio (s.offer_rest n code forced q d l lost) :)
@[simp] theorem State.offer_panel (s : State) (n code : Nat) (forced : Bool) (q d : Nat) (l : List Byte) (lost : Nat) : (s.offer n code forced q d l lost).panel = s.panel := (congrArg State.panel (s.offer_rest n code forced q d l lost) :)
@[simp] theorem State.offer_mbx (s : State) (n code : Nat) (forced : Bool) (q d : Nat) (l : List Byte) (lost : Nat) : (s.offer n code forced q d l lost).mbx = s.mbx := (congrArg State.mbx (s.offer_rest n code forced q d l lost) :)
@[simp] theorem State.offer_spare (s : State) (n code : Nat) (forced : Bool) (q d : Nat) (l : List Byte) (lost : Nat) : (s.offer n code forced q d l lost).spare = s.spare := (congrArg State.spare (s.offer_rest n code forced q d l lost) :)
@[simp] theorem State.offer_upd (s : State) (n code : Nat) (forced : Bool) (q d : Nat) (l : List Byte) (lost : Nat) : (s.offer n code forced q d l lost).upd = s.upd := (congrArg State.upd (s.offer_rest n code forced q d l lost) :)
@[simp] theorem State.offer_sec (s : State) (n code : Nat) (forced : Bool) (q d : Nat) (l : List Byte) (lost : Nat) : (s.offer n code forced q d l lost).sec = s.sec := (congrArg State.sec (s.offer_rest n code forced q d l lost) :)
@[simp] theorem State.offer_fbc (s : State) (n code : Nat) (forced : Bool) (q d : Nat) (l : List Byte) (lost : Nat) : (s.offer n code forced q d l lost).fbc = s.fbc := (congrArg State.fbc (s.offer_rest n code forced q d l lost) :)
@[simp] theorem State.offer_pair (s : State) (n code : Nat) (forced : Bool) (q d : Nat) (l : List Byte) (lost : Nat) : (s.offer n code forced q d l lost).pair = s.pair := (congrArg State.pair (s.offer_rest n code forced q d l lost) :)
@[simp] theorem State.offer_net (s : State) (n code : Nat) (forced : Bool) (q d : Nat) (l : List Byte) (lost : Nat) : (s.offer n code forced q d l lost).net = s.net := (congrArg State.net (s.offer_rest n code forced q d l lost) :)
@[simp] theorem State.offer_radio (s : State) (n code : Nat) (forced : Bool) (q d : Nat) (l : List Byte) (lost : Nat) : (s.offer n code forced q d l lost).radio = s.radio := (congrArg State.radio (s.offer_rest n code forced q d l lost) :)
@[simp] theorem State.offer_can (s : State) (n code : Nat) (forced : Bool) (q d : Nat) (l : List Byte) (lost : Nat) : (s.offer n code forced q d l lost).can = s.can := (congrArg State.can (s.offer_rest n code forced q d l lost) :)

/-! ### State.raiseEvent -/

theorem State.raiseEvent_rest (s : State) (n code : Nat) (forced : Bool) (d : Nat) (l : List Byte) (lost : Nat) :
    { s.raiseEvent n code forced d l lost with regs := s.regs, evt := s.evt, recorder := s.recorder } = s := by unfold State.raiseEvent; simp only []; split <;> simp

@[simp] theorem State.raiseEvent_pending (s : State) (n code : Nat) (forced : Bool) (d : Nat) (l : List Byte) (lost : Nat) : (s.raiseEvent n code forced d l lost).pending = s.pending := (congrArg State.pending (s.raiseEvent_rest n code forced d l lost) :)
@[simp] theorem State.raiseEvent_tb (s : State) (n code : Nat) (forced : Bool) (d : Nat) (l : List Byte) (lost : Nat) : (s.raiseEvent n code forced d l lost).tb = s.tb := (congrArg State.tb (s.raiseEvent_rest n code forced d l lost) :)
@[simp] theorem State.raiseEvent_fresh (s : State) (n code : Nat) (forced : Bool) (d : Nat) (l : List Byte) (lost : Nat) : (s.raiseEvent n code forced d l lost).fresh = s.fresh := (congrArg State.fresh (s.raiseEvent_rest n code forced d l lost) :)
@[simp] theorem State.raiseEvent_mem (s : State) (n code : Nat) (forced : Bool) (d : Nat) (l : List Byte) (lost : Nat) : (s.raiseEvent n code forced d l lost).mem = s.mem := (congrArg State.mem (s.raiseEvent_rest n code forced d l lost) :)
@[simp] theorem State.raiseEvent_wire (s : State) (n code : Nat) (forced : Bool) (d : Nat) (l : List Byte) (lost : Nat) : (s.raiseEvent n code forced d l lost).wire = s.wire := (congrArg State.wire (s.raiseEvent_rest n code forced d l lost) :)
@[simp] theorem State.raiseEvent_sys (s : State) (n code : Nat) (forced : Bool) (d : Nat) (l : List Byte) (lost : Nat) : (s.raiseEvent n code forced d l lost).sys = s.sys := (congrArg State.sys (s.raiseEvent_rest n code forced d l lost) :)
@[simp] theorem State.raiseEvent_exec (s : State) (n code : Nat) (forced : Bool) (d : Nat) (l : List Byte) (lost : Nat) : (s.raiseEvent n code forced d l lost).exec = s.exec := (congrArg State.exec (s.raiseEvent_rest n code forced d l lost) :)
@[simp] theorem State.raiseEvent_prog (s : State) (n code : Nat) (forced : Bool) (d : Nat) (l : List Byte) (lost : Nat) : (s.raiseEvent n code forced d l lost).prog = s.prog := (congrArg State.prog (s.raiseEvent_rest n code forced d l lost) :)
@[simp] theorem State.raiseEvent_memory (s : State) (n code : Nat) (forced : Bool) (d : Nat) (l : List Byte) (lost : Nat) : (s.raiseEvent n code forced d l lost).memory = s.memory := (congrArg State.memory (s.raiseEvent_rest n code forced d l lost) :)
@[simp] theorem State.raiseEvent_cox (s : State) (n code : Nat) (forced : Bool) (d : Nat) (l : List Byte) (lost : Nat) : (s.raiseEvent n code forced d l lost).cox = s.cox := (congrArg State.cox (s.raiseEvent_rest n code forced d l lost) :)
@[simp] theorem State.raiseEvent_force (s : State) (n code : Nat) (forced : Bool) (d : Nat) (l : List Byte) (lost : Nat) : (s.raiseEvent n code forced d l lost).force = s.force := (congrArg State.force (s.raiseEvent_rest n code forced d l lost) :)
@[simp] theorem State.raiseEvent_pwr (s : State) (n code : Nat) (forced : Bool) (d : Nat) (l : List Byte) (lost : Nat) : (s.raiseEvent n code forced d l lost).pwr = s.pwr := (congrArg State.pwr (s.raiseEvent_rest n code forced d l lost) :)
@[simp] theorem State.raiseEvent_edit (s : State) (n code : Nat) (forced : Bool) (d : Nat) (l : List Byte) (lost : Nat) : (s.raiseEvent n code forced d l lost).edit = s.edit := (congrArg State.edit (s.raiseEvent_rest n code forced d l lost) :)
@[simp] theorem State.raiseEvent_loop (s : State) (n code : Nat) (forced : Bool) (d : Nat) (l : List Byte) (lost : Nat) : (s.raiseEvent n code forced d l lost).loop = s.loop := (congrArg State.loop (s.raiseEvent_rest n code forced d l lost) :)
@[simp] theorem State.raiseEvent_clk (s : State) (n code : Nat) (forced : Bool) (d : Nat) (l : List Byte) (lost : Nat) : (s.raiseEvent n code forced d l lost).clk = s.clk := (congrArg State.clk (s.raiseEvent_rest n code forced d l lost) :)
@[simp] theorem State.raiseEvent_wdt (s : State) (n code : Nat) (forced : Bool) (d : Nat) (l : List Byte) (lost : Nat) : (s.raiseEvent n code forced d l lost).wdt = s.wdt := (congrArg State.wdt (s.raiseEvent_rest n code forced d l lost) :)
@[simp] theorem State.raiseEvent_rtc (s : State) (n code : Nat) (forced : Bool) (d : Nat) (l : List Byte) (lost : Nat) : (s.raiseEvent n code forced d l lost).rtc = s.rtc := (congrArg State.rtc (s.raiseEvent_rest n code forced d l lost) :)
@[simp] theorem State.raiseEvent_dio (s : State) (n code : Nat) (forced : Bool) (d : Nat) (l : List Byte) (lost : Nat) : (s.raiseEvent n code forced d l lost).dio = s.dio := (congrArg State.dio (s.raiseEvent_rest n code forced d l lost) :)
@[simp] theorem State.raiseEvent_panel (s : State) (n code : Nat) (forced : Bool) (d : Nat) (l : List Byte) (lost : Nat) : (s.raiseEvent n code forced d l lost).panel = s.panel := (congrArg State.panel (s.raiseEvent_rest n code forced d l lost) :)
@[simp] theorem State.raiseEvent_mbx (s : State) (n code : Nat) (forced : Bool) (d : Nat) (l : List Byte) (lost : Nat) : (s.raiseEvent n code forced d l lost).mbx = s.mbx := (congrArg State.mbx (s.raiseEvent_rest n code forced d l lost) :)
@[simp] theorem State.raiseEvent_spare (s : State) (n code : Nat) (forced : Bool) (d : Nat) (l : List Byte) (lost : Nat) : (s.raiseEvent n code forced d l lost).spare = s.spare := (congrArg State.spare (s.raiseEvent_rest n code forced d l lost) :)
@[simp] theorem State.raiseEvent_upd (s : State) (n code : Nat) (forced : Bool) (d : Nat) (l : List Byte) (lost : Nat) : (s.raiseEvent n code forced d l lost).upd = s.upd := (congrArg State.upd (s.raiseEvent_rest n code forced d l lost) :)
@[simp] theorem State.raiseEvent_sec (s : State) (n code : Nat) (forced : Bool) (d : Nat) (l : List Byte) (lost : Nat) : (s.raiseEvent n code forced d l lost).sec = s.sec := (congrArg State.sec (s.raiseEvent_rest n code forced d l lost) :)
@[simp] theorem State.raiseEvent_fbc (s : State) (n code : Nat) (forced : Bool) (d : Nat) (l : List Byte) (lost : Nat) : (s.raiseEvent n code forced d l lost).fbc = s.fbc := (congrArg State.fbc (s.raiseEvent_rest n code forced d l lost) :)
@[simp] theorem State.raiseEvent_pair (s : State) (n code : Nat) (forced : Bool) (d : Nat) (l : List Byte) (lost : Nat) : (s.raiseEvent n code forced d l lost).pair = s.pair := (congrArg State.pair (s.raiseEvent_rest n code forced d l lost) :)
@[simp] theorem State.raiseEvent_net (s : State) (n code : Nat) (forced : Bool) (d : Nat) (l : List Byte) (lost : Nat) : (s.raiseEvent n code forced d l lost).net = s.net := (congrArg State.net (s.raiseEvent_rest n code forced d l lost) :)
@[simp] theorem State.raiseEvent_radio (s : State) (n code : Nat) (forced : Bool) (d : Nat) (l : List Byte) (lost : Nat) : (s.raiseEvent n code forced d l lost).radio = s.radio := (congrArg State.radio (s.raiseEvent_rest n code forced d l lost) :)
@[simp] theorem State.raiseEvent_can (s : State) (n code : Nat) (forced : Bool) (d : Nat) (l : List Byte) (lost : Nat) : (s.raiseEvent n code forced d l lost).can = s.can := (congrArg State.can (s.raiseEvent_rest n code forced d l lost) :)

/-! ### State.raise -/

theorem State.raise_rest (s : State) (c : Cond) (d : Nat) (l : List Byte) (lost : Nat) :
    { s.raise c d l lost with regs := s.regs, evt := s.evt, recorder := s.recorder } = s := by unfold State.raise; simp only []; (repeat' split) <;> simp

@[simp] theorem State.raise_pending (s : State) (c : Cond) (d : Nat) (l : List Byte) (lost : Nat) : (s.raise c d l lost).pending = s.pending := (congrArg State.pending (s.raise_rest c d l lost) :)
@[simp] theorem State.raise_tb (s : State) (c : Cond) (d : Nat) (l : List Byte) (lost : Nat) : (s.raise c d l lost).tb = s.tb := (congrArg State.tb (s.raise_rest c d l lost) :)
@[simp] theorem State.raise_fresh (s : State) (c : Cond) (d : Nat) (l : List Byte) (lost : Nat) : (s.raise c d l lost).fresh = s.fresh := (congrArg State.fresh (s.raise_rest c d l lost) :)
@[simp] theorem State.raise_mem (s : State) (c : Cond) (d : Nat) (l : List Byte) (lost : Nat) : (s.raise c d l lost).mem = s.mem := (congrArg State.mem (s.raise_rest c d l lost) :)
@[simp] theorem State.raise_wire (s : State) (c : Cond) (d : Nat) (l : List Byte) (lost : Nat) : (s.raise c d l lost).wire = s.wire := (congrArg State.wire (s.raise_rest c d l lost) :)
@[simp] theorem State.raise_sys (s : State) (c : Cond) (d : Nat) (l : List Byte) (lost : Nat) : (s.raise c d l lost).sys = s.sys := (congrArg State.sys (s.raise_rest c d l lost) :)
@[simp] theorem State.raise_exec (s : State) (c : Cond) (d : Nat) (l : List Byte) (lost : Nat) : (s.raise c d l lost).exec = s.exec := (congrArg State.exec (s.raise_rest c d l lost) :)
@[simp] theorem State.raise_prog (s : State) (c : Cond) (d : Nat) (l : List Byte) (lost : Nat) : (s.raise c d l lost).prog = s.prog := (congrArg State.prog (s.raise_rest c d l lost) :)
@[simp] theorem State.raise_memory (s : State) (c : Cond) (d : Nat) (l : List Byte) (lost : Nat) : (s.raise c d l lost).memory = s.memory := (congrArg State.memory (s.raise_rest c d l lost) :)
@[simp] theorem State.raise_cox (s : State) (c : Cond) (d : Nat) (l : List Byte) (lost : Nat) : (s.raise c d l lost).cox = s.cox := (congrArg State.cox (s.raise_rest c d l lost) :)
@[simp] theorem State.raise_force (s : State) (c : Cond) (d : Nat) (l : List Byte) (lost : Nat) : (s.raise c d l lost).force = s.force := (congrArg State.force (s.raise_rest c d l lost) :)
@[simp] theorem State.raise_pwr (s : State) (c : Cond) (d : Nat) (l : List Byte) (lost : Nat) : (s.raise c d l lost).pwr = s.pwr := (congrArg State.pwr (s.raise_rest c d l lost) :)
@[simp] theorem State.raise_edit (s : State) (c : Cond) (d : Nat) (l : List Byte) (lost : Nat) : (s.raise c d l lost).edit = s.edit := (congrArg State.edit (s.raise_rest c d l lost) :)
@[simp] theorem State.raise_loop (s : State) (c : Cond) (d : Nat) (l : List Byte) (lost : Nat) : (s.raise c d l lost).loop = s.loop := (congrArg State.loop (s.raise_rest c d l lost) :)
@[simp] theorem State.raise_clk (s : State) (c : Cond) (d : Nat) (l : List Byte) (lost : Nat) : (s.raise c d l lost).clk = s.clk := (congrArg State.clk (s.raise_rest c d l lost) :)
@[simp] theorem State.raise_wdt (s : State) (c : Cond) (d : Nat) (l : List Byte) (lost : Nat) : (s.raise c d l lost).wdt = s.wdt := (congrArg State.wdt (s.raise_rest c d l lost) :)
@[simp] theorem State.raise_rtc (s : State) (c : Cond) (d : Nat) (l : List Byte) (lost : Nat) : (s.raise c d l lost).rtc = s.rtc := (congrArg State.rtc (s.raise_rest c d l lost) :)
@[simp] theorem State.raise_dio (s : State) (c : Cond) (d : Nat) (l : List Byte) (lost : Nat) : (s.raise c d l lost).dio = s.dio := (congrArg State.dio (s.raise_rest c d l lost) :)
@[simp] theorem State.raise_panel (s : State) (c : Cond) (d : Nat) (l : List Byte) (lost : Nat) : (s.raise c d l lost).panel = s.panel := (congrArg State.panel (s.raise_rest c d l lost) :)
@[simp] theorem State.raise_mbx (s : State) (c : Cond) (d : Nat) (l : List Byte) (lost : Nat) : (s.raise c d l lost).mbx = s.mbx := (congrArg State.mbx (s.raise_rest c d l lost) :)
@[simp] theorem State.raise_spare (s : State) (c : Cond) (d : Nat) (l : List Byte) (lost : Nat) : (s.raise c d l lost).spare = s.spare := (congrArg State.spare (s.raise_rest c d l lost) :)
@[simp] theorem State.raise_upd (s : State) (c : Cond) (d : Nat) (l : List Byte) (lost : Nat) : (s.raise c d l lost).upd = s.upd := (congrArg State.upd (s.raise_rest c d l lost) :)
@[simp] theorem State.raise_sec (s : State) (c : Cond) (d : Nat) (l : List Byte) (lost : Nat) : (s.raise c d l lost).sec = s.sec := (congrArg State.sec (s.raise_rest c d l lost) :)
@[simp] theorem State.raise_fbc (s : State) (c : Cond) (d : Nat) (l : List Byte) (lost : Nat) : (s.raise c d l lost).fbc = s.fbc := (congrArg State.fbc (s.raise_rest c d l lost) :)
@[simp] theorem State.raise_pair (s : State) (c : Cond) (d : Nat) (l : List Byte) (lost : Nat) : (s.raise c d l lost).pair = s.pair := (congrArg State.pair (s.raise_rest c d l lost) :)
@[simp] theorem State.raise_net (s : State) (c : Cond) (d : Nat) (l : List Byte) (lost : Nat) : (s.raise c d l lost).net = s.net := (congrArg State.net (s.raise_rest c d l lost) :)
@[simp] theorem State.raise_radio (s : State) (c : Cond) (d : Nat) (l : List Byte) (lost : Nat) : (s.raise c d l lost).radio = s.radio := (congrArg State.radio (s.raise_rest c d l lost) :)
@[simp] theorem State.raise_can (s : State) (c : Cond) (d : Nat) (l : List Byte) (lost : Nat) : (s.raise c d l lost).can = s.can := (congrArg State.can (s.raise_rest c d l lost) :)

/-! ### State.capture -/

theorem State.capture_rest (s : State) (p o : Nat) (r : Req) (e : PgErr) :
    { s.capture p o r e with regs := s.regs } = s := by unfold State.capture; simp only []; split <;> rfl

@[simp] theorem State.capture_pending (s : State) (p o : Nat) (r : Req) (e : PgErr) : (s.capture p o r e).pending = s.pending := (congrArg State.pending (s.capture_rest p o r e) :)
@[simp] theorem State.capture_tb (s : State) (p o : Nat) (r : Req) (e : PgErr) : (s.capture p o r e).tb = s.tb := (congrArg State.tb (s.capture_rest p o r e) :)
@[simp] theorem State.capture_fresh (s : State) (p o : Nat) (r : Req) (e : PgErr) : (s.capture p o r e).fresh = s.fresh := (congrArg State.fresh (s.capture_rest p o r e) :)
@[simp] theorem State.capture_mem (s : State) (p o : Nat) (r : Req) (e : PgErr) : (s.capture p o r e).mem = s.mem := (congrArg State.mem (s.capture_rest p o r e) :)
@[simp] theorem State.capture_wire (s : State) (p o : Nat) (r : Req) (e : PgErr) : (s.capture p o r e).wire = s.wire := (congrArg State.wire (s.capture_rest p o r e) :)
@[simp] theorem State.capture_evt (s : State) (p o : Nat) (r : Req) (e : PgErr) : (s.capture p o r e).evt = s.evt := (congrArg State.evt (s.capture_rest p o r e) :)
@[simp] theorem State.capture_recorder (s : State) (p o : Nat) (r : Req) (e : PgErr) : (s.capture p o r e).recorder = s.recorder := (congrArg State.recorder (s.capture_rest p o r e) :)
@[simp] theorem State.capture_sys (s : State) (p o : Nat) (r : Req) (e : PgErr) : (s.capture p o r e).sys = s.sys := (congrArg State.sys (s.capture_rest p o r e) :)
@[simp] theorem State.capture_exec (s : State) (p o : Nat) (r : Req) (e : PgErr) : (s.capture p o r e).exec = s.exec := (congrArg State.exec (s.capture_rest p o r e) :)
@[simp] theorem State.capture_prog (s : State) (p o : Nat) (r : Req) (e : PgErr) : (s.capture p o r e).prog = s.prog := (congrArg State.prog (s.capture_rest p o r e) :)
@[simp] theorem State.capture_memory (s : State) (p o : Nat) (r : Req) (e : PgErr) : (s.capture p o r e).memory = s.memory := (congrArg State.memory (s.capture_rest p o r e) :)
@[simp] theorem State.capture_cox (s : State) (p o : Nat) (r : Req) (e : PgErr) : (s.capture p o r e).cox = s.cox := (congrArg State.cox (s.capture_rest p o r e) :)
@[simp] theorem State.capture_force (s : State) (p o : Nat) (r : Req) (e : PgErr) : (s.capture p o r e).force = s.force := (congrArg State.force (s.capture_rest p o r e) :)
@[simp] theorem State.capture_pwr (s : State) (p o : Nat) (r : Req) (e : PgErr) : (s.capture p o r e).pwr = s.pwr := (congrArg State.pwr (s.capture_rest p o r e) :)
@[simp] theorem State.capture_edit (s : State) (p o : Nat) (r : Req) (e : PgErr) : (s.capture p o r e).edit = s.edit := (congrArg State.edit (s.capture_rest p o r e) :)
@[simp] theorem State.capture_loop (s : State) (p o : Nat) (r : Req) (e : PgErr) : (s.capture p o r e).loop = s.loop := (congrArg State.loop (s.capture_rest p o r e) :)
@[simp] theorem State.capture_clk (s : State) (p o : Nat) (r : Req) (e : PgErr) : (s.capture p o r e).clk = s.clk := (congrArg State.clk (s.capture_rest p o r e) :)
@[simp] theorem State.capture_wdt (s : State) (p o : Nat) (r : Req) (e : PgErr) : (s.capture p o r e).wdt = s.wdt := (congrArg State.wdt (s.capture_rest p o r e) :)
@[simp] theorem State.capture_rtc (s : State) (p o : Nat) (r : Req) (e : PgErr) : (s.capture p o r e).rtc = s.rtc := (congrArg State.rtc (s.capture_rest p o r e) :)
@[simp] theorem State.capture_dio (s : State) (p o : Nat) (r : Req) (e : PgErr) : (s.capture p o r e).dio = s.dio := (congrArg State.dio (s.capture_rest p o r e) :)
@[simp] theorem State.capture_panel (s : State) (p o : Nat) (r : Req) (e : PgErr) : (s.capture p o r e).panel = s.panel := (congrArg State.panel (s.capture_rest p o r e) :)
@[simp] theorem State.capture_mbx (s : State) (p o : Nat) (r : Req) (e : PgErr) : (s.capture p o r e).mbx = s.mbx := (congrArg State.mbx (s.capture_rest p o r e) :)
@[simp] theorem State.capture_spare (s : State) (p o : Nat) (r : Req) (e : PgErr) : (s.capture p o r e).spare = s.spare := (congrArg State.spare (s.capture_rest p o r e) :)
@[simp] theorem State.capture_upd (s : State) (p o : Nat) (r : Req) (e : PgErr) : (s.capture p o r e).upd = s.upd := (congrArg State.upd (s.capture_rest p o r e) :)
@[simp] theorem State.capture_sec (s : State) (p o : Nat) (r : Req) (e : PgErr) : (s.capture p o r e).sec = s.sec := (congrArg State.sec (s.capture_rest p o r e) :)
@[simp] theorem State.capture_fbc (s : State) (p o : Nat) (r : Req) (e : PgErr) : (s.capture p o r e).fbc = s.fbc := (congrArg State.fbc (s.capture_rest p o r e) :)
@[simp] theorem State.capture_pair (s : State) (p o : Nat) (r : Req) (e : PgErr) : (s.capture p o r e).pair = s.pair := (congrArg State.pair (s.capture_rest p o r e) :)
@[simp] theorem State.capture_net (s : State) (p o : Nat) (r : Req) (e : PgErr) : (s.capture p o r e).net = s.net := (congrArg State.net (s.capture_rest p o r e) :)
@[simp] theorem State.capture_radio (s : State) (p o : Nat) (r : Req) (e : PgErr) : (s.capture p o r e).radio = s.radio := (congrArg State.radio (s.capture_rest p o r e) :)
@[simp] theorem State.capture_can (s : State) (p o : Nat) (r : Req) (e : PgErr) : (s.capture p o r e).can = s.can := (congrArg State.can (s.capture_rest p o r e) :)

/-! ### Registers -/

theorem entryReg_srcstat {n : Nat} (h : n < 256) : entryReg (0x5500 + 4 * n) = true := by
  simp [entryReg]; omega

theorem State.reg_enqueue (s : State) {n a : Nat} (code : Nat) (forced : Bool) (d : Word) (hn : n < 256)
    (h : entryReg a = false) : (s.enqueue n code forced d).reg a = s.reg a := by
  have h1 : a ≠ 0x5500 + 4 * n := fun e => by rw [e, entryReg_srcstat hn] at h; cases h
  have h2 : a ≠ 0x4104 := fun e => by subst e; simp [entryReg] at h
  unfold State.enqueue
  simp only []
  (repeat' split) <;> simp [State.reg_incWrap_ne, State.reg_inc_ne, State.reg_wr_ne, Fld.off, R.EVT_SRCSTAT_NEXTSEQ,
    R.EVT_SRCSTAT_OVF, R.EVT_OVFTOTAL_COUNT, h1, h2]

theorem State.reg_dropRecord (s : State) {a sev : Nat} (hs : sev < 8) (h : entryReg a = false) :
    (s.dropRecord sev).reg a = s.reg a := by
  have h1 : a ≠ 0xC160 + 4 * sev := fun e => by
    subst e; simp [entryReg] at h; omega
  have h2 : a ≠ hdr Ev.logDropped.page 0x014 := fun e => by subst e; simp [entryReg, hdr, Ev.logDropped] at h
  unfold State.dropRecord
  simp only []
  (repeat' split) <;>
    simp [State.reg_enqueue _ _ _ _ (show Ev.logDropped.source < 256 by decide) h, State.reg_wr_ne, h2] <;>
    exact State.reg_inc_ne s (f := ⟨R.LOG_DROP0 + 4 * sev, 31, 0⟩) h1

theorem State.severity_lt (s : State) (n code d : Nat) : s.severity n code d < 8 := by
  unfold State.severity
  simp only []
  (repeat' split) <;> try omega
  exact lt_of_lt_of_le (Nat.mod_lt _ (by positivity)) (by
    have : 4 * (n % 8) + 2 + 1 - 4 * (n % 8) = 3 := by omega
    rw [this]; decide)

theorem State.reg_stage (s : State) {a : Nat} (n code : Nat) (forced : Bool) (q sp d : Nat) (l : List Byte) (lost : Nat)
    (h : entryReg a = false) : (s.stage n code forced q sp d l lost).reg a = s.reg a := by
  unfold State.stage
  split
  · rfl
  · exact State.reg_dropRecord s (s.severity_lt ..) h

theorem State.reg_offer (s : State) {a : Nat} (n code : Nat) (forced : Bool) (q d : Nat) (l : List Byte) (lost : Nat)
    (h : entryReg a = false) : (s.offer n code forced q d l lost).reg a = s.reg a := by
  unfold State.offer
  simp only []
  (repeat' split) <;> first | exact State.reg_stage _ _ _ _ _ _ _ _ _ h | rfl

theorem State.reg_raiseEvent (s : State) {n a : Nat} (code : Nat) (forced : Bool) (d : Nat) (l : List Byte) (lost : Nat)
    (hn : n < 256) (h : entryReg a = false) : (s.raiseEvent n code forced d l lost).reg a = s.reg a := by
  unfold State.raiseEvent
  simp only []
  split <;> simp [State.reg_offer _ _ _ _ _ _ _ _ h, State.reg_enqueue _ _ _ _ hn h]

theorem entryReg_of_evtReg {a : Nat} (h : evtReg a = false) : entryReg a = false := by
  simp only [evtReg, entryReg, decide_eq_false_iff_not] at h ⊢; omega

/-- Raising a condition leaves every register outside `evtReg` as it was. -/
theorem State.reg_raise (s : State) {c : Cond} {a : Nat} (d : Nat) (l : List Byte) (lost : Nat) (hc : c.source < 256)
    (h : evtReg a = false) : (s.raise c d l lost).reg a = s.reg a := by
  have h1 : a ≠ c.pend.addr := fun e => by
    subst e; simp [evtReg, Cond.pend, hdr] at h
  have h := entryReg_of_evtReg h
  unfold State.raise
  simp only []
  (repeat' split) <;>
    simp [State.reg_raiseEvent _ _ _ _ _ _ hc h, State.reg_offer _ _ _ _ _ _ _ _ h, State.reg_wr_ne, h1]

theorem State.rd_raise (s : State) {c : Cond} {f : Fld} (d : Nat) (l : List Byte) (lost : Nat) (hc : c.source < 256)
    (h : evtReg f.addr = false) : (s.raise c d l lost).rd f = s.rd f :=
  State.rd_congr f (State.reg_raise s d l lost hc h)

theorem State.on_raise (s : State) {c : Cond} {f : Fld} (d : Nat) (l : List Byte) (lost : Nat) (hc : c.source < 256)
    (h : evtReg f.addr = false) : (s.raise c d l lost).on f = s.on f :=
  State.on_congr f (State.reg_raise s d l lost hc h)

/-- In an enabled block the condition's PG_EVPEND bit is set afterwards. -/
theorem State.on_raise_pend (s : State) {c : Cond} (d : Nat) (l : List Byte) (lost : Nat) (hc : c.source < 256)
    (hb : c.bit < 32) (hp : c.page ≠ 0xC) (he : s.pgEn c.page = true) : (s.raise c d l lost).on c.pend = true := by
  have h : entryReg c.pend.addr = false := by
    apply decide_eq_false; simp only [Cond.pend, hdr]; omega
  have h1 : (s.wr c.pend 1).on c.pend = true := by
    rw [State.on, State.rd_wr_same _ _ _ ⟨by simp [Cond.pend], by simpa [Cond.pend] using hb⟩]; simp [Cond.pend]
  unfold State.raise
  simp only [he, if_true]
  (repeat' split)
  · exact (State.on_congr _ (State.reg_raiseEvent _ _ _ _ _ _ hc h)).trans h1
  · exact (State.on_congr _ (State.reg_offer _ _ _ _ _ _ _ _ h)).trans h1
  · exact h1

theorem State.capture_reg (s : State) {p o a : Nat} (r : Req) (e : PgErr) (h : a ≠ hdr p 0x01C) :
    (s.capture p o r e).reg a = s.reg a := by
  unfold State.capture
  simp only []
  split <;> simp [State.reg_wr_ne, State.reg_setReg_ne, h]

end Sys2Proof.Machine
end

