-- ==== Sys2Proof/Laws/Access.lean ====
section
/-!
SUPPORT. Laws/Access.lean: a write that its page accepts, and a read that its page answers, are the block's own rule.
-/

namespace Sys2Proof.Machine

/-- An accepted write of a register is what its block's rule makes of it. -/
theorem State.pageWrite_of_accepts {s : State} {r : Req} {a : Nat} {v : Word} (h : s.accepts r a)
    (hr : (regSpec? a).isSome = true) (ho : 0x100 ≤ a % 0x1000) : s.pageWrite r a v 15 = s.blockWrite r a v := by
  obtain ⟨h1, h2, h3, h4, h5, h6, h7⟩ := h
  obtain ⟨x, hx⟩ := Option.isSome_iff_exists.1 hr
  have h9 : (hostSide r && (s.pairState = 2 || s.pairState = 3) && standbyClosed (a / 0x1000)) = false := by
    by_cases hh : hostSide r = true
    · have := (h3 hh).2
      by_cases hc : standbyClosed (a / 0x1000) = true
      · have hp : ¬ (s.pairState = 2 ∨ s.pairState = 3) := fun hp => this ⟨hp, hc⟩
        simp at hp; simp [hp]
      · simp [hc]
    · simp [hh]
  have h10 : (decide (a / 0x1000 = 0x12) && decide (a % 0x1000 ≠ 0x014) && decide (s.rd R.SYS_STRAP_ROLE ≠ 0)) = false := by
    by_cases hp : a / 0x1000 = 0x12
    · simp [h4 hp]
    · simp [hp]
  unfold State.pageWrite
  simp only [h9, h10, hx, h5]
  rw [if_neg (by simp), if_neg (by simp; omega), if_neg (by simp), if_neg (by simp), if_neg (by simp), if_neg (by omega)]
  unfold State.openWrite
  simp only [hx, h6, h7]
  simp

/-- A register of the table lies in an assigned page. -/
theorem blockAt_of_regSpec {a : Nat} (ha : a < 0x100000) (hr : (regSpec? a).isSome = true) :
    (blockAt (a / 0x1000)).isNone = false := by
  unfold regSpec? at hr
  rw [Nat.mod_eq_of_lt ha] at hr
  cases h : blockAt (a / 0x1000) with
  | none => rw [h] at hr; simp at hr
  | some b => rfl

theorem State.regWrite_of_accepts {s s' : State} {r : Req} {a : Nat} {v : Word} (h : s.accepts r a) (ha : a < 0x100000)
    (hr : (regSpec? a).isSome = true) (ho : 0x100 ≤ a % 0x1000) (hb : s.blockWrite r a v = (none, s')) :
    s.regWrite r a v 15 = (none, s') := by
  have h8 : ¬ (hostSide r && !pageAnswers s.mode (a / 0x1000)) = true := by
    by_cases hh : hostSide r = true
    · simp [(h.2.2.1 hh).1]
    · simp [hh]
  unfold State.regWrite
  simp only [if_neg h8, blockAt_of_regSpec ha hr, State.pageWrite_of_accepts h hr ho, hb]
  simp

/-- An accepted write that asks for no reset leaves what its block's rule makes of it. -/
theorem State.cmdWrite_of_accepts {s s' : State} {r : Req} {a : Nat} {v : Word} (h : s.accepts r a) (ha : a < 0x100000)
    (hr : (regSpec? a).isSome = true) (ho : 0x100 ≤ a % 0x1000) (hb : s.blockWrite r a v = (none, s'))
    (hd : s'.sys.resetDue = s.sys.resetDue) : s.cmdWrite r a v = s' := by
  unfold State.cmdWrite
  rw [if_neg (by simp [h.1]), if_neg, State.regWrite_of_accepts h ha hr ho hb]
  · show s.settle s' = s'
    unfold State.settle
    rw [hd]
    split
    · rfl
    · rw [if_pos (by assumption)]
  · by_cases hh : r = .host
    · simp [h.2.1 hh]
    · simp [hh]

/-- An answered read returns what its block's rule gives, with the effect of the read. -/
theorem State.cmdRead_of_answers {s s' : State} {r : Req} {a : Nat} {v : Word} (h : s.answers r a) (ha : a < 0x100000)
    (hr : (regSpec? a).isSome = true) (ho : 0x100 ≤ a % 0x1000) (hp : headPort a = none) (hb : s.blockRead r a = (v, s')) :
    s.cmdRead r a = s'.out (.readValue r a v) := by
  obtain ⟨h1, h2, h3⟩ := h
  have h8 : ¬ (hostSide r && !pageAnswers s.mode (a / 0x1000)) = true := by
    by_cases hh : hostSide r = true
    · simp [h3 hh]
    · simp [hh]
  have h9 : (regSpec? a).isNone = false := by
    cases hx : regSpec? a with
    | none => rw [hx] at hr; simp at hr
    | some b => rfl
  have hread : s.regRead r a = (none, v, s') := by
    unfold State.regRead
    simp only [if_neg h8, blockAt_of_regSpec ha hr, h9, hp, hb]
    rw [if_neg (by simp), if_neg (by simp), if_neg (by omega), if_neg (by simp)]
  unfold State.cmdRead
  rw [if_neg (by simp [h1]), if_neg]
  · unfold State.regReadCap
    simp only [hread]
  · by_cases hh : r = .host
    · simp [h2 hh]
    · simp [hh]

end Sys2Proof.Machine
end

