-- ==== Sys2Proof/Laws/Engine.lean ====
section
/-!
SUPPORT. Laws/Engine.lean: what the shared operations of an instruction do: the environment it runs in, reading a word of
memory, and the end of an instruction.
-/

namespace Sys2Proof.Machine

/-! ### State.captureEcc -/

theorem State.captureEcc_rest (s : State) (m : MemKind) (n o : Nat) (e : Ecc) :
    { s.captureEcc m n o e with regs := s.regs } = s := by unfold State.captureEcc; simp only []; (repeat' split) <;> rfl

@[simp] theorem State.captureEcc_pending (s : State) (m : MemKind) (n o : Nat) (e : Ecc) : (s.captureEcc m n o e).pending = s.pending := (congrArg State.pending (s.captureEcc_rest m n o e) :)
@[simp] theorem State.captureEcc_tb (s : State) (m : MemKind) (n o : Nat) (e : Ecc) : (s.captureEcc m n o e).tb = s.tb := (congrArg State.tb (s.captureEcc_rest m n o e) :)
@[simp] theorem State.captureEcc_fresh (s : State) (m : MemKind) (n o : Nat) (e : Ecc) : (s.captureEcc m n o e).fresh = s.fresh := (congrArg State.fresh (s.captureEcc_rest m n o e) :)
@[simp] theorem State.captureEcc_mem (s : State) (m : MemKind) (n o : Nat) (e : Ecc) : (s.captureEcc m n o e).mem = s.mem := (congrArg State.mem (s.captureEcc_rest m n o e) :)
@[simp] theorem State.captureEcc_wire (s : State) (m : MemKind) (n o : Nat) (e : Ecc) : (s.captureEcc m n o e).wire = s.wire := (congrArg State.wire (s.captureEcc_rest m n o e) :)
@[simp] theorem State.captureEcc_evt (s : State) (m : MemKind) (n o : Nat) (e : Ecc) : (s.captureEcc m n o e).evt = s.evt := (congrArg State.evt (s.captureEcc_rest m n o e) :)
@[simp] theorem State.captureEcc_recorder (s : State) (m : MemKind) (n o : Nat) (e : Ecc) : (s.captureEcc m n o e).recorder = s.recorder := (congrArg State.recorder (s.captureEcc_rest m n o e) :)
@[simp] theorem State.captureEcc_sys (s : State) (m : MemKind) (n o : Nat) (e : Ecc) : (s.captureEcc m n o e).sys = s.sys := (congrArg State.sys (s.captureEcc_rest m n o e) :)
@[simp] theorem State.captureEcc_exec (s : State) (m : MemKind) (n o : Nat) (e : Ecc) : (s.captureEcc m n o e).exec = s.exec := (congrArg State.exec (s.captureEcc_rest m n o e) :)
@[simp] theorem State.captureEcc_prog (s : State) (m : MemKind) (n o : Nat) (e : Ecc) : (s.captureEcc m n o e).prog = s.prog := (congrArg State.prog (s.captureEcc_rest m n o e) :)
@[simp] theorem State.captureEcc_memory (s : State) (m : MemKind) (n o : Nat) (e : Ecc) : (s.captureEcc m n o e).memory = s.memory := (congrArg State.memory (s.captureEcc_rest m n o e) :)
@[simp] theorem State.captureEcc_cox (s : State) (m : MemKind) (n o : Nat) (e : Ecc) : (s.captureEcc m n o e).cox = s.cox := (congrArg State.cox (s.captureEcc_rest m n o e) :)
@[simp] theorem State.captureEcc_force (s : State) (m : MemKind) (n o : Nat) (e : Ecc) : (s.captureEcc m n o e).force = s.force := (congrArg State.force (s.captureEcc_rest m n o e) :)
@[simp] theorem State.captureEcc_pwr (s : State) (m : MemKind) (n o : Nat) (e : Ecc) : (s.captureEcc m n o e).pwr = s.pwr := (congrArg State.pwr (s.captureEcc_rest m n o e) :)
@[simp] theorem State.captureEcc_edit (s : State) (m : MemKind) (n o : Nat) (e : Ecc) : (s.captureEcc m n o e).edit = s.edit := (congrArg State.edit (s.captureEcc_rest m n o e) :)
@[simp] theorem State.captureEcc_loop (s : State) (m : MemKind) (n o : Nat) (e : Ecc) : (s.captureEcc m n o e).loop = s.loop := (congrArg State.loop (s.captureEcc_rest m n o e) :)
@[simp] theorem State.captureEcc_clk (s : State) (m : MemKind) (n o : Nat) (e : Ecc) : (s.captureEcc m n o e).clk = s.clk := (congrArg State.clk (s.captureEcc_rest m n o e) :)
@[simp] theorem State.captureEcc_wdt (s : State) (m : MemKind) (n o : Nat) (e : Ecc) : (s.captureEcc m n o e).wdt = s.wdt := (congrArg State.wdt (s.captureEcc_rest m n o e) :)
@[simp] theorem State.captureEcc_rtc (s : State) (m : MemKind) (n o : Nat) (e : Ecc) : (s.captureEcc m n o e).rtc = s.rtc := (congrArg State.rtc (s.captureEcc_rest m n o e) :)
@[simp] theorem State.captureEcc_dio (s : State) (m : MemKind) (n o : Nat) (e : Ecc) : (s.captureEcc m n o e).dio = s.dio := (congrArg State.dio (s.captureEcc_rest m n o e) :)
@[simp] theorem State.captureEcc_panel (s : State) (m : MemKind) (n o : Nat) (e : Ecc) : (s.captureEcc m n o e).panel = s.panel := (congrArg State.panel (s.captureEcc_rest m n o e) :)
@[simp] theorem State.captureEcc_mbx (s : State) (m : MemKind) (n o : Nat) (e : Ecc) : (s.captureEcc m n o e).mbx = s.mbx := (congrArg State.mbx (s.captureEcc_rest m n o e) :)
@[simp] theorem State.captureEcc_spare (s : State) (m : MemKind) (n o : Nat) (e : Ecc) : (s.captureEcc m n o e).spare = s.spare := (congrArg State.spare (s.captureEcc_rest m n o e) :)
@[simp] theorem State.captureEcc_upd (s : State) (m : MemKind) (n o : Nat) (e : Ecc) : (s.captureEcc m n o e).upd = s.upd := (congrArg State.upd (s.captureEcc_rest m n o e) :)
@[simp] theorem State.captureEcc_sec (s : State) (m : MemKind) (n o : Nat) (e : Ecc) : (s.captureEcc m n o e).sec = s.sec := (congrArg State.sec (s.captureEcc_rest m n o e) :)
@[simp] theorem State.captureEcc_fbc (s : State) (m : MemKind) (n o : Nat) (e : Ecc) : (s.captureEcc m n o e).fbc = s.fbc := (congrArg State.fbc (s.captureEcc_rest m n o e) :)
@[simp] theorem State.captureEcc_pair (s : State) (m : MemKind) (n o : Nat) (e : Ecc) : (s.captureEcc m n o e).pair = s.pair := (congrArg State.pair (s.captureEcc_rest m n o e) :)
@[simp] theorem State.captureEcc_net (s : State) (m : MemKind) (n o : Nat) (e : Ecc) : (s.captureEcc m n o e).net = s.net := (congrArg State.net (s.captureEcc_rest m n o e) :)
@[simp] theorem State.captureEcc_radio (s : State) (m : MemKind) (n o : Nat) (e : Ecc) : (s.captureEcc m n o e).radio = s.radio := (congrArg State.radio (s.captureEcc_rest m n o e) :)
@[simp] theorem State.captureEcc_can (s : State) (m : MemKind) (n o : Nat) (e : Ecc) : (s.captureEcc m n o e).can = s.can := (congrArg State.can (s.captureEcc_rest m n o e) :)

/-! ### State.startBankCopy -/

theorem State.startBankCopy_rest (s : State) (b : Nat) :
    { s.startBankCopy b with memory := s.memory } = s := by unfold State.startBankCopy; split <;> rfl

@[simp] theorem State.startBankCopy_pending (s : State) (b : Nat) : (s.startBankCopy b).pending = s.pending := (congrArg State.pending (s.startBankCopy_rest b) :)
@[simp] theorem State.startBankCopy_regs (s : State) (b : Nat) : (s.startBankCopy b).regs = s.regs := (congrArg State.regs (s.startBankCopy_rest b) :)
@[simp] theorem State.startBankCopy_tb (s : State) (b : Nat) : (s.startBankCopy b).tb = s.tb := (congrArg State.tb (s.startBankCopy_rest b) :)
@[simp] theorem State.startBankCopy_fresh (s : State) (b : Nat) : (s.startBankCopy b).fresh = s.fresh := (congrArg State.fresh (s.startBankCopy_rest b) :)
@[simp] theorem State.startBankCopy_mem (s : State) (b : Nat) : (s.startBankCopy b).mem = s.mem := (congrArg State.mem (s.startBankCopy_rest b) :)
@[simp] theorem State.startBankCopy_wire (s : State) (b : Nat) : (s.startBankCopy b).wire = s.wire := (congrArg State.wire (s.startBankCopy_rest b) :)
@[simp] theorem State.startBankCopy_evt (s : State) (b : Nat) : (s.startBankCopy b).evt = s.evt := (congrArg State.evt (s.startBankCopy_rest b) :)
@[simp] theorem State.startBankCopy_recorder (s : State) (b : Nat) : (s.startBankCopy b).recorder = s.recorder := (congrArg State.recorder (s.startBankCopy_rest b) :)
@[simp] theorem State.startBankCopy_sys (s : State) (b : Nat) : (s.startBankCopy b).sys = s.sys := (congrArg State.sys (s.startBankCopy_rest b) :)
@[simp] theorem State.startBankCopy_exec (s : State) (b : Nat) : (s.startBankCopy b).exec = s.exec := (congrArg State.exec (s.startBankCopy_rest b) :)
@[simp] theorem State.startBankCopy_prog (s : State) (b : Nat) : (s.startBankCopy b).prog = s.prog := (congrArg State.prog (s.startBankCopy_rest b) :)
@[simp] theorem State.startBankCopy_cox (s : State) (b : Nat) : (s.startBankCopy b).cox = s.cox := (congrArg State.cox (s.startBankCopy_rest b) :)
@[simp] theorem State.startBankCopy_force (s : State) (b : Nat) : (s.startBankCopy b).force = s.force := (congrArg State.force (s.startBankCopy_rest b) :)
@[simp] theorem State.startBankCopy_pwr (s : State) (b : Nat) : (s.startBankCopy b).pwr = s.pwr := (congrArg State.pwr (s.startBankCopy_rest b) :)
@[simp] theorem State.startBankCopy_edit (s : State) (b : Nat) : (s.startBankCopy b).edit = s.edit := (congrArg State.edit (s.startBankCopy_rest b) :)
@[simp] theorem State.startBankCopy_loop (s : State) (b : Nat) : (s.startBankCopy b).loop = s.loop := (congrArg State.loop (s.startBankCopy_rest b) :)
@[simp] theorem State.startBankCopy_clk (s : State) (b : Nat) : (s.startBankCopy b).clk = s.clk := (congrArg State.clk (s.startBankCopy_rest b) :)
@[simp] theorem State.startBankCopy_wdt (s : State) (b : Nat) : (s.startBankCopy b).wdt = s.wdt := (congrArg State.wdt (s.startBankCopy_rest b) :)
@[simp] theorem State.startBankCopy_rtc (s : State) (b : Nat) : (s.startBankCopy b).rtc = s.rtc := (congrArg State.rtc (s.startBankCopy_rest b) :)
@[simp] theorem State.startBankCopy_dio (s : State) (b : Nat) : (s.startBankCopy b).dio = s.dio := (congrArg State.dio (s.startBankCopy_rest b) :)
@[simp] theorem State.startBankCopy_panel (s : State) (b : Nat) : (s.startBankCopy b).panel = s.panel := (congrArg State.panel (s.startBankCopy_rest b) :)
@[simp] theorem State.startBankCopy_mbx (s : State) (b : Nat) : (s.startBankCopy b).mbx = s.mbx := (congrArg State.mbx (s.startBankCopy_rest b) :)
@[simp] theorem State.startBankCopy_spare (s : State) (b : Nat) : (s.startBankCopy b).spare = s.spare := (congrArg State.spare (s.startBankCopy_rest b) :)
@[simp] theorem State.startBankCopy_upd (s : State) (b : Nat) : (s.startBankCopy b).upd = s.upd := (congrArg State.upd (s.startBankCopy_rest b) :)
@[simp] theorem State.startBankCopy_sec (s : State) (b : Nat) : (s.startBankCopy b).sec = s.sec := (congrArg State.sec (s.startBankCopy_rest b) :)
@[simp] theorem State.startBankCopy_fbc (s : State) (b : Nat) : (s.startBankCopy b).fbc = s.fbc := (congrArg State.fbc (s.startBankCopy_rest b) :)
@[simp] theorem State.startBankCopy_pair (s : State) (b : Nat) : (s.startBankCopy b).pair = s.pair := (congrArg State.pair (s.startBankCopy_rest b) :)
@[simp] theorem State.startBankCopy_net (s : State) (b : Nat) : (s.startBankCopy b).net = s.net := (congrArg State.net (s.startBankCopy_rest b) :)
@[simp] theorem State.startBankCopy_radio (s : State) (b : Nat) : (s.startBankCopy b).radio = s.radio := (congrArg State.radio (s.startBankCopy_rest b) :)
@[simp] theorem State.startBankCopy_can (s : State) (b : Nat) : (s.startBankCopy b).can = s.can := (congrArg State.can (s.startBankCopy_rest b) :)

/-! ### State.hardRow -/

theorem State.hardRow_rest (s : State) (o : Nat) :
    { s.hardRow o with memory := s.memory } = s := by unfold State.hardRow; simp only []; (repeat' split) <;> simp

@[simp] theorem State.hardRow_pending (s : State) (o : Nat) : (s.hardRow o).pending = s.pending := (congrArg State.pending (s.hardRow_rest o) :)
@[simp] theorem State.hardRow_regs (s : State) (o : Nat) : (s.hardRow o).regs = s.regs := (congrArg State.regs (s.hardRow_rest o) :)
@[simp] theorem State.hardRow_tb (s : State) (o : Nat) : (s.hardRow o).tb = s.tb := (congrArg State.tb (s.hardRow_rest o) :)
@[simp] theorem State.hardRow_fresh (s : State) (o : Nat) : (s.hardRow o).fresh = s.fresh := (congrArg State.fresh (s.hardRow_rest o) :)
@[simp] theorem State.hardRow_mem (s : State) (o : Nat) : (s.hardRow o).mem = s.mem := (congrArg State.mem (s.hardRow_rest o) :)
@[simp] theorem State.hardRow_wire (s : State) (o : Nat) : (s.hardRow o).wire = s.wire := (congrArg State.wire (s.hardRow_rest o) :)
@[simp] theorem State.hardRow_evt (s : State) (o : Nat) : (s.hardRow o).evt = s.evt := (congrArg State.evt (s.hardRow_rest o) :)
@[simp] theorem State.hardRow_recorder (s : State) (o : Nat) : (s.hardRow o).recorder = s.recorder := (congrArg State.recorder (s.hardRow_rest o) :)
@[simp] theorem State.hardRow_sys (s : State) (o : Nat) : (s.hardRow o).sys = s.sys := (congrArg State.sys (s.hardRow_rest o) :)
@[simp] theorem State.hardRow_exec (s : State) (o : Nat) : (s.hardRow o).exec = s.exec := (congrArg State.exec (s.hardRow_rest o) :)
@[simp] theorem State.hardRow_prog (s : State) (o : Nat) : (s.hardRow o).prog = s.prog := (congrArg State.prog (s.hardRow_rest o) :)
@[simp] theorem State.hardRow_cox (s : State) (o : Nat) : (s.hardRow o).cox = s.cox := (congrArg State.cox (s.hardRow_rest o) :)
@[simp] theorem State.hardRow_force (s : State) (o : Nat) : (s.hardRow o).force = s.force := (congrArg State.force (s.hardRow_rest o) :)
@[simp] theorem State.hardRow_pwr (s : State) (o : Nat) : (s.hardRow o).pwr = s.pwr := (congrArg State.pwr (s.hardRow_rest o) :)
@[simp] theorem State.hardRow_edit (s : State) (o : Nat) : (s.hardRow o).edit = s.edit := (congrArg State.edit (s.hardRow_rest o) :)
@[simp] theorem State.hardRow_loop (s : State) (o : Nat) : (s.hardRow o).loop = s.loop := (congrArg State.loop (s.hardRow_rest o) :)
@[simp] theorem State.hardRow_clk (s : State) (o : Nat) : (s.hardRow o).clk = s.clk := (congrArg State.clk (s.hardRow_rest o) :)
@[simp] theorem State.hardRow_wdt (s : State) (o : Nat) : (s.hardRow o).wdt = s.wdt := (congrArg State.wdt (s.hardRow_rest o) :)
@[simp] theorem State.hardRow_rtc (s : State) (o : Nat) : (s.hardRow o).rtc = s.rtc := (congrArg State.rtc (s.hardRow_rest o) :)
@[simp] theorem State.hardRow_dio (s : State) (o : Nat) : (s.hardRow o).dio = s.dio := (congrArg State.dio (s.hardRow_rest o) :)
@[simp] theorem State.hardRow_panel (s : State) (o : Nat) : (s.hardRow o).panel = s.panel := (congrArg State.panel (s.hardRow_rest o) :)
@[simp] theorem State.hardRow_mbx (s : State) (o : Nat) : (s.hardRow o).mbx = s.mbx := (congrArg State.mbx (s.hardRow_rest o) :)
@[simp] theorem State.hardRow_spare (s : State) (o : Nat) : (s.hardRow o).spare = s.spare := (congrArg State.spare (s.hardRow_rest o) :)
@[simp] theorem State.hardRow_upd (s : State) (o : Nat) : (s.hardRow o).upd = s.upd := (congrArg State.upd (s.hardRow_rest o) :)
@[simp] theorem State.hardRow_sec (s : State) (o : Nat) : (s.hardRow o).sec = s.sec := (congrArg State.sec (s.hardRow_rest o) :)
@[simp] theorem State.hardRow_fbc (s : State) (o : Nat) : (s.hardRow o).fbc = s.fbc := (congrArg State.fbc (s.hardRow_rest o) :)
@[simp] theorem State.hardRow_pair (s : State) (o : Nat) : (s.hardRow o).pair = s.pair := (congrArg State.pair (s.hardRow_rest o) :)
@[simp] theorem State.hardRow_net (s : State) (o : Nat) : (s.hardRow o).net = s.net := (congrArg State.net (s.hardRow_rest o) :)
@[simp] theorem State.hardRow_radio (s : State) (o : Nat) : (s.hardRow o).radio = s.radio := (congrArg State.radio (s.hardRow_rest o) :)
@[simp] theorem State.hardRow_can (s : State) (o : Nat) : (s.hardRow o).can = s.can := (congrArg State.can (s.hardRow_rest o) :)

/-! ### State.noteUe -/

theorem State.noteUe_rest (s : State) (o : Nat) :
    { s.noteUe o with memory := s.memory } = s := by unfold State.noteUe; simp only []; (repeat' split) <;> simp

@[simp] theorem State.noteUe_pending (s : State) (o : Nat) : (s.noteUe o).pending = s.pending := (congrArg State.pending (s.noteUe_rest o) :)
@[simp] theorem State.noteUe_regs (s : State) (o : Nat) : (s.noteUe o).regs = s.regs := (congrArg State.regs (s.noteUe_rest o) :)
@[simp] theorem State.noteUe_tb (s : State) (o : Nat) : (s.noteUe o).tb = s.tb := (congrArg State.tb (s.noteUe_rest o) :)
@[simp] theorem State.noteUe_fresh (s : State) (o : Nat) : (s.noteUe o).fresh = s.fresh := (congrArg State.fresh (s.noteUe_rest o) :)
@[simp] theorem State.noteUe_mem (s : State) (o : Nat) : (s.noteUe o).mem = s.mem := (congrArg State.mem (s.noteUe_rest o) :)
@[simp] theorem State.noteUe_wire (s : State) (o : Nat) : (s.noteUe o).wire = s.wire := (congrArg State.wire (s.noteUe_rest o) :)
@[simp] theorem State.noteUe_evt (s : State) (o : Nat) : (s.noteUe o).evt = s.evt := (congrArg State.evt (s.noteUe_rest o) :)
@[simp] theorem State.noteUe_recorder (s : State) (o : Nat) : (s.noteUe o).recorder = s.recorder := (congrArg State.recorder (s.noteUe_rest o) :)
@[simp] theorem State.noteUe_sys (s : State) (o : Nat) : (s.noteUe o).sys = s.sys := (congrArg State.sys (s.noteUe_rest o) :)
@[simp] theorem State.noteUe_exec (s : State) (o : Nat) : (s.noteUe o).exec = s.exec := (congrArg State.exec (s.noteUe_rest o) :)
@[simp] theorem State.noteUe_prog (s : State) (o : Nat) : (s.noteUe o).prog = s.prog := (congrArg State.prog (s.noteUe_rest o) :)
@[simp] theorem State.noteUe_cox (s : State) (o : Nat) : (s.noteUe o).cox = s.cox := (congrArg State.cox (s.noteUe_rest o) :)
@[simp] theorem State.noteUe_force (s : State) (o : Nat) : (s.noteUe o).force = s.force := (congrArg State.force (s.noteUe_rest o) :)
@[simp] theorem State.noteUe_pwr (s : State) (o : Nat) : (s.noteUe o).pwr = s.pwr := (congrArg State.pwr (s.noteUe_rest o) :)
@[simp] theorem State.noteUe_edit (s : State) (o : Nat) : (s.noteUe o).edit = s.edit := (congrArg State.edit (s.noteUe_rest o) :)
@[simp] theorem State.noteUe_loop (s : State) (o : Nat) : (s.noteUe o).loop = s.loop := (congrArg State.loop (s.noteUe_rest o) :)
@[simp] theorem State.noteUe_clk (s : State) (o : Nat) : (s.noteUe o).clk = s.clk := (congrArg State.clk (s.noteUe_rest o) :)
@[simp] theorem State.noteUe_wdt (s : State) (o : Nat) : (s.noteUe o).wdt = s.wdt := (congrArg State.wdt (s.noteUe_rest o) :)
@[simp] theorem State.noteUe_rtc (s : State) (o : Nat) : (s.noteUe o).rtc = s.rtc := (congrArg State.rtc (s.noteUe_rest o) :)
@[simp] theorem State.noteUe_dio (s : State) (o : Nat) : (s.noteUe o).dio = s.dio := (congrArg State.dio (s.noteUe_rest o) :)
@[simp] theorem State.noteUe_panel (s : State) (o : Nat) : (s.noteUe o).panel = s.panel := (congrArg State.panel (s.noteUe_rest o) :)
@[simp] theorem State.noteUe_mbx (s : State) (o : Nat) : (s.noteUe o).mbx = s.mbx := (congrArg State.mbx (s.noteUe_rest o) :)
@[simp] theorem State.noteUe_spare (s : State) (o : Nat) : (s.noteUe o).spare = s.spare := (congrArg State.spare (s.noteUe_rest o) :)
@[simp] theorem State.noteUe_upd (s : State) (o : Nat) : (s.noteUe o).upd = s.upd := (congrArg State.upd (s.noteUe_rest o) :)
@[simp] theorem State.noteUe_sec (s : State) (o : Nat) : (s.noteUe o).sec = s.sec := (congrArg State.sec (s.noteUe_rest o) :)
@[simp] theorem State.noteUe_fbc (s : State) (o : Nat) : (s.noteUe o).fbc = s.fbc := (congrArg State.fbc (s.noteUe_rest o) :)
@[simp] theorem State.noteUe_pair (s : State) (o : Nat) : (s.noteUe o).pair = s.pair := (congrArg State.pair (s.noteUe_rest o) :)
@[simp] theorem State.noteUe_net (s : State) (o : Nat) : (s.noteUe o).net = s.net := (congrArg State.net (s.noteUe_rest o) :)
@[simp] theorem State.noteUe_radio (s : State) (o : Nat) : (s.noteUe o).radio = s.radio := (congrArg State.radio (s.noteUe_rest o) :)
@[simp] theorem State.noteUe_can (s : State) (o : Nat) : (s.noteUe o).can = s.can := (congrArg State.can (s.noteUe_rest o) :)

/-! ### State.forgetHard -/

/-- A clean word changes nothing but the history of corrected positions. -/
theorem State.forgetHard_rest (s : State) (m : MemKind) (o : Nat) :
    { s.forgetHard m o with memory := { (s.forgetHard m o).memory with history := s.memory.history } } = s := by
  unfold State.forgetHard; simp only []; split <;> rfl

theorem State.forgetHard_memory (s : State) (m : MemKind) (o : Nat) :
    s.forgetHard m o = { s with memory := (s.forgetHard m o).memory } := by
  unfold State.forgetHard; simp only []; split <;> rfl

/-- The memories after a clean word differ in that history alone. -/
theorem State.forgetHard_history (s : State) (m : MemKind) (o : Nat) :
    { (s.forgetHard m o).memory with history := s.memory.history } = s.memory := congrArg State.memory (s.forgetHard_rest m o)

theorem State.forgetHard_rest' (s : State) (m : MemKind) (o : Nat) :
    { s.forgetHard m o with regs := s.regs, evt := s.evt, recorder := s.recorder, memory := s.memory } = s := by
  rw [State.forgetHard_memory]

@[simp] theorem State.core_forgetHard (s : State) (m : MemKind) (o c : Nat) : (s.forgetHard m o).core c = s.core c := by
  rw [State.forgetHard_memory]; rfl

@[simp] theorem State.reg_forgetHard (s : State) (m : MemKind) (o a : Nat) : (s.forgetHard m o).reg a = s.reg a := by
  rw [State.forgetHard_memory]; rfl

/-! ### State.noteWord -/

theorem State.noteWord_rest (s : State) (m : MemKind) (n o : Nat) (e : Ecc) :
    { s.noteWord m n o e with regs := s.regs, evt := s.evt, recorder := s.recorder, memory := s.memory } = s := by unfold State.noteWord; simp only []; (repeat' split) <;> simp [State.forgetHard_rest']

@[simp] theorem State.noteWord_pending (s : State) (m : MemKind) (n o : Nat) (e : Ecc) : (s.noteWord m n o e).pending = s.pending := (congrArg State.pending (s.noteWord_rest m n o e) :)
@[simp] theorem State.noteWord_tb (s : State) (m : MemKind) (n o : Nat) (e : Ecc) : (s.noteWord m n o e).tb = s.tb := (congrArg State.tb (s.noteWord_rest m n o e) :)
@[simp] theorem State.noteWord_fresh (s : State) (m : MemKind) (n o : Nat) (e : Ecc) : (s.noteWord m n o e).fresh = s.fresh := (congrArg State.fresh (s.noteWord_rest m n o e) :)
@[simp] theorem State.noteWord_mem (s : State) (m : MemKind) (n o : Nat) (e : Ecc) : (s.noteWord m n o e).mem = s.mem := (congrArg State.mem (s.noteWord_rest m n o e) :)
@[simp] theorem State.noteWord_wire (s : State) (m : MemKind) (n o : Nat) (e : Ecc) : (s.noteWord m n o e).wire = s.wire := (congrArg State.wire (s.noteWord_rest m n o e) :)
@[simp] theorem State.noteWord_sys (s : State) (m : MemKind) (n o : Nat) (e : Ecc) : (s.noteWord m n o e).sys = s.sys := (congrArg State.sys (s.noteWord_rest m n o e) :)
@[simp] theorem State.noteWord_exec (s : State) (m : MemKind) (n o : Nat) (e : Ecc) : (s.noteWord m n o e).exec = s.exec := (congrArg State.exec (s.noteWord_rest m n o e) :)
@[simp] theorem State.noteWord_prog (s : State) (m : MemKind) (n o : Nat) (e : Ecc) : (s.noteWord m n o e).prog = s.prog := (congrArg State.prog (s.noteWord_rest m n o e) :)
@[simp] theorem State.noteWord_cox (s : State) (m : MemKind) (n o : Nat) (e : Ecc) : (s.noteWord m n o e).cox = s.cox := (congrArg State.cox (s.noteWord_rest m n o e) :)
@[simp] theorem State.noteWord_force (s : State) (m : MemKind) (n o : Nat) (e : Ecc) : (s.noteWord m n o e).force = s.force := (congrArg State.force (s.noteWord_rest m n o e) :)
@[simp] theorem State.noteWord_pwr (s : State) (m : MemKind) (n o : Nat) (e : Ecc) : (s.noteWord m n o e).pwr = s.pwr := (congrArg State.pwr (s.noteWord_rest m n o e) :)
@[simp] theorem State.noteWord_edit (s : State) (m : MemKind) (n o : Nat) (e : Ecc) : (s.noteWord m n o e).edit = s.edit := (congrArg State.edit (s.noteWord_rest m n o e) :)
@[simp] theorem State.noteWord_loop (s : State) (m : MemKind) (n o : Nat) (e : Ecc) : (s.noteWord m n o e).loop = s.loop := (congrArg State.loop (s.noteWord_rest m n o e) :)
@[simp] theorem State.noteWord_clk (s : State) (m : MemKind) (n o : Nat) (e : Ecc) : (s.noteWord m n o e).clk = s.clk := (congrArg State.clk (s.noteWord_rest m n o e) :)
@[simp] theorem State.noteWord_wdt (s : State) (m : MemKind) (n o : Nat) (e : Ecc) : (s.noteWord m n o e).wdt = s.wdt := (congrArg State.wdt (s.noteWord_rest m n o e) :)
@[simp] theorem State.noteWord_rtc (s : State) (m : MemKind) (n o : Nat) (e : Ecc) : (s.noteWord m n o e).rtc = s.rtc := (congrArg State.rtc (s.noteWord_rest m n o e) :)
@[simp] theorem State.noteWord_dio (s : State) (m : MemKind) (n o : Nat) (e : Ecc) : (s.noteWord m n o e).dio = s.dio := (congrArg State.dio (s.noteWord_rest m n o e) :)
@[simp] theorem State.noteWord_panel (s : State) (m : MemKind) (n o : Nat) (e : Ecc) : (s.noteWord m n o e).panel = s.panel := (congrArg State.panel (s.noteWord_rest m n o e) :)
@[simp] theorem State.noteWord_mbx (s : State) (m : MemKind) (n o : Nat) (e : Ecc) : (s.noteWord m n o e).mbx = s.mbx := (congrArg State.mbx (s.noteWord_rest m n o e) :)
@[simp] theorem State.noteWord_spare (s : State) (m : MemKind) (n o : Nat) (e : Ecc) : (s.noteWord m n o e).spare = s.spare := (congrArg State.spare (s.noteWord_rest m n o e) :)
@[simp] theorem State.noteWord_upd (s : State) (m : MemKind) (n o : Nat) (e : Ecc) : (s.noteWord m n o e).upd = s.upd := (congrArg State.upd (s.noteWord_rest m n o e) :)
@[simp] theorem State.noteWord_sec (s : State) (m : MemKind) (n o : Nat) (e : Ecc) : (s.noteWord m n o e).sec = s.sec := (congrArg State.sec (s.noteWord_rest m n o e) :)
@[simp] theorem State.noteWord_fbc (s : State) (m : MemKind) (n o : Nat) (e : Ecc) : (s.noteWord m n o e).fbc = s.fbc := (congrArg State.fbc (s.noteWord_rest m n o e) :)
@[simp] theorem State.noteWord_pair (s : State) (m : MemKind) (n o : Nat) (e : Ecc) : (s.noteWord m n o e).pair = s.pair := (congrArg State.pair (s.noteWord_rest m n o e) :)
@[simp] theorem State.noteWord_net (s : State) (m : MemKind) (n o : Nat) (e : Ecc) : (s.noteWord m n o e).net = s.net := (congrArg State.net (s.noteWord_rest m n o e) :)
@[simp] theorem State.noteWord_radio (s : State) (m : MemKind) (n o : Nat) (e : Ecc) : (s.noteWord m n o e).radio = s.radio := (congrArg State.radio (s.noteWord_rest m n o e) :)
@[simp] theorem State.noteWord_can (s : State) (m : MemKind) (n o : Nat) (e : Ecc) : (s.noteWord m n o e).can = s.can := (congrArg State.can (s.noteWord_rest m n o e) :)

/-! ### State.cleanWord -/

theorem State.cleanWord_rest (s : State) (a : Nat) (b : Bool) :
    { s.cleanWord a b with memory := s.memory } = s := rfl

@[simp] theorem State.cleanWord_pending (s : State) (a : Nat) (b : Bool) : (s.cleanWord a b).pending = s.pending := (congrArg State.pending (s.cleanWord_rest a b) :)
@[simp] theorem State.cleanWord_regs (s : State) (a : Nat) (b : Bool) : (s.cleanWord a b).regs = s.regs := (congrArg State.regs (s.cleanWord_rest a b) :)
@[simp] theorem State.cleanWord_tb (s : State) (a : Nat) (b : Bool) : (s.cleanWord a b).tb = s.tb := (congrArg State.tb (s.cleanWord_rest a b) :)
@[simp] theorem State.cleanWord_fresh (s : State) (a : Nat) (b : Bool) : (s.cleanWord a b).fresh = s.fresh := (congrArg State.fresh (s.cleanWord_rest a b) :)
@[simp] theorem State.cleanWord_mem (s : State) (a : Nat) (b : Bool) : (s.cleanWord a b).mem = s.mem := (congrArg State.mem (s.cleanWord_rest a b) :)
@[simp] theorem State.cleanWord_wire (s : State) (a : Nat) (b : Bool) : (s.cleanWord a b).wire = s.wire := (congrArg State.wire (s.cleanWord_rest a b) :)
@[simp] theorem State.cleanWord_evt (s : State) (a : Nat) (b : Bool) : (s.cleanWord a b).evt = s.evt := (congrArg State.evt (s.cleanWord_rest a b) :)
@[simp] theorem State.cleanWord_recorder (s : State) (a : Nat) (b : Bool) : (s.cleanWord a b).recorder = s.recorder := (congrArg State.recorder (s.cleanWord_rest a b) :)
@[simp] theorem State.cleanWord_sys (s : State) (a : Nat) (b : Bool) : (s.cleanWord a b).sys = s.sys := (congrArg State.sys (s.cleanWord_rest a b) :)
@[simp] theorem State.cleanWord_exec (s : State) (a : Nat) (b : Bool) : (s.cleanWord a b).exec = s.exec := (congrArg State.exec (s.cleanWord_rest a b) :)
@[simp] theorem State.cleanWord_prog (s : State) (a : Nat) (b : Bool) : (s.cleanWord a b).prog = s.prog := (congrArg State.prog (s.cleanWord_rest a b) :)
@[simp] theorem State.cleanWord_cox (s : State) (a : Nat) (b : Bool) : (s.cleanWord a b).cox = s.cox := (congrArg State.cox (s.cleanWord_rest a b) :)
@[simp] theorem State.cleanWord_force (s : State) (a : Nat) (b : Bool) : (s.cleanWord a b).force = s.force := (congrArg State.force (s.cleanWord_rest a b) :)
@[simp] theorem State.cleanWord_pwr (s : State) (a : Nat) (b : Bool) : (s.cleanWord a b).pwr = s.pwr := (congrArg State.pwr (s.cleanWord_rest a b) :)
@[simp] theorem State.cleanWord_edit (s : State) (a : Nat) (b : Bool) : (s.cleanWord a b).edit = s.edit := (congrArg State.edit (s.cleanWord_rest a b) :)
@[simp] theorem State.cleanWord_loop (s : State) (a : Nat) (b : Bool) : (s.cleanWord a b).loop = s.loop := (congrArg State.loop (s.cleanWord_rest a b) :)
@[simp] theorem State.cleanWord_clk (s : State) (a : Nat) (b : Bool) : (s.cleanWord a b).clk = s.clk := (congrArg State.clk (s.cleanWord_rest a b) :)
@[simp] theorem State.cleanWord_wdt (s : State) (a : Nat) (b : Bool) : (s.cleanWord a b).wdt = s.wdt := (congrArg State.wdt (s.cleanWord_rest a b) :)
@[simp] theorem State.cleanWord_rtc (s : State) (a : Nat) (b : Bool) : (s.cleanWord a b).rtc = s.rtc := (congrArg State.rtc (s.cleanWord_rest a b) :)
@[simp] theorem State.cleanWord_dio (s : State) (a : Nat) (b : Bool) : (s.cleanWord a b).dio = s.dio := (congrArg State.dio (s.cleanWord_rest a b) :)
@[simp] theorem State.cleanWord_panel (s : State) (a : Nat) (b : Bool) : (s.cleanWord a b).panel = s.panel := (congrArg State.panel (s.cleanWord_rest a b) :)
@[simp] theorem State.cleanWord_mbx (s : State) (a : Nat) (b : Bool) : (s.cleanWord a b).mbx = s.mbx := (congrArg State.mbx (s.cleanWord_rest a b) :)
@[simp] theorem State.cleanWord_spare (s : State) (a : Nat) (b : Bool) : (s.cleanWord a b).spare = s.spare := (congrArg State.spare (s.cleanWord_rest a b) :)
@[simp] theorem State.cleanWord_upd (s : State) (a : Nat) (b : Bool) : (s.cleanWord a b).upd = s.upd := (congrArg State.upd (s.cleanWord_rest a b) :)
@[simp] theorem State.cleanWord_sec (s : State) (a : Nat) (b : Bool) : (s.cleanWord a b).sec = s.sec := (congrArg State.sec (s.cleanWord_rest a b) :)
@[simp] theorem State.cleanWord_fbc (s : State) (a : Nat) (b : Bool) : (s.cleanWord a b).fbc = s.fbc := (congrArg State.fbc (s.cleanWord_rest a b) :)
@[simp] theorem State.cleanWord_pair (s : State) (a : Nat) (b : Bool) : (s.cleanWord a b).pair = s.pair := (congrArg State.pair (s.cleanWord_rest a b) :)
@[simp] theorem State.cleanWord_net (s : State) (a : Nat) (b : Bool) : (s.cleanWord a b).net = s.net := (congrArg State.net (s.cleanWord_rest a b) :)
@[simp] theorem State.cleanWord_radio (s : State) (a : Nat) (b : Bool) : (s.cleanWord a b).radio = s.radio := (congrArg State.radio (s.cleanWord_rest a b) :)
@[simp] theorem State.cleanWord_can (s : State) (a : Nat) (b : Bool) : (s.cleanWord a b).can = s.can := (congrArg State.can (s.cleanWord_rest a b) :)

/-! ### State.setCore -/

theorem State.setCore_rest (s : State) (c : Nat) (k : CoreSt) :
    { s.setCore c k with exec := s.exec } = s := rfl

@[simp] theorem State.setCore_pending (s : State) (c : Nat) (k : CoreSt) : (s.setCore c k).pending = s.pending := (congrArg State.pending (s.setCore_rest c k) :)
@[simp] theorem State.setCore_regs (s : State) (c : Nat) (k : CoreSt) : (s.setCore c k).regs = s.regs := (congrArg State.regs (s.setCore_rest c k) :)
@[simp] theorem State.setCore_tb (s : State) (c : Nat) (k : CoreSt) : (s.setCore c k).tb = s.tb := (congrArg State.tb (s.setCore_rest c k) :)
@[simp] theorem State.setCore_fresh (s : State) (c : Nat) (k : CoreSt) : (s.setCore c k).fresh = s.fresh := (congrArg State.fresh (s.setCore_rest c k) :)
@[simp] theorem State.setCore_mem (s : State) (c : Nat) (k : CoreSt) : (s.setCore c k).mem = s.mem := (congrArg State.mem (s.setCore_rest c k) :)
@[simp] theorem State.setCore_wire (s : State) (c : Nat) (k : CoreSt) : (s.setCore c k).wire = s.wire := (congrArg State.wire (s.setCore_rest c k) :)
@[simp] theorem State.setCore_evt (s : State) (c : Nat) (k : CoreSt) : (s.setCore c k).evt = s.evt := (congrArg State.evt (s.setCore_rest c k) :)
@[simp] theorem State.setCore_recorder (s : State) (c : Nat) (k : CoreSt) : (s.setCore c k).recorder = s.recorder := (congrArg State.recorder (s.setCore_rest c k) :)
@[simp] theorem State.setCore_sys (s : State) (c : Nat) (k : CoreSt) : (s.setCore c k).sys = s.sys := (congrArg State.sys (s.setCore_rest c k) :)
@[simp] theorem State.setCore_prog (s : State) (c : Nat) (k : CoreSt) : (s.setCore c k).prog = s.prog := (congrArg State.prog (s.setCore_rest c k) :)
@[simp] theorem State.setCore_memory (s : State) (c : Nat) (k : CoreSt) : (s.setCore c k).memory = s.memory := (congrArg State.memory (s.setCore_rest c k) :)
@[simp] theorem State.setCore_cox (s : State) (c : Nat) (k : CoreSt) : (s.setCore c k).cox = s.cox := (congrArg State.cox (s.setCore_rest c k) :)
@[simp] theorem State.setCore_force (s : State) (c : Nat) (k : CoreSt) : (s.setCore c k).force = s.force := (congrArg State.force (s.setCore_rest c k) :)
@[simp] theorem State.setCore_pwr (s : State) (c : Nat) (k : CoreSt) : (s.setCore c k).pwr = s.pwr := (congrArg State.pwr (s.setCore_rest c k) :)
@[simp] theorem State.setCore_edit (s : State) (c : Nat) (k : CoreSt) : (s.setCore c k).edit = s.edit := (congrArg State.edit (s.setCore_rest c k) :)
@[simp] theorem State.setCore_loop (s : State) (c : Nat) (k : CoreSt) : (s.setCore c k).loop = s.loop := (congrArg State.loop (s.setCore_rest c k) :)
@[simp] theorem State.setCore_clk (s : State) (c : Nat) (k : CoreSt) : (s.setCore c k).clk = s.clk := (congrArg State.clk (s.setCore_rest c k) :)
@[simp] theorem State.setCore_wdt (s : State) (c : Nat) (k : CoreSt) : (s.setCore c k).wdt = s.wdt := (congrArg State.wdt (s.setCore_rest c k) :)
@[simp] theorem State.setCore_rtc (s : State) (c : Nat) (k : CoreSt) : (s.setCore c k).rtc = s.rtc := (congrArg State.rtc (s.setCore_rest c k) :)
@[simp] theorem State.setCore_dio (s : State) (c : Nat) (k : CoreSt) : (s.setCore c k).dio = s.dio := (congrArg State.dio (s.setCore_rest c k) :)
@[simp] theorem State.setCore_panel (s : State) (c : Nat) (k : CoreSt) : (s.setCore c k).panel = s.panel := (congrArg State.panel (s.setCore_rest c k) :)
@[simp] theorem State.setCore_mbx (s : State) (c : Nat) (k : CoreSt) : (s.setCore c k).mbx = s.mbx := (congrArg State.mbx (s.setCore_rest c k) :)
@[simp] theorem State.setCore_spare (s : State) (c : Nat) (k : CoreSt) : (s.setCore c k).spare = s.spare := (congrArg State.spare (s.setCore_rest c k) :)
@[simp] theorem State.setCore_upd (s : State) (c : Nat) (k : CoreSt) : (s.setCore c k).upd = s.upd := (congrArg State.upd (s.setCore_rest c k) :)
@[simp] theorem State.setCore_sec (s : State) (c : Nat) (k : CoreSt) : (s.setCore c k).sec = s.sec := (congrArg State.sec (s.setCore_rest c k) :)
@[simp] theorem State.setCore_fbc (s : State) (c : Nat) (k : CoreSt) : (s.setCore c k).fbc = s.fbc := (congrArg State.fbc (s.setCore_rest c k) :)
@[simp] theorem State.setCore_pair (s : State) (c : Nat) (k : CoreSt) : (s.setCore c k).pair = s.pair := (congrArg State.pair (s.setCore_rest c k) :)
@[simp] theorem State.setCore_net (s : State) (c : Nat) (k : CoreSt) : (s.setCore c k).net = s.net := (congrArg State.net (s.setCore_rest c k) :)
@[simp] theorem State.setCore_radio (s : State) (c : Nat) (k : CoreSt) : (s.setCore c k).radio = s.radio := (congrArg State.radio (s.setCore_rest c k) :)
@[simp] theorem State.setCore_can (s : State) (c : Nat) (k : CoreSt) : (s.setCore c k).can = s.can := (congrArg State.can (s.setCore_rest c k) :)

/-! ### Cores -/

@[simp] theorem State.core_setCore_same (s : State) (c : Nat) (k : CoreSt) : (s.setCore c k).core c = k := by
  simp [State.core, State.setCore]

theorem State.core_setCore_ne (s : State) {c c' : Nat} (k : CoreSt) (h : c' ≠ c) : (s.setCore c k).core c' = s.core c' := by
  simp [State.core, State.setCore, SMap.get_set_ne _ _ h]

theorem State.core_congr {s t : State} (h : t.exec = s.exec) (c : Nat) : t.core c = s.core c := by
  simp [State.core, h]

@[simp] theorem State.core_wr (s : State) (f : Fld) (v c : Nat) : (s.wr f v).core c = s.core c := rfl
@[simp] theorem State.core_wrb (s : State) (f : Fld) (v : Bool) (c : Nat) : (s.wrb f v).core c = s.core c := rfl
@[simp] theorem State.core_used (s : State) (c : Nat) : s.used.core c = s.core c := rfl
@[simp] theorem State.core_out (s : State) (w : Wire) (c : Nat) : (s.out w).core c = s.core c := rfl
@[simp] theorem State.core_setReg (s : State) (a : Nat) (w : Word) (c : Nat) : (s.setReg a w).core c = s.core c := rfl
@[simp] theorem State.core_raise (s : State) (v : Cond) (d : Nat) (l : List Byte) (lost c : Nat) :
    (s.raise v d l lost).core c = s.core c := State.core_congr (by simp) c
@[simp] theorem State.core_inc (s : State) (f : Fld) (c : Nat) : (s.inc f).core c = s.core c := State.core_congr (by simp) c
@[simp] theorem State.core_noteWord (s : State) (m : MemKind) (n o : Nat) (e : Ecc) (c : Nat) :
    (s.noteWord m n o e).core c = s.core c := State.core_congr (by simp) c
@[simp] theorem State.core_cleanWord (s : State) (a : Nat) (b : Bool) (c : Nat) :
    (s.cleanWord a b).core c = s.core c := rfl
@[simp] theorem State.reg_setCore (s : State) (c : Nat) (k : CoreSt) (a : Nat) : (s.setCore c k).reg a = s.reg a := rfl
@[simp] theorem State.rd_setCore (s : State) (c : Nat) (k : CoreSt) (f : Fld) : (s.setCore c k).rd f = s.rd f := rfl
@[simp] theorem State.on_setCore (s : State) (c : Nat) (k : CoreSt) (f : Fld) : (s.setCore c k).on f = s.on f := rfl

/-! ### The environment of an instruction -/

/-- An execution's environment holds the machine, the core, its context and its execution. -/
theorem State.env_some {s : State} {c : Nat} {e : Env} (h : s.env? c = some e) :
    e.s = s ∧ e.c = c ∧ e.ctx = s.ctxOf c e.bgd ∧ s.runOf c e.bgd = some e.run := by
  unfold State.env? at h
  simp only [] at h
  (repeat' split at h) <;> simp only [Option.some.injEq, reduceCtorEq] at h <;> subst h <;>
    simp_all [State.ctxOf, State.runOf]

theorem State.noteWord_clean (s : State) (m : MemKind) (n o : Nat) : s.noteWord m n o .clean = s.forgetHard m o := rfl

/-- The environment once the word fetched has been noted. -/
def Env.fetched (e : Env) (s : State) (d : Ecc) : Env := { e with s := (s.readWord e.ctx.pc.toNat d).2 }

/-- Reading a word changes no core. -/
@[simp] theorem State.core_readWord (s : State) (a : Nat) (d : Ecc) (c : Nat) : (s.readWord a d).2.core c = s.core c := by
  cases d with
  | fabricUe again x => cases again <;> simp [State.readWord, State.readFabric]
  | _ => simp [State.readWord, State.readFabric]

/-- A word that decodes clean ends the history of positions corrected in it (R373), and leaves nothing else to note. -/
theorem State.readWord_clean {s : State} {a : Nat} {d : Ecc} (h : s.decoded a d = .clean) :
    s.readWord a d = (.clean, s.forgetHard (memOf a).1 (memOf a).2) := by
  have hd : d = .clean := by
    unfold State.decoded at h
    split at h
    · cases h
    · exact h
  subst hd
  simp [State.readWord, State.readFabric, h, State.noteWord_clean]

/-- The instruction of a core that executes takes its effect, in the state that has noted the word fetched. -/
theorem State.instr_of_fetches {s : State} {x : At} {e : Env} (h : s.fetches x e) (n : Nat) (body : Env → IRes) :
    s.instr x n body = State.endInstr e n (body (e.fetched s x.fetch)) := by
  have hc := (State.env_some h.1).2.1
  obtain ⟨h1, h2, h3, h4⟩ := h
  unfold State.instr
  simp only [h1, h3]
  rw [if_neg (by omega), if_neg (by simp), if_neg ?_]
  · rfl
  · rw [← hc] at h4
    rcases h4 with h | h | h <;> simp [h]

/-! ### The end of an instruction -/

@[simp] theorem State.core_freezeCheck (s : State) (c : Nat) : s.freezeCheck.core c = s.core c := by
  unfold State.freezeCheck
  simp only []
  split
  · rfl
  · rw [State.core_raise]
    exact State.core_congr rfl c

@[simp] theorem State.ctxOf_haltCore (s : State) (c a b : Nat) (v : Cond) (bgd : Bool) :
    (s.haltCore c a b v).ctxOf c bgd = s.ctxOf c bgd := by
  unfold State.haltCore State.ctxOf
  simp only [State.core_freezeCheck, State.core_raise, State.core_wr, State.core_setCore_same]

@[simp] theorem State.ctxOf_afterStep (s : State) (c : Nat) (bgd : Bool) : (s.afterStep c).ctxOf c bgd = s.ctxOf c bgd := by
  unfold State.afterStep
  split <;> simp

theorem Env.core_commit (e : Env) (n : Nat) : (e.commit n).core e.c =
    (let k := e.s.core e.c
     let r := k.retired + 1
     let b := k.bClocks + e.s.free.toNat % (n + 1)
     if e.bgd then { k with bg := e.ctx, bgRun := k.bgRun.map fun _ => e.run, retired := r, bClocks := b, bpPassed := false }
     else { k with fg := e.ctx, fgRun := k.fgRun.map fun _ => e.run, bpPassed := false }) := by
  unfold Env.commit
  simp only [State.core_wr, State.core_setCore_same]
  split <;> rfl

@[simp] theorem Env.ctxOf_commit (e : Env) (n : Nat) : (e.commit n).ctxOf e.c e.bgd = e.ctx := by
  unfold State.ctxOf
  rw [Env.core_commit]
  split <;> simp [*]

/-- After an instruction that is done its context is the one it left. -/
theorem State.ctxOf_endInstr_done {e e' : Env} (n : Nat) (hc : e'.c = e.c) (hb : e'.bgd = e.bgd) :
    (State.endInstr e n (.done e')).ctxOf e.c e.bgd = e'.ctx := by
  unfold State.endInstr
  simp only [State.ctxOf_afterStep]
  rw [← hc, ← hb, Env.ctxOf_commit]

/-- A done instruction's context is the one it leaves, whatever it did to the rest of the machine. -/
theorem State.leaves_done {s : State} {x : At} {e e' : Env} {i : Instr} {n : Nat} {body : Env → IRes} (h : s.fetches x e)
    (hi : Sys2Proof.Machine.exec i s = .next (s.instr x n body))
    (hd : body (e.fetched s x.fetch) = .done e') (hc : e'.c = e.c) (hb : e'.bgd = e.bgd) : s.leaves x e i e'.ctx := by
  refine ⟨_, hi, ?_⟩
  rw [State.instr_of_fetches h, hd, ← (State.env_some h.1).2.1]
  exact State.ctxOf_endInstr_done n hc hb

@[simp] theorem Env.fetched_ctx (e : Env) (s : State) (d : Ecc) : (e.fetched s d).ctx = e.ctx := rfl
@[simp] theorem Env.fetched_c (e : Env) (s : State) (d : Ecc) : (e.fetched s d).c = e.c := rfl
@[simp] theorem Env.fetched_bgd (e : Env) (s : State) (d : Ecc) : (e.fetched s d).bgd = e.bgd := rfl
@[simp] theorem Env.fetched_run (e : Env) (s : State) (d : Ecc) : (e.fetched s d).run = e.run := rfl

/-- Registers read the same whatever was noted of the word fetched. -/
theorem Env.reg_fetched {e : Env} {s : State} (hs : e.s = s) (d : Ecc) (r : BitVec 5) :
    (e.fetched s d).reg r = e.reg r := by
  subst hs
  unfold Env.reg Env.fetched
  simp only [State.core_readWord]

/-- A clean word leaves nothing to note but the end of its history (R373). -/
theorem Env.fetched_clean {e : Env} {s : State} {d : Ecc} (hs : e.s = s) (h : s.decoded e.ctx.pc.toNat d = .clean) :
    e.fetched s d = { e with s := s.forgetHard (memOf e.ctx.pc.toNat).1 (memOf e.ctx.pc.toNat).2 } := by
  subst hs
  unfold Env.fetched
  rw [State.readWord_clean h]

/-- Committing an instruction that worked on its context alone leaves everything else. -/
theorem Env.commit_contextOnly {s : State} {c : Nat} {e e' : Env} (h : s.env? c = some e) (n : Nat) {mm : MemState}
   (hm : { mm with history := s.memory.history } = s.memory) (hs : e'.s = { s with memory := mm }) (hc : e'.c = c)
   (hb : e'.bgd = e.bgd) (hr : e'.run = e.run) (hst : (s.core c).stepping = false) :
   s.contextOnly ((e'.commit n).afterStep c) c e.bgd := by
  obtain ⟨h1, h2, h3, h4⟩ := State.env_some h
  have hcore := Env.core_commit e' n
  have hk : ({ s with memory := mm } : State).core c = s.core c := rfl
  have hf : ({ s with memory := mm } : State).free = s.free := rfl
  rw [hc, hs, hb, hr, hk, hf] at hcore
  have hstep : ((e'.commit n).core c).stepping = false := by rw [hcore]; simp only []; split <;> exact hst
  have hab : (e'.commit n).afterStep c = e'.commit n := by unfold State.afterStep; rw [hstep]; rfl
  rw [hab]
  refine ⟨?_, ?_, ?_, ?_, ?_, ?_⟩
  · intro a ha
    unfold Env.commit
    simp only [hs, hc]
    rw [State.reg_wr_ne]; rfl
    exact ha
  · intro c' hc'
    unfold Env.commit
    simp only [hs, hc, State.core_wr]
    rw [State.core_setCore_ne _ _ hc']; rfl
  · unfold Env.commit
    simp only [hs, hc]
    exact congrArg (fun x => { s with memory := x }) hm
  · unfold State.runOf at h4 ⊢
    rw [hcore]
    split <;> rename_i hb' <;> simp [hb'] at h4 ⊢ <;> simp [h4]
  · rw [hcore]
    unfold State.runOf at h4
    have fix : ∀ o : Option Run, o = some e.run → o.map (fun _ => e.run) = o := fun o ho => by rw [ho]; rfl
    split <;> rename_i hb' <;> simp only [hb', if_true, Bool.false_eq_true, if_false] at h4 <;> simp only [fix _ h4]
  · unfold State.ctxOf
    rw [hcore]
    cases e.bgd <;> rfl

end Sys2Proof.Machine
end

