-- ==== Sys2Proof/Laws/Memory.lean ====
section
/-!
SUPPORT. Laws/Memory.lean: every operation that writes memory or the register file keeps its canonical form, and reset's
memory has it.
-/

namespace Sys2Proof.Machine

/-- Leaving entries out keeps the canonical form. -/
theorem SMap.wf_filter {α : Type} {d : Nat → α} {m : List (Nat × α)} (p : Nat × α → Bool) (h : SMap.Wf d m) :
    SMap.Wf d (m.filter p) :=
  ⟨h.1.sublist List.filter_sublist, fun q hq => h.2 q (List.mem_filter.1 hq).1⟩

/-- Cells laid over a memory keep its canonical form, whatever the order of the cells. -/
theorem overlay_wf (cells : List Host.Cell) :
    ∀ m, Memory.wf m → Memory.wf (overlay (fun _ => 0) m cells) := by
  induction cells with
  | nil => exact fun _ h => h
  | cons x t ih => exact fun m h => ih _ (SMap.wf_set _ _ _ _ h)

theorem State.setByte_mem_wf {s : State} (a : Nat) (v : Byte) (h : Memory.wf s.mem) : Memory.wf (s.setByte a v).mem :=
  SMap.wf_set _ _ _ _ h

theorem State.setBytes_mem_wf (l : List Byte) : ∀ (s : State) (a : Nat), Memory.wf s.mem → Memory.wf (s.setBytes a l).mem := by
  induction l with
  | nil => exact fun _ _ h => h
  | cons b t ih => exact fun s a h => ih _ _ (State.setByte_mem_wf a b h)

theorem State.clearBytes_mem_wf {s : State} (lo hi : Nat) (h : Memory.wf s.mem) : Memory.wf (s.clearBytes lo hi).mem :=
  SMap.wf_filter _ h

theorem State.putRetain_mem_wf {s : State} (content : List Host.Cell) (h : Memory.wf s.mem) :
    Memory.wf (s.putRetain content).mem :=
  overlay_wf _ _ (SMap.wf_filter _ h)

theorem State.forceInputs_mem_wf {s : State} (h : Memory.wf s.mem) : Memory.wf s.forceInputs.mem :=
  overlay_wf _ _ (SMap.wf_filter _ h)

theorem State.setReg_regs_wf {s : State} (a : Nat) (w : Word) (h : Regs.wf s.regs) : Regs.wf (s.setReg a w).regs :=
  SMap.wf_set _ _ _ _ h

theorem State.wr_regs_wf {s : State} (f : Fld) (n : Nat) (h : Regs.wf s.regs) : Regs.wf (s.wr f n).regs :=
  State.setReg_regs_wf _ _ h

theorem State.resetRegs_regs_wf {s : State} (pages : List Nat) (h : Regs.wf s.regs) : Regs.wf (s.resetRegs pages).regs :=
  SMap.wf_filter _ h

theorem State.reset_mem_wf : Memory.wf State.reset.mem := SMap.wf_nil _

end Sys2Proof.Machine
end

