-- ==== Sys2Proof/Machine/Fetch.lean ====
section
/-!
DEFINITION. Machine/Fetch.lean: the command that a Melax word spells (05 R182, R184, R189 to R194), and the one that the word at a
core's program counter spells. The commands of the Melax rows carry their operands, and no command's meaning decodes the word (log
entry 32); these definitions say which command a word stands for.
-/

namespace Sys2Proof.Machine

/-- The fields of a word by its format (R182). -/
def fldRd (w : Word) : BitVec 5 := w.extractLsb' 20 5
def fldRa (w : Word) : BitVec 5 := w.extractLsb' 15 5
def fldRb (w : Word) : BitVec 5 := w.extractLsb' 10 5
def fldImm (w : Word) : BitVec 15 := w.extractLsb' 0 15
def fldDisp (w : Word) : BitVec 21 := w.extractLsb' 0 21
def fldCond (w : Word) : BitVec 4 := w.extractLsb' 21 4
def fldMask (w1 : Word) : BitVec 16 := w1.extractLsb' 16 16

/-- The bit that a format B word names (R182, R185). -/
def fldBit (w : Word) : BitOp :=
  match (w.extractLsb' 23 2).toNat with
  | 0 => .i (w.extractLsb' 0 23)
  | 1 => .q (w.extractLsb' 0 23)
  | 2 => .m (w.extractLsb' 0 23)
  | _ => .rel (w.extractLsb' 18 5) (w.extractLsb' 0 18)

/-- LAOP by FN (R189). -/
def laopInstr (x : At) (w : Word) : Option Instr :=
  match w.toNat % 1024 with
  | 0x000 => some (.not x)
  | 0x001 => some (.set1 x)
  | 0x002 => some (.clr x)
  | 0x003 => some (.push x)
  | 0x004 => some (.pop x)
  | 0x005 => some (.popand x)
  | 0x006 => some (.popor x)
  | 0x007 => some (.popxor x)
  | 0x008 => some (.getla x (fldRd w))
  | 0x009 => some (.putla x (fldRa w))
  | 0x00A => some (.tstb x (fldRa w) (fldRb w))
  | 0x00B => some (.putb x (fldRd w) (fldRa w) (fldRb w))
  | 0x00C => some (.condla x (w.extractLsb' 10 4))
  | _ => none

/-- ALU by FN (R190). -/
def aluInstr (x : At) (w : Word) : Option Instr :=
  let d := fldRd w
  let a := fldRa w
  let b := fldRb w
  match w.toNat % 1024 with
  | 0x000 => some (.add x d a b)
  | 0x001 => some (.adds x d a b)
  | 0x002 => some (.sub x d a b)
  | 0x003 => some (.subs x d a b)
  | 0x004 => some (.cmp x a b)
  | 0x005 => some (.mul x d a b)
  | 0x006 => some (.muls x d a b)
  | 0x007 => some (.mulh x d a b)
  | 0x008 => some (.mulhu x d a b)
  | 0x009 => some (.div x d a b)
  | 0x00A => some (.divu x d a b)
  | 0x00B => some (.rem x d a b)
  | 0x00C => some (.remu x d a b)
  | 0x010 => some (.aluAnd x d a b)
  | 0x011 => some (.aluOr x d a b)
  | 0x012 => some (.aluXor x d a b)
  | 0x013 => some (.aluAndn x d a b)
  | 0x018 => some (.shl x d a b)
  | 0x019 => some (.shr x d a b)
  | 0x01A => some (.sar x d a b)
  | 0x01B => some (.rol x d a b)
  | 0x020 => some (.min x d a b)
  | 0x021 => some (.max x d a b)
  | 0x022 => some (.minu x d a b)
  | 0x023 => some (.maxu x d a b)
  | 0x024 => some (.neg x d a)
  | 0x025 => some (.abs x d a)
  | 0x028 => some (.sel x d a b)
  | _ => none

/-- FPU by FN (R194). -/
def fpuInstr (x : At) (w : Word) : Option Instr :=
  let d := fldRd w
  let a := fldRa w
  let b := fldRb w
  match w.toNat % 1024 with
  | 0x000 => some (.fadd x d a b)
  | 0x001 => some (.fsub x d a b)
  | 0x002 => some (.fmul x d a b)
  | 0x003 => some (.fdiv x d a b)
  | 0x004 => some (.fmin x d a b)
  | 0x005 => some (.fmax x d a b)
  | 0x006 => some (.fcmp x a b)
  | 0x007 => some (.fabs x d a)
  | 0x008 => some (.fneg x d a)
  | 0x009 => some (.fsqrt x d a)
  | 0x00A => some (.itof x d a)
  | 0x00B => some (.ftoi x d a)
  | 0x00C => some (.ftoir x d a)
  | _ => none

/-- A format B instruction by its opcode (R184); `d` is what the decoder finds in the word of memory it reads. -/
def bitInstrOf (x : At) (op : Nat) (b : BitOp) (d : Ecc) : Option Instr :=
  match op with
  | 0x10 => some (.ld x b d)
  | 0x11 => some (.ldn x b d)
  | 0x12 => some (.and x b d)
  | 0x13 => some (.andn x b d)
  | 0x14 => some (.or x b d)
  | 0x15 => some (.orn x b d)
  | 0x16 => some (.xor x b d)
  | 0x17 => some (.xorn x b d)
  | 0x18 => some (.st x b d)
  | 0x19 => some (.stn x b d)
  | 0x1A => some (.set x b d)
  | 0x1B => some (.rst x b d)
  | 0x1C => some (.re x b d)
  | 0x1D => some (.fe x b d)
  | 0x1E => some (.pushld x b d)
  | 0x1F => some (.pushldn x b d)
  | _ => none

/-- Immediates, loads and stores by opcode (R184). -/
def immInstrOf (x : At) (op : Nat) (w : Word) (d : Ecc) : Option Instr :=
  let r := fldRd w
  let a := fldRa w
  let i := fldImm w
  match op with
  | 0x21 => some (.addi x r a i)
  | 0x22 => some (.andi x r a i)
  | 0x23 => some (.ori x r a i)
  | 0x24 => some (.xori x r a i)
  | 0x25 => some (.cmpi x a i)
  | 0x26 => some (.shi x r a (w.extractLsb' 12 2) (w.extractLsb' 0 5))
  | 0x27 => some (.lui x r (w.extractLsb' 0 20))
  | 0x28 => some (.ldw x r a i d)
  | 0x29 => some (.stw x r a i d)
  | 0x2A => some (.ldh x r a i d)
  | 0x2B => some (.ldhu x r a i d)
  | 0x2C => some (.ldb x r a i d)
  | 0x2D => some (.ldbu x r a i d)
  | 0x2E => some (.sth x r a i d)
  | 0x2F => some (.stb x r a i d)
  | _ => none

/-- Control flow, timers and counters by opcode (R184). -/
def flowInstrOf (x : At) (op : Nat) (w w1 : Word) (d : Ecc) : Option Instr :=
  match op with
  | 0x40 => some (.b x (fldCond w) (fldDisp w))
  | 0x41 => some (.bla x (fldDisp w))
  | 0x42 => some (.bnla x (fldDisp w))
  | 0x43 => some (.jr x (fldRa w))
  | 0x44 => some (.call x (w.extractLsb' 0 22) (fldMask w1))
  | 0x45 => some (.callr x (fldRd w) (fldMask w1))
  | 0x46 => some (.ret x d)
  | 0x50 => some (.ton x (fldRa w) (fldImm w) d)
  | 0x51 => some (.tof x (fldRa w) (fldImm w) d)
  | 0x52 => some (.tp x (fldRa w) (fldImm w) d)
  | 0x54 => some (.ctr x (fldRd w) (fldRa w) (fldImm w) d)
  | _ => none

/-- The command that a legal word spells by its opcode, with the word after it (R184). -/
def legalInstr (x : At) (w w1 : Word) (d : Ecc) : Option Instr :=
  let op := w.toNat / 2 ^ 25
  if op = 0x01 then some (.nop x)
  else if op = 0x02 then laopInstr x w
  else if op = 0x03 then some (.brk x)
  else if op = 0x20 then aluInstr x w
  else if op = 0x30 then fpuInstr x w
  else if op < 0x20 then bitInstrOf x op (fldBit w) d
  else if op < 0x30 then immInstrOf x op w d
  else flowInstrOf x op w w1 d

/-- The command that a word spells, with the word after it: the instruction of a legal encoding; for any other word, which
ILLEGAL_INSTR stands for, the cause of R212. `x` and `d` are the operands that no word holds. -/
def melaxInstr (x : At) (w w1 : Word) (d : Ecc) : Except Nat Instr :=
  match decodeMelax w.toNat w1.toNat with
  | .error cause => .error cause
  | .ok _ =>
    match legalInstr x w w1 d with
    | some i => .ok i
    | none => .error 1

/-- The command that a core's context executes next: the word at its program counter, none where no context executes there. -/
def State.nextInstr (s : State) (x : At) (d : Ecc) : Option (Except Nat Instr) :=
  (s.env? x.core).map fun e =>
    let word (a : Nat) : Word := BitVec.ofNat 32 (ofBytes (s.bytes a 4))
    melaxInstr x (word e.ctx.pc.toNat) (word (e.ctx.pc.toNat + 4)) d

end Sys2Proof.Machine
end

