-- ==== Sys2Proof/Machine/Pins.lean ====
section
/-!
DEFINITION. Machine/Pins.lean: the levels that the state puts on J1's status outputs (18 R566, R574).
-/

namespace Sys2Proof.Machine

/-- Status outputs of J1, true for a high pin; of an open-drain LED pin, true while it sinks current. -/
structure Pins where
  forceLed : Bool
  pairActive : Bool
  sfailN : Bool
  irqN0 : Bool
  irqN1 : Bool
  eth1Led : Bool
  eth2Led : Bool
  bypA : Bool
  bypB : Bool
  radRts : Bool
  deriving DecidableEq, Repr

/-- The outputs hold their states at rest: until INIT ends, and from the supply-fail latch on (18 R574). -/
def State.resting (s : State) : Bool := s.mode = 1 || s.sys.latch

/-- The outputs: FORCE_LED with FORCE_STAT.ACTIVE (04 R151), PAIR_ACTIVE in the active unit of a pair (09 R353), SFAIL_n low from
the latch, HP_IRQ_n by the event ports (03 R118), the LEDs by the links, bypass low while a channel does not forward (08 R285), RTS
low while it is asserted (11 R415). -/
def State.pins (s : State) : Pins :=
  let live : Bool := !s.resting
  { forceLed := live && s.on R.FORCE_STAT_ACTIVE, pairActive := live && s.pairState = 1, sfailN := !s.sys.latch,
    irqN0 := !(live && s.irqLow 0), irqN1 := !(live && s.irqLow 1),
    eth1Led := live && s.on R.NET_STAT_ETH1, eth2Led := live && s.on R.NET_STAT_ETH2,
    bypA := live && s.chanForwards false, bypB := live && s.chanForwards true, radRts := !(live && s.on (lineBit 2)) }

end Sys2Proof.Machine
end

