-- ==== Sys2Proof/WellFormed.lean ====
section
/-!
DEFINITION. WellFormed.lean: which commands can come from outside at all: operands within the ranges the spec gives them. A
meaning does not rest on it: an operand outside its range is reduced or ignored where the meaning says so (log entry 1).
-/

namespace Sys2Proof

/-- The positions a decoding of the data code names are bits of the 276-bit stored word (10 R366), two different ones. -/
def Ecc.wellFormed : Ecc → Bool
  | .clean => true
  | .ce1 p => p < 276
  | .ce2 p q => p < q && q < 276
  | .ue x => x < 0x100000
  | .addr x => x < 0x100000
  | .fabricCe p => p < 276
  | .fabricUe _ x => 0 < x && x < 0x100000

/-- The words of loop SRAM that computations read (10 R369): a context 0 to 127, and what the decoder finds. -/
def loopWords (ws : List (Nat × Nat × Ecc)) : Bool := ws.all fun w => w.1 < 128 && w.2.2.wellFormed

/-- What the decoder finds in the word that a host access reads (10 R366). -/
def HostOp.wellFormed : HostOp → Bool
  | .write _ e | .read _ e => e.wellFormed

/-- At most four management sessions are open at once (16 R504). -/
def Req.wellFormed : Req → Bool
  | .core _ | .host | .marshal | .pairLink => true
  | .mgmt n => n < 4

/-- The header fields of a frame fit their bits and LEN is the payload's length (08 R292). -/
def FlorynFrame.wellFormed (f : FlorynFrame) : Bool :=
  f.rpt < 256 && f.sender < 256 && f.slot < 256 && f.version < 16 && f.flags < 0x10000 && f.len < 0x10000 && f.rank < 8 &&
    f.cfggen < 0x10000 && f.payload.length = f.len

/-- The place of a received copy is a static slot, the reference window or the dynamic segment (08 R292). -/
def FlorynRx.wellFormed (x : FlorynRx) : Bool := x.place < 256 && x.frame.wellFormed

def FlorynNode.wellFormed (n : FlorynNode) : Bool := n.addr < 256 && n.rpt < 256

/-- The stroke of a pair-link message is extended, and an epoch has 30 bits (04 R127, 08 R295). -/
def PairHdr.wellFormed (h : PairHdr) : Bool := h.stroke < 2 ^ 64 && h.epoch < 2 ^ 30

/-- NET_TODOFSLO, TODOFSHI, TODRATE and the state of time of day (09 R329, 11 R413). -/
def HbInfo.wellFormed (h : HbInfo) : Bool := h.peer < 8 && h.tod.length = 4

/-- INFO's fields of a queue entry fit their bits (03). -/
def EvEntry.wellFormed (e : EvEntry) : Bool := e.seq < 0x10000 && e.source < 256 && e.code < 128

/-- An admission record names tasks 0 to 63 and logical cores 0 to 3 (04, 06 R241). -/
def AdmRecord.wellFormed (a : AdmRecord) : Bool :=
  a.admitted.all (· < 64) && a.deferred.all (·.1 < 64) && a.held < 16 && a.port2.all EvEntry.wellFormed &&
    a.retired.all fun p => p.1 < 4 && p.2.1 < 64

/-- A completed set names tasks 0 to 63 (09 R329). -/
def OutDig.wellFormed (d : OutDig) : Bool := d.completed.all (·.1 < 64)

/-- An item belongs to a session context 0 to 127 or to one of two controllers (09 R361, 11 R405, R419). -/
def ItemKind.wellFormed : ItemKind → Bool
  | .net k => k < 128
  | .radio | .acq => true
  | .can c => c < 2

/-- The holder of a word of DRAM is a session context 0 to 127, among others (10 R368). -/
def DramHolder.wellFormed : DramHolder → Bool
  | .item k _ => k.wellFormed
  | .received k => k < 128
  | .radioRecord | .staged _ => true

def AckMsg.wellFormed : AckMsg → Bool
  | .started k _ => k.wellFormed
  | .hostWrite | .imageRequest => true

def RebootBy.wellFormed : RebootBy → Bool
  | .command r => r.wellFormed
  | .frame .. => true

/-- EDIT_BDESC, EDIT_BLEN and the signatures of a transaction (04 R160, R161). -/
def EditMsg.wellFormed : EditMsg → Bool
  | .transaction t => t.tmo < 0x10000 && t.baseSig.length = 32 && t.newSig.length = 32 &&
      t.blocks.all fun b => b.data.length = b.len
  | .accepted _ | .ready _ => true
  | .refused _ reason => reason < 256

def ScrubOp.wellFormed : ScrubOp → Bool
  | .word _ _ e _ h => e.wellFormed && h.all DramHolder.wellFormed
  | .wear life _ _ => life < 256
  | .flashError part => part < 16

/-- An IPv4 or IPv6 address. -/
def EthFrom.wellFormed (e : EthFrom) : Bool := e.src < 2 ^ (if e.v6 then 128 else 32)

def TcpSeg.wellFormed (g : TcpSeg) : Bool :=
  g.sport < 65536 && g.dport < 65536 && g.seq < 2 ^ 32 && g.ack < 2 ^ 32 && g.mss.all (· < 65536)

def PtpAnnounce.wellFormed (m : PtpAnnounce) : Bool :=
  m.domain < 256 && m.prio1 < 256 && m.cls < 256 && m.accuracy < 256 && m.variance < 65536 && m.prio2 < 256 &&
    m.identity < 2 ^ 64 && m.steps < 65536

/-- 11 or 29 identifier bits, and a length that a frame of its kind can have (11 R419, ISO 11898-1). -/
def CanFrame.wellFormed (f : CanFrame) : Bool :=
  f.id < (if f.ide then 2 ^ 29 else 2 ^ 11) && (f.fdf || (!f.brs && !f.esi)) &&
    (if f.fdf then !f.rtr && [0, 1, 2, 3, 4, 5, 6, 7, 8, 12, 16, 20, 24, 32, 48, 64].contains f.data.length
     else f.data.length ≤ 8 && (!f.rtr || f.data.isEmpty))

/-- The operands of a command are within their ranges. -/
def Instr.wellFormed : Instr → Bool
  | .strokeStart | .slotStart .. | .latchInstant .. | .loopCompletion | .executionStart ..
    | .outputCutoff .. | .dynamicSegment | .masterChange | .handover | .syncFailed | .holdoverTimeout | .linkChange ..
    | .acqTimeout .. | .loadValueTimeout .. | .messageResend .. | .laneFail .. | .laneRestored .. | .resyncStart
    | .mirrorLag .. | .intentLapse | .umpireLost | .persistDone .. | .powerOn .. | .strapInstant .. | .refclkReady
    | .pllLock .. | .pllLockTimeout | .hpErrRelease | .boot2Verified .. | .regionsLoaded .. | .recallDone .. | .retainCheck ..
    | .selfTestComplete .. | .programLoaded .. | .initEnd | .pathRetry .. | .floorChange .. | .supplyFail ..
    | .supplyReturn .. | .rstN | .vinLow .. | .voutaLow .. | .voutbLow .. | .huready | .holdupMeasure .. | .storeDone ..
    | .mainScrubLate .. | .correctedWriteBack .. | .accessTimeout .. | .eligible ..
    | .neverIdle | .arp .. | .txtmoExpiry .. | .retransmissionTimeout .. | .noRoute .. | .keepalive .. | .addressAgeing ..
    | .announced | .ethLinkChange .. | .todHoldover | .dcdChange .. | .cts | .ctsTimeout | .keyup | .itemCompleted | .tail
    | .noAck .. | .radioExpired .. | .rxCharacter .. | .rxRecord | .ackDelimiter .. | .attemptError .. | .recovered ..
    | .canExpired .. | .diChange .. | .inputFilter .. | .wireBreak .. | .wireOk .. | .overload .. | .outputRestart ..
    | .retryReset .. | .overtemp .. | .openWire .. | .openWireCleared .. | .legTest .. | .legSpared .. | .groupSupply ..
    | .surge .. | .safeEntered | .initialClear | .refresh | .railsup | .railFault .. | .panelFrame | .railsDown
    | .refreshLate .. | .readyChange .. | .refLost | .fmcDone .. | .fmcTimeout | .expiry | .monitorReset | .secondIncrement
    | .oscStop | .echo .. | .enterRecovery .. | .logClear .. | .sensorSnapshot .. | .spareReport .. | .closeSessions ..
    | .deadline .. | .managementMessage .. | .marshalRestart | .telemetrySweep .. | .sweepLate .. | .coreFailed ..
    | .spareSelfTest .. | .recordFlush .. | .tokenGain .. | .staged .. | .updTimeout .. | .status .. | .datagramSent ..
    | .firstNodeClock .. | .restartTemperature ..
      => true
  | .fbcApply r | .fbcRevert r | .acqSubmit r | .resync r | .spareLane r _ | .abortResync r | .stop r | .startWarm r
    | .startCold r | .reset r | .persist r | .coldConsent r | .hold r | .release r | .swap r | .p0 r | .p1 r | .p2 r | .park r
    | .store r | .editOpen r | .block r | .editWdata r _ | .commit r | .editAbort r | .apply r | .clearAll r | .revert r
    | .execStopreq r _ | .execStrokelo r | .execScanlo r | .pwrEmodlo r | .halt r _ | .resume r _ | .step r _ | .runtask r _ _
    | .evtPnhead r _ | .evtRaise r _ _ | .pgEvforce r _ _ | .lock r _ _ | .unlock r _ _ | .blockReset r _
    | .blockDisable r _ _ | .registerWrite r _ _ _ | .loopTdata r _ | .netSubmit r | .sessOpen r _ | .sessClose r _
    | .sessAbort r _ | .netRxinfo r | .netRxdata r | .netTodofslo r | .radioSubmit r | .radioAck r | .radioCancel r
    | .radioRxinfo r | .radioRxdata r | .canSubmit r _ | .canCancel r _ | .recover r _ | .canxRxhead r _ | .canxRxdata r _
    | .spareLeg r _ | .clear r | .full r | .partialUpdate r | .panelWdata r _ | .panelMwdata r _ | .clkSel r _
    | .clkoutSet r _ _ _ | .fmcStart r | .fmcAbort r | .service r _ | .checkin r _ | .rtcCommit r | .arm r | .disarm r
    | .rtcSec r | .rtcYearHi r | .shadowRelease r | .trimSet r _ | .mbxSubmit r | .mbxCancel r | .mbxNonce0 r | .nonceExpiry r
    | .substCore r _ | .testSpare r | .logRdata0 r _ | .next r | .prev r | .first r | .last r | .updOpen r | .updWdata r _
    | .finish r | .updAbort r | .unstage r | .kcmdOpen r | .enroll r | .revoke r | .report r | .cert r | .secAttdata r
    | .secProfsel r _ | .reportDone r | .mbxRdata r | .fbcAcqRdata r
      => r.wellFormed
  | .nop x | .not x | .set1 x | .clr x | .push x | .pop x | .popand x | .popor x | .popxor x | .getla x _ | .putla x _
    | .tstb x _ _ | .putb x _ _ _ | .condla x _ | .brk x | .add x _ _ _ | .adds x _ _ _ | .sub x _ _ _ | .subs x _ _ _
    | .cmp x _ _ | .mul x _ _ _ | .muls x _ _ _ | .mulh x _ _ _ | .mulhu x _ _ _ | .div x _ _ _ | .divu x _ _ _ | .rem x _ _ _
    | .remu x _ _ _ | .aluAnd x _ _ _ | .aluOr x _ _ _ | .aluXor x _ _ _ | .aluAndn x _ _ _ | .shl x _ _ _ | .shr x _ _ _
    | .sar x _ _ _ | .rol x _ _ _ | .min x _ _ _ | .max x _ _ _ | .minu x _ _ _ | .maxu x _ _ _ | .neg x _ _ | .abs x _ _
    | .sel x _ _ _ | .addi x _ _ _ | .andi x _ _ _ | .ori x _ _ _ | .xori x _ _ _ | .cmpi x _ _ | .shi x _ _ _ _ | .lui x _ _
    | .fadd x _ _ _ | .fsub x _ _ _ | .fmul x _ _ _ | .fdiv x _ _ _ | .fmin x _ _ _ | .fmax x _ _ _ | .fcmp x _ _
    | .fabs x _ _ | .fneg x _ _ | .fsqrt x _ _ | .itof x _ _ | .ftoi x _ _ | .ftoir x _ _ | .b x _ _ | .bla x _ | .bnla x _
    | .jr x _ | .call x _ _ | .callr x _ _ | .illegalInstr x _
      => x.fetch.wellFormed
  | .ld x _ d | .ldn x _ d | .and x _ d | .andn x _ d | .or x _ d | .orn x _ d | .xor x _ d | .xorn x _ d | .st x _ d
    | .stn x _ d | .set x _ d | .rst x _ d | .re x _ d | .fe x _ d | .pushld x _ d | .pushldn x _ d | .ldw x _ _ _ d
    | .stw x _ _ _ d | .ldh x _ _ _ d | .ldhu x _ _ _ d | .ldb x _ _ _ d | .ldbu x _ _ _ d | .sth x _ _ _ d | .stb x _ _ _ d
    | .ret x d | .ton x _ _ d | .tof x _ _ d | .tp x _ _ d | .ctr x _ _ _ d
      => x.fetch.wellFormed && d.wellFormed
  | .reference x _ | .output x | .input x | .null x | .grant x | .probe x _ _
      => x.wellFormed
  | .sync _ domain seq _ _ | .delayResp _ domain seq _ | .followUp _ domain seq _
      => domain < 256 && seq < 65536
  | .stateCopy h _
      => h.wellFormed
  | .inputComplete ws
      => loopWords ws
  | .inputDigest h _ ws
      => h.wellFormed && loopWords ws
  | .retainWriteBurst _ words
      => (words.all fun w => w.2.2.wellFormed)
  | .hostDataWrite _ op _
      => op.wellFormed
  | .announce m | .messageAcknowledgement m
      => m.wellFormed
  | .mordant via
      => (via.all Req.wellFormed)
  | .reboot via
      => via.wellFormed
  | .data x dest
      => x.wellFormed && dest < 256
  | .probeReply x _ nodes
      => x.wellFormed && (nodes.all fun l => l.all FlorynNode.wellFormed)
  | .heartbeat h hb
      => h.wellFormed && hb.wellFormed
  | .admissionRecord h a
      => h.wellFormed && a.wellFormed
  | .registerLoadValue h lcore addr _
      => h.wellFormed && lcore < 4 && addr < 0x80000
  | .outputDigest h d
      => h.wellFormed && d.wellFormed
  | .itemMirror h m
      => h.wellFormed && m.kind.wellFormed
  | .editTransaction h m
      => h.wellFormed && m.wellFormed
  | .inputImage h img ws
      => h.wellFormed && (img.all fun c => c.1 < 0x8000) && loopWords ws
  | .swapAgreement h epoch unit
      => h.wellFormed && unit < 4 && epoch < 0x40000000
  | .scrub op
      => op.wellFormed
  | .rowReplaced bank row words
      => (words.all fun w => w.2.wellFormed) && bank < 18 && row < 512
  | .bankSpared words
      => (words.all fun w => w.2.wellFormed)
  | .marginRead _ page _ e
      => e.wellFormed && page < 0x800000
  | .tcpSegment e g
      => e.wellFormed && g.wellFormed
  | .udpDatagram e sport dport data0
      => e.wellFormed && sport < 65536 && dport < 65536 && data0.length ≤ 65507
  | .rxFrame _ f
      => f.wellFormed
  | .sessionOpen _ keyId _
      => keyId.length = 8
  | .write _ _ _ _ data0 _
      => data0.length ≤ 1024
  | .echoRequest e _ data0
      => e.wellFormed && data0.length ≤ 1472
  | .bridgedFrame _ _ _ len tags
      => len < 65536 && tags < 65536

end Sys2Proof
end

