-- ==== Sys2Proof/Tests/Slice0.lean ====
section
/-!
SUPPORT. Tests/Slice0.lean: the model's own tests: ill-formed commands, and for each statement with hypotheses a state and
operands that meet them, clause by clause.
-/

namespace Sys2Proof.Tests

set_option maxRecDepth 100000
set_option linter.unusedVariables false
set_option Elab.async false

open Sys2Proof.Machine

/-! ### Sample states -/

/-- A module that has started, in a mode. -/
def up (mode : Nat) : State :=
  { State.reset with sys := { stage := 9, hpOut := true } }.wr R.SYS_MODE_MODE mode

/-- One of a pair, with its state in the pair and the other unit's. -/
def pairUp (mode st peer : Nat) : State :=
  ((((up mode).wr R.SYS_STRAP_ROLE 1).wr R.PAIR_STAT_STATE st).wr R.PAIR_STAT_PEER peer).wr R.PAIR_STAT_LINK 1

/-! ### Ill-formed commands -/

def frame0 : FlorynFrame := ⟨0, 0, 0, 1, 0, 0, 0, 0, 0, false, 7, 0, []⟩
def seg0 : TcpSeg := ⟨1, 2, 0, 0, false, true, false, false, 0, none, []⟩
def can0 : CanFrame := ⟨false, false, false, false, false, 0x7FF, [], 0⟩
def hdr0 : PairHdr := ⟨0, 0⟩

theorem test_wellFormed : Instr.wellFormed .strokeStart = true ∧ Instr.wellFormed (.input ⟨false, false, true, 0, frame0, true⟩) = true ∧
    Instr.wellFormed (.rxFrame 0 can0) = true := by decide
theorem test_illFormed_word : Instr.wellFormed (.nop ⟨0, .ce1 276, none⟩) = false ∧ Instr.wellFormed (.nop ⟨0, .ce2 5 5, none⟩) = false ∧
    Instr.wellFormed (.nop ⟨0, .ce2 5 276, none⟩) = false ∧ Instr.wellFormed (.nop ⟨0, .ue 0x100000, none⟩) = false ∧
    Instr.wellFormed (.ret ⟨0, .clean, none⟩ (.addr 0x100000)) = false := by decide
theorem test_illFormed_requester : Instr.wellFormed (.stop (.mgmt 4)) = false ∧
    Instr.wellFormed (.mordant (some (.mgmt 4))) = false := by decide
theorem test_illFormed_frame :
    Instr.wellFormed (.input ⟨false, false, true, 256, frame0, true⟩) = false ∧
    Instr.wellFormed (.input ⟨false, false, true, 0, { frame0 with len := 1 }, true⟩) = false ∧
    Instr.wellFormed (.input ⟨false, false, true, 0, { frame0 with sender := 256 }, true⟩) = false ∧
    Instr.wellFormed (.input ⟨false, false, true, 0, { frame0 with rank := 8 }, true⟩) = false ∧
    Instr.wellFormed (.data ⟨false, false, true, 0, frame0, true⟩ 256) = false ∧
    Instr.wellFormed (.probeReply ⟨false, false, true, 0, frame0, true⟩ 0 (some [⟨false, false, 256, 0, 0⟩])) = false := by decide
theorem test_illFormed_pair :
    Instr.wellFormed (.swapAgreement ⟨2 ^ 64, 0⟩ 0 0) = false ∧ Instr.wellFormed (.swapAgreement hdr0 0 4) = false ∧
    Instr.wellFormed (.heartbeat hdr0 ⟨8, false, [], [], []⟩) = false ∧
    Instr.wellFormed (.admissionRecord hdr0 ⟨0, [64], [], 0, [], [], [], [], false⟩) = false ∧
    Instr.wellFormed (.admissionRecord hdr0 ⟨0, [], [], 0, [⟨0, 0, false, 128, 0, 0⟩], [], [], [], false⟩) = false ∧
    Instr.wellFormed (.outputDigest hdr0 ⟨[], [(64, 0, 0)], [], none, none, none, none, none⟩) = false ∧
    Instr.wellFormed (.itemMirror hdr0 ⟨.net 128, 0, .started⟩) = false ∧
    Instr.wellFormed (.messageAcknowledgement (.started (.can 2) 0)) = false ∧
    Instr.wellFormed (.editTransaction hdr0 (.refused 0 256)) = false ∧
    Instr.wellFormed (.inputImage hdr0 [(0x8000, 0)] []) = false ∧
    Instr.wellFormed (.registerLoadValue hdr0 4 0 0) = false := by decide
theorem test_illFormed_memory :
    Instr.wellFormed (.scrub (.flashError 16)) = false ∧ Instr.wellFormed (.rowReplaced 18 0 []) = false ∧
    Instr.wellFormed (.bankSpared [(0, .ce1 276)]) = false ∧ Instr.wellFormed (.marginRead 0 0x800000 false .clean) = false := by
  decide
theorem test_illFormed_lines :
    Instr.wellFormed (.tcpSegment ⟨false, false, 2 ^ 32, false⟩ seg0) = false ∧
    Instr.wellFormed (.tcpSegment ⟨false, false, 0, false⟩ { seg0 with sport := 65536 }) = false ∧
    Instr.wellFormed (.udpDatagram ⟨false, false, 0, false⟩ 65536 0 []) = false ∧
    Instr.wellFormed (.bridgedFrame false 0 0 65536 0) = false ∧
    Instr.wellFormed (.announce ⟨256, 0, 0, 0, 0, 0, 0, 0⟩) = false ∧
    Instr.wellFormed (.sync 0 256 0 false 0) = false ∧
    Instr.wellFormed (.rxFrame 0 { can0 with id := 0x800 }) = false ∧
    Instr.wellFormed (.rxFrame 0 { can0 with brs := true }) = false ∧
    Instr.wellFormed (.rxFrame 0 { can0 with rtr := true, data := [1] }) = false ∧
    Instr.wellFormed (.sessionOpen false [] []) = false := by decide
theorem test_illFormed_recovery : Instr.wellFormed (.write false 1 0 0 (List.replicate 1025 0) true) = false := by decide +kernel

theorem test_illFormed_images : Instr.wellFormed (.inputComplete [(0, 0, .ce1 276)]) = false ∧
    Instr.wellFormed (.retainWriteBurst 0 [(0, 15, .ue 0x100000)]) = false ∧
    Instr.wellFormed (.hostDataWrite 0 (.write 0 (.ce2 5 5)) 15) = false ∧
    Instr.wellFormed (.hostDataWrite 0 (.read false (.ce1 276)) 15) = false := by decide

namespace A

/-! ### The Melax cores -/

/-- The words of the worked example of 05, and the instructions it gives for them. -/
theorem test_worked_example :
    let x : At := ⟨0, .clean, none⟩
    let spells (w : Word) (i : Instr) : Prop := (melaxInstr x w 0 .clean).toOption = some i
    spells 0x20000000 (.ld x (.i 0) .clean) ∧ spells 0x26000001 (.andn x (.i 1) .clean) ∧
    spells 0x3D000020 (.pushld x (.m 32) .clean) ∧ spells 0x29000021 (.or x (.m 33) .clean) ∧
    spells 0x04000005 (.popand x) ∧ spells 0xA0020003 (.ton x 4 3 .clean) ∧
    spells 0x3080002A (.st x (.q 42) .clean) ∧ spells 0x8C000000 (.ret x .clean) := by decide +kernel

/-- A word of no code block reads as 0, which is ILLEGAL_INSTR with cause 1 (05 R178). -/
theorem test_uncovered_word : (match melaxInstr ⟨0, .clean, none⟩ 0 0 .clean with
    | .error cause => cause
    | .ok _ => 0) = 1 := by decide +kernel

def task : Run := ⟨3, 1000, [], [], false, false⟩

/-- A state in which core 0 executes a foreground task in a mode. -/
def onCore (mode : Nat) (k : Ctx) (mem : List Host.Cell) : State :=
  let s : State := { State.reset with exec := { cores := [(0, { fg := k, fgRun := some task })], seen := [8 * 0x01100000] }, mem := mem }
  (s.wr R.SYS_MODE_MODE mode).wr R.RETAIN_STAT_RECALLED 1

def envOf (s : State) : Env := (s.env? 0).getD ⟨s, 0, false, task, {}⟩

def at0 : At := ⟨0, .clean, none⟩

/-- A context with two registers, F0 and F1, as given. -/
def ctx (f0 f1 pc : Word) (la : Bool) (las : List Bool) : Ctx :=
  { f := [(0, f0), (1, f1)], pc := pc, la := la, las := las, spillp := spillBase 3 }

def plain : State := onCore 3 (ctx 0x01100000 0x08000000 0x400 true [true]) []
def zero : State := onCore 3 (ctx 0x80000000 0 0x400 false []) []
def least : State := onCore 3 (ctx 0x80000000 0xFFFFFFFF 0x400 false []) []

theorem plain_fetches : plain.fetches at0 (envOf plain) := ⟨rfl, by decide +kernel⟩
theorem zero_fetches : zero.fetches at0 (envOf zero) := ⟨rfl, by decide +kernel⟩
theorem least_fetches : least.fetches at0 (envOf least) := ⟨rfl, by decide +kernel⟩

theorem witness_WordOperations : plain.fetches at0 (envOf plain) ∧ badDest 31 = false := ⟨plain_fetches, by decide⟩
theorem witness_ImmediateOperations : plain.fetches at0 (envOf plain) ∧ badDest 0 = false := ⟨plain_fetches, by decide⟩
theorem witness_FloatOperations : plain.fetches at0 (envOf plain) ∧ badDest 16 = false := ⟨plain_fetches, by decide⟩
theorem witness_FloatResultsAreDelivered : 0x00800000 < 2 ^ 32 ∧ 0xFFFFFFFF < 2 ^ 32 := by decide

theorem witness_DeterministicArithmetic :
    (zero.fetches at0 (envOf zero) ∧ badDest 16 = false ∧ (envOf zero).reg 17 = 0) ∧
    (least.fetches at0 (envOf least) ∧ (envOf least).reg 16 = 0x80000000 ∧ (envOf least).reg 17 = 0xFFFFFFFF ∧
      0x7F800000 < ((envOf least).reg 17).toNat % 0x80000000) ∧
    (let s := onCore 3 (ctx 0x4F000000 0xCF000001 0x400 false []) []
     s.fetches at0 (envOf s) ∧ 0x4F000000 ≤ ((envOf s).reg 16).toNat ∧ ((envOf s).reg 16).toNat ≤ 0x7F800000 ∧
       0xCF000000 < ((envOf s).reg 17).toNat ∧ ((envOf s).reg 17).toNat ≤ 0xFF800000) :=
  ⟨⟨zero_fetches, by decide +kernel⟩, ⟨least_fetches, by decide +kernel⟩, ⟨rfl, by decide +kernel⟩, by decide +kernel⟩

theorem witness_LogicAccumulator :
    (let s := onCore 3 (ctx 0 0 0x400 true (List.replicate 15 true)) []
     s.fetches at0 (envOf s) ∧ (envOf s).ctx.las.length < 16) ∧
    (plain.fetches at0 (envOf plain) ∧ (envOf plain).ctx.las = true :: [] ∧ badDest 31 = false) :=
  ⟨⟨⟨rfl, by decide +kernel⟩, by decide +kernel⟩, plain_fetches, by decide +kernel⟩

theorem witness_BranchesTakeTheirTarget :
    (plain.fetches at0 (envOf plain) ∧ (envOf plain).ctx.fl.holds 0 = true ∧ (envOf plain).ctx.fl.holds 1 = false ∧
      (envOf plain).ctx.la = true ∧ (0x400 + 4 * (-256 : Int)) = 0) ∧
    (let s := onCore 3 (ctx 0x00FFFFFC 0 0 false []) []
     s.fetches at0 (envOf s) ∧ (envOf s).ctx.la = false ∧ ((envOf s).reg 16).toNat % 4 = 0 ∧
       ((envOf s).reg 16).toNat < 0x01000000 ∧ s.decoded (envOf s).ctx.pc.toNat at0.fetch = .clean ∧
       (s.core at0.core).stepping = false ∧ (BitVec.ofInt 32 (0x00FFFFFC + 4 * (1 : Int))).toNat = 0x01000000) ∧
    (let s := onCore 3 (ctx 0 0x027BFFFF 0x400 true []) []
     s.fetches at0 (envOf s) ∧ ((envOf s).reg 17).toNat % 4 ≠ 0 ∧ (envOf s).ctx.la = true ∧ s.decoded (envOf s).ctx.pc.toNat at0.fetch = .clean ∧
       (s.core at0.core).stepping = false) :=
  ⟨⟨plain_fetches, by decide +kernel⟩, ⟨⟨rfl, by decide +kernel⟩, by decide +kernel⟩, ⟨rfl, by decide +kernel⟩,
    by decide +kernel⟩

/-- A context whose window holds one frame that saved F0 and F15 and one entry of the LA stack. -/
def returning : State :=
  onCore 3 { ctx 0x00FFFFF8 0 0x400 true [] with window := [7, 0x08000010, 0x80010001, 5, 6], frames := [4] } []

theorem witness_CallsSaveAndReturnsRestore :
    (returning.fetches at0 (envOf returning) ∧ (envOf returning).ctx.pc.toNat % 8 = 0 ∧
      (envOf returning).ctx.window.length + 2 + ((List.range 16).filter fun i => (0xFFFF#16).getLsbD i).length ≤ 192 ∧
      (envOf returning).ctx.spillp ≤ spillBase (envOf returning).run.task + 0x2000 ∧
      4 * (0x3FFFFE#22).toNat % 8 = 0 ∧ 4 * (0x3FFFFE#22).toNat < 0x01000000 ∧
      ((envOf returning).reg 16).toNat % 8 = 0 ∧ ((envOf returning).reg 16).toNat < 0x01000000) ∧
    ((envOf returning).ctx.window = [7] ++ 0x08000010 :: 0x80010001 :: [5, 6] ∧ (envOf returning).ctx.frames = 4 :: [] ∧
      ([5, 6] : List Word).length = (maskRegs ((0x80010001 : Word).toNat / 65536)).length) ∧
    (plain.fetches at0 (envOf plain) ∧ (envOf plain).ctx.frames = []) :=
  ⟨⟨⟨rfl, by decide +kernel⟩, by decide +kernel⟩, by decide +kernel, plain_fetches, by decide +kernel⟩

theorem witness_BitInstructions :
    plain.fetches at0 (envOf plain) ∧ (envOf plain).bitAddr (.rel 16 7) = .ok (0x01100000, 7) ∧ plain.readable 0x01100000 ∧
      eccOk (plain.readWord 0x01100000 .clean).1 = true ∧ (envOf plain).ctx.las.length < 16 ∧ plain.writable 0x01100000 :=
  ⟨plain_fetches, rfl, by decide +kernel⟩

theorem witness_LoadsAndStores :
    let a := ((envOf plain).reg 16 + (0 : BitVec 15).signExtend 32).toNat
    plain.fetches at0 (envOf plain) ∧ eccOk (plain.readWord a .clean).1 = true ∧ plain.readable a ∧ badDest 17 = false ∧
      a % 2 = 0 ∧ a % 4 = 0 ∧ plain.writable a :=
  ⟨plain_fetches, by decide +kernel⟩

theorem witness_TimersAndCounters :
    plain.fetches at0 (envOf plain) ∧ 0x01100000 = (((envOf plain).reg 16).toNat + (0 : BitVec 15).toNat * 32) % 2 ^ 32 ∧
      0x01100000 % 32 = 0 ∧ plain.writable 0x01100000 ∧ ¬ (0x01008000 ≤ 0x01100000 ∧ 0x01100000 < 0x01010000) ∧
      eccOk (plain.readWord 0x01100000 .clean).1 = true ∧ 8 * 0x01100000 ∈ plain.exec.seen ∧
      (Timer.ofBytes ((List.range 32).map fun j => plain.sees 0 false (0x01100000 + j))).last ≤ (envOf plain).run.scan ∧
      (envOf plain).run.scan < 2 ^ 63 ∧ badDest 17 = false ∧
      Counter.ofBytes ((List.range 16).map fun j => plain.sees 0 false (0x01100000 + j)) = ⟨0, 0, false, false, false, false⟩ :=
  ⟨plain_fetches, by decide +kernel⟩

/-- A context whose F0 names an address and F1 another. -/
def addressing (mode : Nat) (f0 f1 pc : Word) (las : List Bool) (recalled : Nat) : State :=
  (onCore mode (ctx f0 f1 pc false las) []).wr R.RETAIN_STAT_RECALLED recalled

theorem witness_TaskFaults :
    (let s := addressing 3 0x01000000 0x01007FFF 0x404 (List.replicate 16 true) 1
     s.fetches at0 (envOf s) ∧ s.decoded (envOf s).ctx.pc.toNat at0.fetch = .clean ∧ (s.core at0.core).stepping = false ∧
       badDest 1 = true ∧ badDest 15 = true ∧ 16 ≤ (envOf s).ctx.las.length ∧ 0x01000000 ≤ ((envOf s).reg 16).toNat ∧
       ((envOf s).reg 17).toNat < 0x01008000 ∧ ((envOf s).reg 16).toNat % 4 = 0 ∧ (envOf s).ctx.pc.toNat % 8 ≠ 0 ∧
       s.debugMode = false) ∧
    (let s := addressing 3 0x02000000 0x027BFFFF 0x400 [] 0
     s.fetches at0 (envOf s) ∧ (envOf s).ctx.las = [] ∧ 0x02000000 ≤ ((envOf s).reg 16).toNat ∧
       ((envOf s).reg 17).toNat < 0x027C0000 ∧ ((envOf s).reg 17).toNat % 4 ≠ 0 ∧ s.recalled = false ∧ badDest 16 = false) ∧
    (let s := addressing 3 0x027C0000 0x027FFFFF 0x400 [] 1
     s.fetches at0 (envOf s) ∧ 0x027C0000 ≤ ((envOf s).reg 16).toNat ∧ ((envOf s).reg 17).toNat < 0x02800000) :=
  ⟨⟨⟨rfl, by decide +kernel⟩, by decide +kernel⟩, ⟨⟨rfl, by decide +kernel⟩, by decide +kernel⟩, ⟨rfl, by decide +kernel⟩,
    by decide +kernel⟩

theorem witness_IllegalWordsAndBreakpoints :
    (plain.fetches at0 (envOf plain) ∧ plain.decoded (envOf plain).ctx.pc.toNat at0.fetch = .clean ∧
      (plain.core at0.core).stepping = false) ∧
    (let s := addressing 2 0 0 0x400 [] 1
     s.fetches at0 (envOf s) ∧ s.debugMode = true) :=
  ⟨⟨plain_fetches, by decide +kernel⟩, ⟨rfl, by decide +kernel⟩, by decide +kernel⟩

theorem witness_ContextInstructionsFrame :
    plain.fetches at0 (envOf plain) ∧ plain.decoded (envOf plain).ctx.pc.toNat at0.fetch = .clean ∧
      (plain.core at0.core).stepping = false ∧ badDest 16 = false ∧ (envOf plain).ctx.las ≠ [] ∧
      (envOf plain).ctx.las.length < 16 :=
  ⟨plain_fetches, by decide +kernel⟩

end A

/-! ### The module's commands, power states and retain memory (02, 06, 10) -/

namespace B

def g0 : Generation := ⟨true,true,5,0,0,1,[],[],[],false⟩
def startable : State := (({ (up 2) with prog := some ⟨[], []⟩ }.wr R.SYS_FLOOR_CONTROL 1).wr R.SYS_RSTCFG_COLD_FALLBACK 1)
def swappable : State := { ((pairUp 3 1 2).wr R.PAIR_CFG_NOUMPIRE 1) with pair := { peerSince := some 0 }, exec := { strokeHi := 1 } }.wr R.PAIR_STAT_UMPIRE 1
def conflicting : State := ((up 3).setReg R.EXEC_TEN0 1).setReg R.EXEC_TCFG1 0x100

theorem witness_ModuleCommandsAreAccepted :
    (let s : State := startable
     let r : Req := Req.host
     s.accepts r R.SYS_CMD ∧ s.on R.SYS_CMDSTAT_PENDING = false ∧ s.mode = 2 ∧
     (s.paired = true → s.rd R.PAIR_STAT_PEER ≠ 1) ∧ s.startRefusal = none ∧ (s.restartKind true).isSome = true ∧
     (s.restartKind false).isSome = true ∧ s.mode ≠ 0 ∧ (s.mode = 1 ∨ s.mode = 2)) ∧
    (let s : State := swappable
     let r : Req := Req.host
     s.accepts r R.SYS_CMD ∧ s.on R.SYS_CMDSTAT_PENDING = false ∧ s.mode = 3 ∧ s.rd R.SYS_STRAP_ROLE ≠ 0 ∧ s.pairState = 1 ∧
     s.swapRefusal = 0) ∧
    (let s : State := up 5
     let r : Req := Req.host
     s.accepts r R.SYS_CMD ∧ s.on R.SYS_CMDSTAT_PENDING = false ∧ s.mode = 5) ∧
    (let s : State := pairUp 4 2 1
     let r : Req := Req.host
     s.accepts r R.SYS_CMD ∧ s.on R.SYS_CMDSTAT_PENDING = false ∧ s.mode = 4 ∧ s.rd R.SYS_STRAP_ROLE ≠ 0 ∧ s.pairState ≠ 3 ∧
     s.pair.swapAt = none ∧ s.pair.accepted = none) := by
  refine ⟨?_, ?_, ?_, ?_⟩ <;> decide +kernel

theorem witness_ModuleCommandsAreRefused :
    (let s : State := (up 3).wr R.SYS_CMDSTAT_PENDING 1
     let r : Req := Req.host
     s.accepts r R.SYS_CMD ∧ s.on R.SYS_CMDSTAT_PENDING = true) ∧
    (let s : State := pairUp 4 2 1
     let r : Req := Req.host
     s.accepts r R.SYS_CMD ∧ s.on R.SYS_CMDSTAT_PENDING = false ∧ s.mode = 4) ∧
    (let s : State := up 3
     let r : Req := Req.host
     s.accepts r R.SYS_CMD ∧ s.on R.SYS_CMDSTAT_PENDING = false ∧ s.mode = 3) ∧
    (let s : State := up 2
     let r : Req := Req.host
     s.accepts r R.SYS_CMD ∧ s.on R.SYS_CMDSTAT_PENDING = false ∧ s.mode = 2) := by
  refine ⟨?_, ?_, ?_, ?_⟩ <;> decide +kernel

theorem witness_PowerCommandsAreAccepted :
    (let s : State := (up 3).wr R.PWR_STAT_STATE 0
     let r : Req := Req.host
     s.accepts r R.PWR_CMD ∧ s.on R.PWR_STAT_PENDING = false ∧ (s.mode = 2 ∨ s.mode = 3) ∧ s.pstate ≠ 1 ∧ s.pstate ≠ 2 ∧
     (s.mode = 3 → s.p2Conflict = none) ∧ s.pstate ≠ 3 ∧ s.cfgBusy = false ∧ (s.mode = 3 → s.paired = false)) ∧
    (let s : State := (up 3).wr R.PWR_STAT_STATE 0
     let r : Req := Req.host
     s.accepts r R.PWR_CMD ∧ s.on R.PWR_STAT_PENDING = false ∧ (s.mode = 2 ∨ s.mode = 3) ∧ s.pstate = 0) ∧
    (let s : State := conflicting
     let r : Req := Req.host
     s.accepts r R.PWR_CMD ∧ s.on R.PWR_STAT_PENDING = false ∧ (s.mode = 2 ∨ s.mode = 3) ∧ s.pstate ≠ 0 ∧ s.pstate ≠ 2 ∧
     s.mode = 3 ∧ s.p2Conflict ≠ none) ∧
    (let s : State := (up 2).wr R.FBC_CFGSTAT_STATE 1
     let r : Req := Req.host
     s.accepts r R.PWR_CMD ∧ s.on R.PWR_STAT_PENDING = false ∧ (s.mode = 2 ∨ s.mode = 3) ∧ s.cfgBusy = true) := by
  refine ⟨?_, ?_, ?_, ?_⟩ <;> decide +kernel

theorem witness_RetainStoresAndRecalls :
    (let s : State := let __src := (up 3).wr R.RETAIN_STAT_RECALLED 1;
{ pending := __src.pending, regs := __src.regs, tb := __src.tb, fresh := __src.fresh, mem := __src.mem, wire := __src.wire, evt := __src.evt, recorder := __src.recorder, sys := __src.sys, exec := __src.exec, prog := __src.prog, memory := { slot1 := some g0, store := some { slot := 1, cause := 1, taken := true, atStroke := none } }, cox := __src.cox, force := __src.force, pwr := __src.pwr, edit := __src.edit, loop := __src.loop, clk := __src.clk, wdt := __src.wdt, rtc := __src.rtc, dio := __src.dio, panel := __src.panel, mbx := __src.mbx, spare := __src.spare, upd := __src.upd, sec := __src.sec, fbc := __src.fbc, pair := __src.pair, net := __src.net, radio := __src.radio, can := __src.can }
     let st : Store := { slot := 1, cause := 1, taken := true, atStroke := none }
     let g : Generation := g0
     let r : Req := Req.host
     s.accepts r R.RETAIN_CMD ∧ s.recalled = true ∧ s.on R.RETAIN_STAT_STORING = false ∧
     (s.mode = 2 ∨ s.mode = 3 ∨ s.mode = 6) ∧ s.memory.store = some st ∧ st.taken = true ∧ st.slot < 2 ∧
     s.slot st.slot = some g) ∧
    (let s : State := let __src := (up 3).wr R.RETAIN_STAT_RECALLED 1;
{ pending := __src.pending, regs := __src.regs, tb := __src.tb, fresh := __src.fresh, mem := __src.mem, wire := __src.wire, evt := __src.evt, recorder := __src.recorder, sys := __src.sys, exec := __src.exec, prog := __src.prog, memory := { slot1 := some g0, store := some { slot := 1, cause := 1, taken := true, atStroke := none } }, cox := __src.cox, force := __src.force, pwr := __src.pwr, edit := __src.edit, loop := __src.loop, clk := __src.clk, wdt := __src.wdt, rtc := __src.rtc, dio := __src.dio, panel := __src.panel, mbx := __src.mbx, spare := __src.spare, upd := __src.upd, sec := __src.sec, fbc := __src.fbc, pair := __src.pair, net := __src.net, radio := __src.radio, can := __src.can }
     let uf : ℕ := 1700
     uf < 65536 ∧ s.sys.latch = false) ∧
    (let s : State := let __src := up 3;
{ pending := __src.pending, regs := __src.regs, tb := __src.tb, fresh := __src.fresh, mem := __src.mem, wire := __src.wire, evt := __src.evt, recorder := __src.recorder, sys := { stage := 4, hpOut := true, retainDue := 2 }, exec := __src.exec, prog := __src.prog, memory := { slot0 := some g0, slot1 := some g0 }, cox := __src.cox, force := __src.force, pwr := __src.pwr, edit := __src.edit, loop := __src.loop, clk := __src.clk, wdt := __src.wdt, rtc := __src.rtc, dio := __src.dio, panel := __src.panel, mbx := __src.mbx, spare := __src.spare, upd := __src.upd, sec := __src.sec, fbc := __src.fbc, pair := __src.pair, net := __src.net, radio := __src.radio, can := __src.can }
     s.recalled = false ∧ s.sys.retainDue = 2 ∧ 4 ≤ s.sys.stage) ∧
    (let s : State := let __src := up 3;
{ pending := __src.pending, regs := __src.regs, tb := __src.tb, fresh := __src.fresh, mem := __src.mem, wire := __src.wire, evt := __src.evt, recorder := __src.recorder, sys := { stage := 4, hpOut := true, retainDue := 1 }, exec := __src.exec, prog := __src.prog, memory := { slot0 := some g0, slot1 := some g0 }, cox := __src.cox, force := __src.force, pwr := __src.pwr, edit := __src.edit, loop := __src.loop, clk := __src.clk, wdt := __src.wdt, rtc := __src.rtc, dio := __src.dio, panel := __src.panel, mbx := __src.mbx, spare := __src.spare, upd := __src.upd, sec := __src.sec, fbc := __src.fbc, pair := __src.pair, net := __src.net, radio := __src.radio, can := __src.can }
     s.recalled = false ∧ s.sys.retainDue = 1 ∧ 4 ≤ s.sys.stage ∧ s.sys.latch = false) := by
  refine ⟨?_, ?_, ?_, ?_⟩ <;> decide +kernel

end B

/-! ### Local inputs and outputs (12) -/

namespace C

def dio (s : State) (d : DioState) : State := { s with dio := d }

theorem witness_LocalInputsAndWires :
    (let s : State := (((dio (up 3) { raw := 2147483648 }).wr R.DIO_WBEN_EN 2147483649).wr R.DIO_STAT_GRPB 1).wr R.DIO_OWEN_EN 65535
     let ch : Fin 16 := 15
     let n : Fin 32 := 31
     let bit : Fld → ℕ → State → Prop := fun f m t => (t.rd f).testBit m = true
     s.pgEn 112 = true ∧ bit R.DIO_WBEN_EN (↑n) s ∧ (¬bit R.DIO_WB_PRESENT (↑n) s) ∧ bit R.DIO_OWEN_EN (↑ch) s ∧
     s.dio.out.testBit ↑ch = false ∧ s.grpSupplied ↑ch = true ∧ (¬bit R.DIO_OWFLT_OPEN (↑ch) s)) ∧
    (let s : State := (((up 3).wr R.DIO_WB_PRESENT 2147483649).wr R.DIO_OWFLT_OPEN 32896).wr R.DIO_SURGE0_COUNT 65535
     let ch : Fin 16 := 7
     let n : Fin 32 := 0
     let bit : Fld → ℕ → State → Prop := fun f m t => (t.rd f).testBit m = true
     s.pgEn 112 = true ∧ bit R.DIO_WB_PRESENT (↑n) s ∧ bit R.DIO_OWFLT_OPEN (↑ch) s) := by
  refine ⟨?_, ?_⟩ <;> decide +kernel

theorem witness_OutputChannels :
    (let s : State := (dio (up 3) { retries := [(3, 1)], imageVal := 65535, imageSeen := 65535, out := 8 }).wr R.DIO_STAT_GRPA 1
     let r : Req := Req.host
     let ch : Fin 16 := 3
     let bit : Fld → State → Prop := fun f t => (t.rd f).testBit ↑ch = true
     s.canTrip ↑ch = true ∧ 0 < s.retriesLeft ↑ch ∧ s.pgEn 112 = true ∧ s.conducts ↑ch = true ∧
     s.dio.leg1.testBit ↑ch = false ∧ (¬bit R.DIO_LEGS_SPARE s) ∧ s.dio.leg2.testBit ↑ch = false ∧ s.accepts r R.DIO_CMD) ∧
    (let s : State := ((up 3).wr R.DIO_STAT_GRPB 1).wr R.DIO_RETRY_COUNT 0
     let ch : Fin 16 := 15
     s.canTrip ↑ch = true ∧ s.retriesLeft ↑ch = 0) ∧
    (let s : State := (dio (up 3) { tripped := [{ ch := 3, ot := true, timed := true, cooled := false }, { ch := 15, ot := false, timed := false, cooled := false }], imageVal := 65535, imageSeen := 65535 }).wr R.DIO_STAT_DRIVING 1
     let ch : Fin 16 := 15
     let w : Trip := { ch := 15, ot := false, timed := false, cooled := false }
     s.pgEn 112 = true ∧ List.find? (fun t => decide (t.ch = ↑ch)) s.dio.tripped = some w ∧ s.commanded ↑ch = true ∧
     w.ot = false ∧ s.on R.DIO_STAT_DRIVING = true ∧ s.on R.DIO_STAT_SAFE = false) ∧
    (let s : State := (dio (up 3) { leg1 := 32768, sparing := 32768 }).wr R.DIO_CTL_LEGSPARE 1
     let r : Req := Req.host
     let ch : Fin 16 := 15
     let bit : Fld → State → Prop := fun f t => (t.rd f).testBit ↑ch = true
     s.pgEn 112 = true ∧ s.dio.sparing.testBit ↑ch = true ∧ s.accepts r R.DIO_CMD ∧ s.dio.leg1.testBit ↑ch = true ∧
     (¬bit R.DIO_LEGS_SPARE s) ∧ (¬bit R.DIO_LEGS_FAILED s)) ∧
    (let s : State := (dio (up 3) { tripped := [{ ch := 15, ot := false, timed := false, cooled := false }, { ch := 3, ot := true, timed := true, cooled := false }], imageVal := 65535, imageSeen := 65535 }).wr R.DIO_STAT_DRIVING 1
     let ch : Fin 16 := 3
     let w : Trip := { ch := 3, ot := true, timed := true, cooled := false }
     s.pgEn 112 = true ∧ List.find? (fun t => decide (t.ch = ↑ch)) s.dio.tripped = some w ∧ s.commanded ↑ch = true ∧
     w.ot = true ∧ w.timed = true) := by
  refine ⟨?_, ?_, ?_, ?_, ?_⟩ <;> decide +kernel

end C

/-! ### The status panel (13) -/

namespace D

def pan (s : State) (d : PanelState) : State := (((({ s with panel := d }).wr R.PANEL_STAT_TABLEOK 1).wr R.PANEL_STAT_BAND 3).wr R.PANEL_GEOM_WIDTH 16).wr R.PANEL_GEOM_HEIGHT 16
def panW (s : State) : State := (s.wr R.PANEL_RECT1_W 8).wr R.PANEL_RECT1_H 8
def panC (s : State) : State := (s.wr R.PANEL_STAT_CLEARED 1).wr R.PANEL_STAT_DIRTY 0
def panM (s : State) : State := s.wr R.PANEL_MCTL_EN 1

theorem witness_PanelUpdatesStart :
    (let s : State := panW (panC (pan (up 3) { }))
     let r : Req := Req.host
     s.accepts r R.PANEL_CMD ∧ s.panelReady = true ∧ s.mode ≠ 0 ∧ s.mode ≠ 7 ∧ s.panel.main = none ∧ s.panel.request = none ∧
     s.on R.PANEL_STAT_CLEARED = true ∧ s.panelKnown = true ∧ s.rectOk = true) ∧
    (let s : State := panW (panC (pan (up 3) { }))
     s.rd R.PANEL_CFG_REFRESH ≠ 0 ∧ s.panel.refreshDue = false ∧ s.panel.main = none ∧ s.panel.mord = none ∧
     s.panel.request = none ∧ s.panelReady = true ∧ s.panelKnown = true ∧ s.mode ≠ 0 ∧ s.mode ≠ 7) ∧
    (let s : State := panW (panC (pan (up 3) { }))
     let r : Req := Req.host
     let m : ℕ := s.rd (s.bf r R.PANEL_MWADDR_WORD)
     s.accepts r R.PANEL_WDATA ∧ s.answers r R.PANEL_WDATA ∧ s.accepts r R.PANEL_MWDATA ∧ m < 672 ∧ s.answers r R.PANEL_MWDATA) ∧
    (let s : State := (panC (pan (up 3) { main := some { kind := 1, band := 3, frame := 0, pixels := [], marker := false }, request := some 2 })).wr R.PANEL_CFG_REFRESH 1
     let r : Req := Req.host
     s.accepts r R.PANEL_CMD ∧ s.panelReady = true ∧ s.mode ≠ 0 ∧ s.mode ≠ 7 ∧ s.panel.request ≠ none ∧
     s.rd R.PANEL_CFG_REFRESH ≠ 0 ∧ s.panel.refreshDue = false ∧ s.panel.main ≠ none) ∧
    (let s : State := panM (panC (pan (up 3) { mordDue := true }))
     s.panel.mord = none ∧ s.panel.mordDue = true ∧ s.panelReady = true ∧ s.panelKnown = true ∧ s.on R.PANEL_MCTL_EN = true ∧
     s.mode ≠ 0 ∧ s.pgEn 113 = true) ∧
    (let s : State := panM (panC (pan (up 3) { }))
     let r : Req := Req.host
     s.accepts r R.PANEL_CMD ∧ s.panelReady = true ∧ s.mode ≠ 0 ∧ s.mode ≠ 7 ∧ s.panel.mord = none ∧
     s.panel.mordDue = false ∧ s.panelKnown = true ∧ s.on R.PANEL_MCTL_EN = true) ∧
    (let s : State := (pan (up 3) { }).wr R.PANEL_CFG_REFRESH 1
     s.panelReady = true ∧ s.on R.PANEL_STAT_CLEARED = false ∧ s.panel.main = none ∧ s.mode ≠ 0 ∧ s.mode ≠ 7 ∧ 7 ≤ s.sys.stage) ∧
    (let s : State := (panC (pan (up 3) { main := some { kind := 1, band := 3, frame := 0, pixels := [], marker := false } })).wr R.PANEL_CFG_REFRESH 1
     let r : Req := Req.host
     s.accepts r R.PANEL_CMD ∧ s.panelReady = true ∧ s.mode ≠ 0 ∧ s.mode ≠ 7 ∧ s.panel.main ≠ none ∧ s.panel.request = none) := by
  refine ⟨?_, ?_, ?_, ?_, ?_, ?_, ?_, ?_⟩ <;> decide +kernel

theorem witness_PanelFramesAndRails :
    (let s : State := pan (up 3) { main := some { kind := 1, band := 3, frame := 0, pixels := [], marker := false }, rails := Rails.falling 1 }
     let n : ℕ := 1
     s.panel.rails = Rails.falling n ∧ n ≤ 1 ∧ s.panel.main ≠ none ∧ s.panel.rails ≠ Rails.off) ∧
    (let s : State := pan (up 3) { main := some { kind := 1, band := 3, frame := 0, pixels := [], marker := false }, rails := Rails.falling 1 }
     let u : PanelUpdate := { kind := 1, band := 3, frame := 0, pixels := [], marker := false }
     s.pgEn 113 = true ∧ s.panel.main = some u ∧ s.updateFrames u ≤ u.frame ∧ s.panel.mord = none ∧ s.panel.mordDue = false ∧
     s.panel.request = none ∧ s.panel.refreshDue = false ∧ s.on R.PANEL_MCTL_EN = false) ∧
    (let s : State := pan (up 3) { rails := Rails.rising 3 }
     let n : ℕ := 3
     s.panel.rails = Rails.rising n ∧ n < 4) ∧
    (let s : State := pan (up 3) { rails := Rails.rising 4 }
     let n : ℕ := 4
     s.panel.rails = Rails.rising n ∧ 4 ≤ n) ∧
    (let s : State := pan (up 3) { rails := Rails.falling 4 }
     let n : ℕ := 4
     s.panel.rails = Rails.falling n ∧ 1 < n) ∧
    (let s : State := pan (up 3) { rails := Rails.falling 1 }
     let n : ℕ := 1
     s.panel.rails = Rails.falling n ∧ n ≤ 1 ∧ s.panel.main = none ∧ s.panel.mord = none) ∧
    (let s : State := pan (up 3) { table := [2, 0, 0, 0, 1, 0, 0, 0], main := some { kind := 1, band := 0, frame := 0, pixels := [(3, 0, 1)], marker := false }, rails := Rails.up }
     let u : PanelUpdate := { kind := 1, band := 0, frame := 0, pixels := [(3, 0, 1)], marker := false }
     s.pgEn 113 = true ∧ s.panel.main = some u ∧ s.panel.rails = Rails.up ∧ u.frame < s.updateFrames u) := by
  refine ⟨?_, ?_, ?_, ?_, ?_, ?_, ?_⟩ <;> decide +kernel

end D

/-! ### Clocks, the watchdog and the calendar (14, 15) -/

namespace E

def clk (s : State) : State := ((s.wr R.CLK_STAT_LOCK 1).wr R.CLK_STAT_RUN 1).wr R.CLK_READY_READY 0x7FF
def running (s : State) : State := { s with exec := { s.exec with cores := [(0, { fgRun := some ⟨3, 1000, [(5, 0x77)], [(9, 0x12)], false, false⟩ })] } }
def stg (s : State) (n : Nat) : State := { s with sys := { s.sys with stage := n } }
def wd (m : Nat) : State := ((((up m).wr R.WDT_CTL_EN 1).wr R.WDT_PERIOD_TICKS 1000).wr R.WDT_OPEN_TICKS 100).wr R.WDT_COUNT_COUNT 500
def cal (s : State) (secs : Nat) (t d : Word) : State := { (((s.setReg R.RTC_STGTIME t).setReg R.RTC_STGDATE d).setReg R.RTC_ALMTIME t).setReg R.RTC_ALMDATE d with rtc := { secs := secs } }

theorem witness_ClocksAndMeasurements :
    (let s : State := (clk (up 2)).wr R.FMC_STAT_OUTCOME 1
     let src : Fin 12 := 3
     let inUse : ℕ := refSource (s.rd R.CLK_STAT_PLLREF)
     0 < ↑src ∧ ↑src < 5 ∧ s.on R.CLK_STAT_COAST = false ∧ inUse ≠ ↑src ∧ s.on R.CLK_STAT_LOCK = true) ∧
    (let s : State := (clk (up 2)).wr R.FMC_STAT_OUTCOME 1
     let r : Req := Req.host
     let o : BitVec 4 := 0
     let div : BitVec 12 := 4095
     let ref : BitVec 2 := 1
     s.accepts r R.CLK_SEL ∧ (s.mode = 2 ∨ s.mode = 6) ∧ ref.toNat < 3 ∧ ref.toNat ≠ s.rd R.CLK_SEL_PLLREF ∧
     s.ready (refSource ref.toNat) = true ∧ s.accepts r R.CLK_OUTCTL ∧ o.toNat < 12 ∧ s.ready o.toNat = true ∧
     s.sourceHz o.toNat ≤ 125000000 * (div.toNat + 1)) ∧
    (let s : State := (clk (up 2)).wr R.FMC_STAT_OUTCOME 1
     let r : Req := Req.host
     s.accepts r R.FMC_CMD ∧ s.fmcRuns = true) ∧
    (let s : State := stg ((up 1).wr R.CLK_READY_READY 3) 3
     s.on R.CLK_STAT_LOCK = false ∧ s.sys.latch = false ∧ s.sys.stage = 3 ∧ s.on R.SYS_RSTCFG_BUSREF = false ∧ s.mode ≠ 7 ∧
     s.on R.CLK_STAT_COAST = false ∧ s.on R.CLK_STAT_RUN = false ∧ s.ready (refSource (s.rd R.CLK_SEL_PLLREF)) = true) ∧
    (let s : State := ((clk (up 2)).wr R.CLK_STAT_LOCK 0).wr R.CLK_STAT_COAST 1
     let r : Req := Req.host
     let inUse : ℕ := refSource (s.rd R.CLK_STAT_PLLREF)
     s.on R.CLK_STAT_LOCK = false ∧ s.sys.latch = false ∧ s.on R.CLK_STAT_COAST = true ∧ s.on R.CLK_STAT_RUN = true ∧
     s.ready inUse = true ∧ s.accepts r R.FMC_CMD ∧ s.fmcRuns = false ∧ s.ready (s.rd R.FMC_CTL_MEAS) = true ∧
     s.ready (s.rd R.FMC_CTL_REF) = true) ∧
    (let s : State := stg ((up 1).wr R.CLK_READY_READY 1) 2
     s.on R.CLK_STAT_LOCK = false ∧ s.sys.latch = false ∧ s.sys.stage = 2) := by
  refine ⟨?_, ?_, ?_, ?_, ?_, ?_⟩ <;> decide +kernel

theorem witness_WatchdogServicesAndExpiries :
    (let s : State := (wd 3).wr R.WDT_CTL_CLKSEL 1
     let r : Req := Req.host
     let n : ℕ := 999
     let inWindow : ℕ → Prop := fun c => s.rd R.WDT_OPEN_TICKS ≤ c ∧ c < s.rd R.WDT_PERIOD_TICKS
     s.accepts r R.WDT_SERVICE ∧ s.wdtCounting = true ∧ inWindow (s.rd R.WDT_COUNT_COUNT) ∧ s.wdtComplete = true ∧
     s.on R.WDT_CTL_CLKSEL = true ∧ s.on R.WDT_STAT_FROZEN = false ∧ n < 4294967296 ∧ inWindow n) ∧
    (let s : State := (wd 3).wr R.WDT_CTL_CLKSEL 1
     s.wdtCounting = true ∧ s.sys.stage ≠ 0 ∧ s.on R.WDT_STAT_FROZEN = false ∧ s.rd R.WDT_STAT_STAGE = 0) ∧
    (let s : State := running ((wd 3).wr { addr := R.WDT_EXPECT1, hi := 31, lo := 31 } 1)
     let r : Req := Req.core 0
     let task : Fin 64 := 63
     let inWindow : ℕ → Prop := fun c => s.rd R.WDT_OPEN_TICKS ≤ c ∧ c < s.rd R.WDT_PERIOD_TICKS
     s.accepts r R.WDT_SERVICE ∧ s.wdtCounting = true ∧ inWindow (s.rd R.WDT_COUNT_COUNT) ∧ s.wdtComplete = false ∧
     s.accepts r R.WDT_CHECKIN ∧ isCore r = true ∧ s.wdtExpect.testBit ↑task = true ∧ s.wdtCheckins.testBit ↑task = false) ∧
    (let s : State := (wd 3).wr R.WDT_STAT_STAGE 1
     s.wdtCounting = true ∧ s.sys.stage ≠ 0 ∧ s.on R.WDT_STAT_FROZEN = false ∧ s.rd R.WDT_STAT_STAGE ≠ 0) ∧
    (let s : State := running ((wd 3).wr { addr := R.WDT_EXPECT1, hi := 31, lo := 31 } 1)
     let r : Req := Req.core 0
     let task : Fin 64 := 62
     s.accepts r R.WDT_CHECKIN ∧ isCore r = true ∧ s.wdtExpect.testBit ↑task = false) ∧
    (let s : State := (wd 3).wr R.WDT_COUNT_COUNT 50
     let r : Req := Req.host
     s.accepts r R.WDT_SERVICE ∧ s.wdtCounting = true ∧ s.rd R.WDT_COUNT_COUNT < s.rd R.WDT_OPEN_TICKS ∧
     s.rd R.WDT_STAT_STAGE = 0) := by
  refine ⟨?_, ?_, ?_, ?_, ?_, ?_⟩ <;> decide +kernel

theorem witness_CalendarCommands :
    (let s : State := (cal (up 2) 12 19 536871169).wr R.RTC_STAT_ARMED 1
     let r : Req := Req.host
     let n : ℕ := 13
     s.accepts r R.RTC_CTL ∧ checkTime (s.reg R.RTC_STGTIME) (s.reg R.RTC_STGDATE) = Except.ok n ∧
     checkTime (s.reg R.RTC_ALMTIME) (s.reg R.RTC_ALMDATE) = Except.ok n ∧ s.rtc.secs < n ∧ s.rtc.secs + 1 < calendarSpan ∧
     s.on R.RTC_STAT_ARMED = true ∧ s.alarmSecs = some (s.rtc.secs + 1) ∧ s.answers r R.RTC_SEC) ∧
    (let s : State := (cal (up 2) 12 19 536871169).wr R.RTC_STAT_ARMED 1
     let r : Req := Req.host
     let ppm10 : BitVec 16 := 0
     s.answers r R.RTC_YEAR_HI ∧ s.rtcShadow r = none ∧ s.accepts r R.RTC_TRIM ∧ -2000 ≤ ppm10.toInt ∧ ppm10.toInt ≤ 2000) ∧
    (let s : State := cal (up 2) (calendarSpan - 1) 19 536871169
     let r : Req := Req.host
     let n : ℕ := 13
     s.accepts r R.RTC_CTL ∧ checkTime (s.reg R.RTC_ALMTIME) (s.reg R.RTC_ALMDATE) = Except.ok n ∧ n ≤ s.rtc.secs ∧
     s.rtc.secs + 1 = calendarSpan) ∧
    (let s : State := let __src := up 2;
{ pending := __src.pending, regs := __src.regs, tb := __src.tb, fresh := __src.fresh, mem := __src.mem, wire := __src.wire, evt := __src.evt, recorder := __src.recorder, sys := __src.sys, exec := __src.exec, prog := __src.prog, memory := __src.memory, cox := __src.cox, force := __src.force, pwr := __src.pwr, edit := __src.edit, loop := __src.loop, clk := __src.clk, wdt := __src.wdt, rtc := { shadows := [(16, [1, 2, 3, 4, 5, 6, 7, 8])] }, dio := __src.dio, panel := __src.panel, mbx := __src.mbx, spare := __src.spare, upd := __src.upd, sec := __src.sec, fbc := __src.fbc, pair := __src.pair, net := __src.net, radio := __src.radio, can := __src.can }
     let r : Req := Req.host
     let g : List Word := [1, 2, 3, 4, 5, 6, 7, 8]
     s.answers r R.RTC_YEAR_HI ∧ s.rtcShadow r = some g) ∧
    (let s : State := cal (up 2) 10 19 536875777
     let r : Req := Req.host
     let n : ℕ := 3
     s.accepts r R.RTC_CTL ∧ checkTime (s.reg R.RTC_STGTIME) (s.reg R.RTC_STGDATE) = Except.error n ∧ n < 256) := by
  refine ⟨?_, ?_, ?_, ?_, ?_⟩ <;> decide +kernel

end E

/-! ### Power-on, resets and supplies (02, 06) -/

namespace F

def stg (s : State) (n : Nat) : State := { s with sys := { s.sys with stage := n } }
def slotA : UpdSlot := { state := 1, version := 3 }
def booted (s : State) : State := { s with upd := { regions := [(1,{a := slotA}),(2,{a := slotA}),(3,{a := slotA}),(4,{a := slotA}),(5,{a := slotA}),(8,{a := slotA})] } }
def flo (s : State) : State := ((s.wr R.SYS_FLOOR_PATHS 7).wr R.SYS_FLOOR_ELEMENTS 127).evalFloor
def init8 (s : State) : State := { s with sys := { s.sys with initStrokes := 64 } }

theorem witness_PowerOnSequence :
    (let s : State := booted (stg (up 1) 4)
     s.sys.latch = false ∧ 4 ≤ s.sys.stage ∧ s.mode = 1 ∧ s.sys.stage = 4 ∧ (s.region 1).staged = none ∧
     (s.region 1).activeB = false ∧ (s.region 1).a.state = 1 ∧ (s.region 1).floor ≤ (s.region 1).a.version) ∧
    (let s : State := State.reset
     s.sys.stage = 0) ∧
    (let s : State := stg (up 1) 1
     s.sys.latch = false ∧ s.sys.stage = 1) ∧
    (let s : State := stg (up 1) 2
     s.sys.latch = false ∧ s.sys.stage = 2) ∧
    (let s : State := stg (up 1) 3
     s.sys.latch = false ∧ s.sys.stage = 3 ∧ s.on R.CLK_STAT_LOCK = false ∧ s.on R.SYS_RSTCFG_BUSREF = false) ∧
    (let s : State := stg (((up 1).wr R.SYS_RSTCFG_BUSREF 1).wr R.CLK_READY_READY 8) 3
     s.sys.latch = false ∧ s.sys.stage = 3 ∧ s.on R.CLK_STAT_LOCK = false ∧ s.on R.SYS_RSTCFG_BUSREF = true ∧
     s.rd R.CLK_SEL_PLLREF = 0 ∧ s.ready 3 = true) ∧
    (let s : State := booted (stg (up 1) 5)
     let w : ℕ := 100
     let h : ℕ := 100
     s.sys.latch = false ∧ s.mode = 1 ∧ s.sys.stage = 5 ∧
     ([2, 3, 4, 5].all fun n => (s.region n).staged == none && !(s.region n).activeB && (s.region n).a.state == 1 && decide ((s.region n).floor ≤ (s.region n).a.version)) = true ∧
     w < 1024 ∧ h < 512) ∧
    (let s : State := booted (stg (up 1) 6)
     s.sys.latch = false ∧ s.mode = 1 ∧ s.sys.stage = 6) ∧
    (let s : State := booted (stg (up 1) 7)
     let b : Bool := true
     s.sys.latch = false ∧ s.mode = 1 ∧ s.sys.stage = 7 ∧ (b = true ∧ (s.region 8).a.state = 1)) ∧
    (let s : State := init8 (flo (booted (stg (up 1) 8)))
     s.sys.latch = false ∧ s.mode = 1 ∧ s.sys.stage = 8 ∧ s.diagMet = true ∧
     (s.sys.initStrokes = 64 ∨ s.syncState = 4 ∨ s.syncState = 5) ∧ (s.umpire = true → s.on R.CLK_STAT_LOCK = true)) := by
  refine ⟨?_, ?_, ?_, ?_, ?_, ?_, ?_, ?_, ?_, ?_⟩ <;> decide +kernel

theorem witness_FloorsFollowTheirElements :
    (let s : State := up 1
     let e : FloorElem := FloorElem.pll
     let b : Bool := true
     7 ≤ s.sys.stage ∧ e ≠ FloorElem.io ∧ e ≠ FloorElem.sram ∧ s.works e ≠ b ∧ s.mode = 1 ∧ s.diagMet = false) ∧
    (let s : State := init8 (stg ((((up 1).wr R.SYS_FLOOR_PATHS 7).wr R.SYS_FLOOR_ELEMENTS 31).wr R.SYS_FLOOR_DIAG 1) 8)
     s.mode = 1 ∧ s.sys.stage = 8 ∧ s.sys.latch = false ∧ s.umpire = false ∧ s.diagMet = true ∧ s.sys.initStrokes = 64 ∧
     s.on R.SYS_FLOOR_CONTROL = false) ∧
    (let s : State := stg (up 1) 6
     s.mode = 1 ∧ s.sys.stage = 6 ∧ s.sys.latch = false) := by
  refine ⟨?_, ?_, ?_⟩ <;> decide +kernel

theorem witness_ResetsAndSupplies :
    (let s : State := (up 0).wr R.CLK_READY_READY 2
     let r : Req := Req.host
     s.sys.latch = false ∧ s.sys.stage ≠ 0 ∧ s.mode = 0 ∧ s.accepts r R.UPD_CMD ∧ isCore r = false ∧ s.sys.resetDue = none ∧
     4 ≤ s.sys.stage ∧ s.pgEn 2 = true) ∧
    (let s : State := stg (((up 3).wr R.SYS_CMDSTAT_PENDING 1).wr R.SYS_CMDSTAT_CODE 8) 0
     s.sys.stage = 0 ∧ s.cmdPending 8 = true ∧ s.on R.FLASH_STAT_READONLY = false) ∧
    (let s : State := (up 2).wr R.SYS_STRAP_RECOV_N 1
     let r : Req := Req.host
     s.sys.latch = false ∧ s.sys.stage ≠ 0 ∧ s.accepts r R.SYS_CMD ∧ s.on R.SYS_CMDSTAT_PENDING = false ∧
     (s.mode = 2 ∨ s.mode = 7) ∧ s.sys.resetDue = none ∧ s.rd R.SYS_STRAP_RECOV_N = 1) ∧
    (let s : State := stg (up 1) 1
     s.sys.latch = false ∧ s.sys.stage ≠ 0 ∧ s.sys.stage = 1) ∧
    (let s : State := stg ((((up 3).wr R.SYS_CMDSTAT_PENDING 1).wr R.SYS_CMDSTAT_CODE 8).wr R.FLASH_STAT_READONLY 1) 0
     s.cmdPending 8 = true ∧ s.on R.FLASH_STAT_READONLY = true) ∧
    (let s : State := let __src := up 0;
{ pending := __src.pending, regs := __src.regs, tb := __src.tb, fresh := __src.fresh, mem := __src.mem, wire := __src.wire, evt := __src.evt, recorder := __src.recorder, sys := { latch := true, stage := 9 }, exec := __src.exec, prog := __src.prog, memory := __src.memory, cox := __src.cox, force := __src.force, pwr := __src.pwr, edit := __src.edit, loop := __src.loop, clk := __src.clk, wdt := __src.wdt, rtc := __src.rtc, dio := __src.dio, panel := __src.panel, mbx := __src.mbx, spare := __src.spare, upd := __src.upd, sec := __src.sec, fbc := __src.fbc, pair := __src.pair, net := __src.net, radio := __src.radio, can := __src.can }
     s.sys.latch = true) := by
  refine ⟨?_, ?_, ?_, ?_, ?_, ?_⟩ <;> decide +kernel

end F

/-! ### The Marshal, spares and the recorder (16) -/

namespace G

def mbx (s : State) (d : MbxState) : State := { s with mbx := d }
def cmdE (c : Nat) : MbxCmd := ⟨7, 0x10, c, [1,2,3]⟩
def lr (n : Nat) : LogRec := ⟨n, 0, 0, 0, 0, 5, 1, 3, 0, 0, 7, [], 0⟩
def recs (s : State) : State := { s with recorder := { staged := [lr 9], log := [lr 5, lr 7], buckets := [(5*128+1, ⟨3,0⟩)] } }

theorem witness_MailboxCommands :
    (let s : State := (((mbx (up 2) { cmds := [cmdE 1], wdata := [(16, [1, 2, 3])] }).wr ((up 2).bf Req.host R.MBX_CMDHDR_CODE) 1).wr ((up 2).bf Req.host R.MBX_CMDHDR_LEN) 3).wr ((up 2).bf Req.host R.MBX_SEL_CMDID) 7
     let r : Req := Req.host
     let c : MbxCmd := cmdE 1
     let code : ℕ := s.rd (s.bf r R.MBX_CMDHDR_CODE)
     s.accepts r R.MBX_SUBMIT ∧ hostSide r = true ∧ mbxKnown code = true ∧
     (s.mbxWritten r).length = s.rd (s.bf r R.MBX_CMDHDR_LEN) ∧
     (mbxSigned code = true → (s.mbxWritten r).length = signedLen) ∧ s.mbxMode r code = true ∧
     s.ledgerFree LedgerKind.mbx = true ∧ s.mbxPending (s.rd (s.bf r R.MBX_SEL_CMDID)) = some c) ∧
    (let s : State := (((mbx (up 2) { cmds := [cmdE 1], wdata := [(16, [1, 2, 3])] }).wr ((up 2).bf Req.host R.MBX_CMDHDR_CODE) 1).wr ((up 2).bf Req.host R.MBX_CMDHDR_LEN) 3).wr ((up 2).bf Req.host R.MBX_SEL_CMDID) 7
     let c : MbxCmd := cmdE 1
     let rest : List MbxCmd := []
     let id : Fin 65536 := 7
     s.pgEn 15 = true ∧ s.mbxPending ↑id = some c ∧ s.mbx.cmds = c :: rest ∧ c.code = 1) ∧
    (let s : State := mbx (up 2) { cmds := [cmdE 32] }
     let c : MbxCmd := cmdE 32
     let rest : List MbxCmd := []
     let r : Req := Req.host
     s.accepts r R.MBX_SUBMIT ∧ hostSide r = true ∧ s.mbxPending (s.rd (s.bf r R.MBX_SEL_CMDID)) = none ∧ s.pgEn 15 = true ∧
     s.mbx.cmds = c :: rest ∧ c.code = 32) ∧
    (let s : State := mbx (up 2) { cmds := [cmdE 33] }
     let c : MbxCmd := cmdE 33
     let rest : List MbxCmd := []
     s.pgEn 15 = true ∧ s.mbx.cmds = c :: rest ∧ c.code = 33) ∧
    (let s : State := mbx (up 2) { cmds := [cmdE 48], sessions := [{ n := 1, radio := true, seq := none }, { n := 2, radio := true, seq := none }] }
     let c : MbxCmd := cmdE 48
     let rest : List MbxCmd := []
     s.pgEn 15 = true ∧ s.mbx.cmds = c :: rest ∧ c.code = 48) ∧
    (let s : State := mbx (up 2) { cmds := [cmdE 17] }
     let c : MbxCmd := cmdE 17
     let rest : List MbxCmd := []
     s.pgEn 15 = true ∧ s.mbx.cmds = c :: rest ∧ c.code = 17) ∧
    (let s : State := mbx (up 2) { cmds := [cmdE 16] }
     let c : MbxCmd := cmdE 16
     let rest : List MbxCmd := []
     s.pgEn 15 = true ∧ s.mbx.cmds = c :: rest ∧ c.code = 16 ∧ s.sys.latch = false ∧ s.sys.stage ≠ 0) ∧
    (let s : State := mbx (up 2) { results := [{ id := 0, outcome := 1, late := false, reason := 0, resp := [1, 2, 3, 4, 5], rlen := 5 }] }
     let r : Req := Req.host
     let x : MbxResult := { id := 0, outcome := 1, late := false, reason := 0, resp := [1, 2, 3, 4, 5], rlen := 5 }
     s.answers r R.MBX_RDATA ∧ s.mbxResult (s.rd (s.bf r R.MBX_SEL_CMDID)) = x ∧ 4 ≤ x.resp.length) := by
  refine ⟨?_, ?_, ?_, ?_, ?_, ?_, ?_, ?_⟩ <;> decide +kernel

theorem witness_NoncesSessionsAndTelemetry :
    (let s : State := mbx (up 3) { nonces := [16, 32], sessions := [{ n := 0, radio := true, seq := none }, { n := 1, radio := true, seq := none }] }
     let x : MgmtSession := { n := 1, radio := true, seq := none }
     let n : Fin 4 := 1
     let seq : BitVec 32 := 5
     let slot : ℕ := 2
     let r : Req := Req.host
     s.answers r R.MBX_NONCE0 ∧
     List.find? (fun m => s.mbx.sessions.all fun y => decide (y.n ≠ m)) (List.range 4) = some slot ∧
     List.find? (fun y => decide (y.n = ↑n)) s.mbx.sessions = some x ∧
     (x.seq = none ∨ x.seq = some ((seq.toNat + 4294967295) % 4294967296)) ∧ s.pgEn 15 = true ∧ s.sys.latch = false) ∧
    (let s : State := mbx (up 3) { nonces := [16, 32], sessions := [{ n := 0, radio := true, seq := none }, { n := 1, radio := true, seq := some 5 }] }
     let x : MgmtSession := { n := 1, radio := true, seq := some 5 }
     let n : Fin 4 := 1
     let seq : BitVec 32 := 5
     List.find? (fun y => decide (y.n = ↑n)) s.mbx.sessions = some x ∧ x.seq ≠ none ∧
     x.seq ≠ some ((seq.toNat + 4294967295) % 4294967296)) := by
  refine ⟨?_, ?_⟩ <;> decide +kernel

theorem witness_SparesAndRecords :
    (let s : State := recs (up 2)
     let r : Req := Req.host
     let c : Fin 5 := 4
     (s.core ↑c).failed = false ∧ s.spareCore = some ↑c ∧ s.accepts r R.SPARE_CMD ∧ isCore r = false ∧
     (s.mode = 2 ∨ s.mode = 4) ∧ s.spare.subst = none ∧ s.spare.testing = false) ∧
    (let s : State := recs (up 2)
     let r : Req := Req.host
     let n : ℕ := 5
     let recnos : List ℕ := List.map (fun y => y.recno) s.records
     let sel : ℕ := s.rd (s.bf r R.LOG_RSEL_RECNO)
     let src : Fin 256 := 5
     let code : Fin 128 := 1
     let tokens : State → ℕ := fun t => (SMap.get (fun x => fullBucket) t.recorder.buckets (↑src * 128 + ↑code)).tokens
     s.on R.FLASH_STAT_READONLY = false ∧ s.pgEn 12 = true ∧
     (∀ y ∈ s.recorder.staged, DramHolder.staged y.recno ∉ s.memory.dramBad) ∧
     s.recorder.log.length + s.recorder.staged.length ≤ logRoom ∧ tokens s < 8 ∧ s.accepts r R.LOG_RCMD ∧
     List.find? (fun m => decide (sel < m)) recnos = some n ∧ n < 4294967296 ∧ recnos.head? = some n) ∧
    (let s : State := up 3
     let src : Fin 256 := 5
     let code : Fin 128 := 1
     let tokens : State → ℕ := fun t => (SMap.get (fun x => fullBucket) t.recorder.buckets (↑src * 128 + ↑code)).tokens
     let r : Req := Req.host
     let recnos : List ℕ := List.map (fun y => y.recno) s.records
     let c : Fin 5 := 4
     s.spareCore = some ↑c ∧ s.accepts r R.SPARE_CMD ∧ isCore r = false ∧ s.mode = 3 ∧ 8 ≤ tokens s ∧
     s.accepts r R.LOG_RCMD ∧ recnos = []) ∧
    (let s : State := (recs (up 2)).wr ((up 2).bf Req.host R.LOG_RSEL_RECNO) 9
     let r : Req := Req.host
     let n : ℕ := 7
     let recnos : List ℕ := List.map (fun y => y.recno) s.records
     let sel : ℕ := s.rd (s.bf r R.LOG_RSEL_RECNO)
     let x : LogRec := lr 9
     s.answers r R.LOG_RDATA0 ∧ s.logFind r = some (x, true) ∧ s.accepts r R.LOG_RCMD ∧
     List.find? (fun m => decide (m < sel)) recnos.reverse = some n ∧ n < 4294967296) ∧
    (let s : State := recs (up 2)
     let r : Req := Req.host
     let n : ℕ := 9
     let recnos : List ℕ := List.map (fun y => y.recno) s.records
     s.accepts r R.LOG_RCMD ∧ recnos.getLast? = some n ∧ n < 4294967296) := by
  refine ⟨?_, ?_, ?_, ?_, ?_⟩ <;> decide +kernel

end G

/-! ### Updates, keys and attestation (17) -/

namespace H

def updS (s : State) (n : Nat) (g : UpdRegion) : State := ({ s with upd := { regions := [(n, g)] } }).wr (s.bf .host R.UPD_SEL_REGION) n
def secS (s : State) (d : SecState) : State := { s with sec := d }
def slotA : UpdSlot := { state := 1, version := 3 }
def booted (s : State) (n : Nat) : State := { s with upd := { regions := [(1,{a := slotA}),(2,{a := slotA}),(3,{a := slotA}),(4,{a := slotA}),(5,{a := slotA}),(8,{a := slotA})] }, sys := { s.sys with stage := n } }

theorem witness_UpdatesOfARegion :
    (let s : State := updS (up 2) 3 { a := { state := 2 }, state := 2, image := List.replicate 3584 0, owner := 16 }
     let r : Req := Req.host
     let b : Bool := false
     let n : ℕ := s.updSel r
     let g : UpdRegion := s.region n
     let mine : Prop := (g.state = 1 ∨ g.state = 2) ∧ g.owner = s.bank r
     s.accepts r R.UPD_CMD ∧ isCore r = false ∧ mine ∧ (n = 8 → s.mode = 2) ∧
     g.image.length = headerLen + hdrField g.image 16 4 ∧ g.state = 2 ∧ g.staged = some b ∧ s.accepts r R.UPD_WDATA ∧
     (g.state = 2 ∨ g.image.length + 4 < headerLen)) ∧
    (let s : State := updS (up 2) 3 { a := { state := 2 }, state := 2, image := List.replicate 3584 0, owner := 16 }
     let m : Fin 16 := 3
     ((s.region ↑m).state = 1 ∨ (s.region ↑m).state = 2)) ∧
    (let s : State := updS (up 2) 3 { a := { version := 3 }, activeB := true }
     let r : Req := Req.host
     let n : ℕ := s.updSel r
     let g : UpdRegion := s.region n
     s.accepts r R.UPD_CMD ∧ isCore r = false ∧ (s.mode = 2 ∨ s.mode = 3 ∨ s.mode = 4) ∧ (n = 8 → s.mode = 2) ∧
     g.isOpen = false ∧ g.staged = none) ∧
    (let s : State := updS (up 2) 3 { a := { state := 2 }, state := 1, image := List.replicate 3580 0, owner := 16 }
     let r : Req := Req.host
     let v : BitVec 32 := 4293844428
     let n : ℕ := s.updSel r
     let g : UpdRegion := s.region n
     let mine : Prop := (g.state = 1 ∨ g.state = 2) ∧ g.owner = s.bank r
     s.accepts r R.UPD_CMD ∧ isCore r = false ∧ mine ∧ (n = 8 → s.mode = 2) ∧
     g.image.length ≠ headerLen + hdrField g.image 16 4 ∧ s.accepts r R.UPD_WDATA ∧ g.state = 1 ∧
     g.image.length + 4 = headerLen ∧ s.headerCheck n (g.image ++ toBytes 4 v.toNat) ≠ 0) ∧
    (let s : State := updS (up 0) 3 { a := { state := 2 }, state := 1, image := [1, 2], owner := 81 }
     let radio : Bool := true
     let k : Fin 256 := 3
     let data : List Byte := [1, 2, 3, 4, 5]
     s.mode = 0 ∧ s.sys.latch = false ∧ (s.region ↑k).state = 1 ∧ (s.region ↑k).owner = pathBank radio ∧ data ≠ [] ∧
     (s.region ↑k).image.length + data.length < headerLen) ∧
    (let s : State := updS (up 2) 3 { a := { state := 2 }, state := 3, image := List.replicate 30 0, owner := 16 }
     let m : Fin 16 := 3
     (s.region ↑m).state = 3 ∧ ↑m ≠ 8 ∧ s.on R.FLASH_STAT_READONLY = false) ∧
    (let s : State := (updS (up 2) 3 { a := { state := 2 }, state := 3, image := List.replicate 30 0, owner := 16 }).wr R.FLASH_STAT_READONLY 1
     let m : Fin 16 := 3
     (s.region ↑m).state = 3 ∧ ↑m ≠ 8 ∧ s.on R.FLASH_STAT_READONLY = true) ∧
    (let s : State := booted (up 1) 4
     let serves : ℕ → Bool := fun i => (s.region i).staged == none && !(s.region i).activeB && (s.region i).a.state == 1 && decide ((s.region i).floor ≤ (s.region i).a.version)
     s.mode = 1 ∧ s.sys.latch = false ∧ s.sys.stage = 4 ∧ serves 1 = true) ∧
    (let s : State := booted (up 1) 5
     let serves : ℕ → Bool := fun i => (s.region i).staged == none && !(s.region i).activeB && (s.region i).a.state == 1 && decide ((s.region i).floor ≤ (s.region i).a.version)
     s.mode = 1 ∧ s.sys.latch = false ∧ s.sys.stage = 5 ∧ [2, 3, 4, 5].all serves = true) := by
  refine ⟨?_, ?_, ?_, ?_, ?_, ?_, ?_, ?_, ?_⟩ <;> decide +kernel

theorem witness_KeysAndAttestation :
    (let s : State := secS (up 2) { kdata := List.replicate 1960 3 }
     let r : Req := Req.host
     let d : List Byte := s.sec.kdata
     s.accepts r R.SEC_KCMD ∧ hostSide r = true ∧ s.mode = 2 ∧ r = Req.host ∧ s.hasAdmin = false ∧ d.length = 1960 ∧
     s.accepts r R.SEC_ATTCMD ∧ isCore r = false ∧ s.attest r = none) ∧
    (let s : State := secS (up 3) { kdata := List.replicate 1960 3, attest := [(16, { kind := 1, ready := false, data := [1, 2, 3, 4] })] }
     let r : Req := Req.host
     let x : Attest := { kind := 1, ready := false, data := [1, 2, 3, 4] }
     s.accepts r R.SEC_KCMD ∧ hostSide r = true ∧ s.mode = 3 ∧ s.accepts r R.SEC_ATTCMD ∧ isCore r = false ∧
     s.attest r = some x ∧ x.ready = false) ∧
    (let s : State := secS (up 2) { kdata := List.replicate 3324 3, attest := [(16, { kind := 1, ready := true, data := [1, 2, 3, 4, 5, 6, 7, 8, 9] })] }
     let r : Req := Req.host
     let x : Attest := { kind := 1, ready := true, data := [1, 2, 3, 4, 5, 6, 7, 8, 9] }
     let d : List Byte := s.sec.kdata
     s.accepts r R.SEC_KCMD ∧ hostSide r = true ∧ s.mode = 2 ∧ d.length = 3324 ∧ s.answers r R.SEC_ATTDATA ∧
     s.attest r = some x ∧ x.ready = true ∧ 4 ≤ x.data.length) := by
  refine ⟨?_, ?_, ?_⟩ <;> decide +kernel

theorem witness_KeysAndAttestation_secProfsel :
    ((up 2).accepts .host R.SEC_PROFSEL ∧ isCore .host = false ∧ (up 2).mode = 2 ∧ 0 < (1 : BitVec 8).toNat ∧
      (regionCodes.all fun i => decide ((((up 2).region i).slot ((up 2).region i).activeB).pmin ≤ (1 : BitVec 8).toNat) &&
        decide ((1 : BitVec 8).toNat ≤ (((up 2).region i).slot ((up 2).region i).activeB).pmax)) = true) ∧
    (1 : BitVec 8).toNat ≤ maxProfile :=
  ⟨by decide +kernel, by unfold maxProfile; exact Nat.le_min.2 ⟨Nat.le_add_right 1 _, by decide⟩⟩

end H

/-! ### Radio and CAN (11) -/

namespace I

def canS (s : State) (d : CanState) : State := { s with can := [(1,d)] }
def ci (n a : Nat) (b : Bool) : CanItem := ⟨n,0x123,0x1002,[1,2],a,b,b⟩
def fr : CanFrame := ⟨false,false,false,false,false,0x123,[1,2,3,4,5],77⟩
def radS (s : State) (d : RadioState) : State := { s with radio := d }
def rI (n : Nat) (b a w : Bool) : RadioItem := ⟨n,1,a,[1,2,3],b,w,0⟩

theorem witness_CanItemsAndFrames :
    (let s : State := canS ((up 3).wr (canFld R.CAN_STAT_STATE 1) 2) { items := [ci 0 3 true] }
     let r : Req := Req.host
     let ctl : Fin 2 := 1
     let c : ℕ := ↑ctl
     let q : State → CanState := fun t => t.canSt c
     let cfg : Word := s.reg (s.bk r (R.CAN_TXCFG + 4096 * c))
     let len : ℕ := if bitsOf cfg 13 13 = 1 then 0 else bitsOf cfg 6 0
     s.accepts r (R.CAN_CMD + 4096 * c) ∧ s.owner = true ∧ len ≤ (SMap.get (fun x => []) (q s).wdata (s.bank r)).length ∧
     (q s).items.length < 256 ∧ s.ledgerFree LedgerKind.can = true ∧ s.canReadable c = true ∧
     s.rd (canFld R.CAN_STAT_STATE c) = 2) ∧
    (let s : State := canS ((up 3).wr (canFld R.CAN_STAT_STATE 1) 2) { items := [ci 0 3 true] }
     let ctl : Fin 2 := 1
     let i : CanItem := ci 0 3 true
     let id : BitVec 16 := 0
     let c : ℕ := ↑ctl
     let q : State → CanState := fun t => t.canSt c
     s.canOn c = true ∧ (q s).late = none ∧ s.canSending c = some i ∧ s.canReadable c = true ∧
     s.rd (canFld R.CAN_CFG_RETRY c) < i.attempts + 1 ∧ s.canItem c id.toNat = some i ∧ s.pgEn (97 + c) = true ∧
     i.onBus = true) ∧
    (let s : State := canS ((up 3).wr { addr := R.CAN_FILTID + 4096 + 8 * 31, hi := 31, lo := 31 } 1) { items := [ci 0 3 false], rx := [{ frame := fr, matched := 3 }, { frame := fr, matched := 1 }], opened := [1, 2, 3, 4, 5] }
     let r : Req := Req.host
     let ctl : Fin 2 := 1
     let x : CanRx := { frame := fr, matched := 3 }
     let l : List CanRx := [{ frame := fr, matched := 1 }]
     let f : CanFrame := fr
     let c : ℕ := ↑ctl
     let q : State → CanState := fun t => t.canSt c
     s.canOn c = true ∧ s.rd (canFld R.CAN_CFG_MODE c) ≠ 2 ∧ s.rd (canFld R.CAN_STAT_STATE c) < 2 ∧
     (f.fdf = true → s.on (canFld R.CAN_CFG_FDEN c) = true) ∧ s.canMatches c f ≠ 0 ∧ (q s).rx.length < 256 ∧
     s.answers r (R.CAN_RXHEAD + 4096 * c) ∧ (q s).rx = x :: l) ∧
    (let s : State := canS ((up 3).wr { addr := R.CAN_FILTID + 4096 + 8 * 31, hi := 31, lo := 31 } 1) { items := [ci 0 3 false], rx := [{ frame := fr, matched := 3 }, { frame := fr, matched := 1 }], opened := [1, 2, 3, 4, 5] }
     let r : Req := Req.host
     let ctl : Fin 2 := 1
     let c : ℕ := ↑ctl
     let q : State → CanState := fun t => t.canSt c
     s.answers r (R.CAN_RXDATA + 4096 * c) ∧ 4 ≤ (q s).opened.length) ∧
    (let s : State := canS (up 3) { items := [ci 0 3 false] }
     let r : Req := Req.host
     let ctl : Fin 2 := 1
     let i : CanItem := ci 0 3 false
     let id : BitVec 16 := 0
     let c : ℕ := ↑ctl
     let sel : ℕ := s.rd (s.bf r (canFld R.CAN_ITSEL_ITEMID c))
     s.accepts r (R.CAN_CMD + 4096 * c) ∧ s.owner = true ∧ s.canItem c sel = some i ∧ i.onBus = false ∧
     s.canReadable c = true ∧ s.canItem c id.toNat = some i ∧ s.pgEn (97 + c) = true) ∧
    (let s : State := canS ((up 3).wr (canFld R.CAN_CFG_RETRY 1) 4) { items := [ci 5 3 false, ci 0 3 true], nextId := 65535 }
     let ctl : Fin 2 := 1
     let i : CanItem := ci 0 3 true
     let c : ℕ := ↑ctl
     let q : State → CanState := fun t => t.canSt c
     s.canOn c = true ∧ (q s).late = none ∧ s.canSending c = some i ∧ s.canReadable c = true ∧
     i.attempts + 1 ≤ s.rd (canFld R.CAN_CFG_RETRY c)) ∧
    (let s : State := canS ((up 3).wr (canFld R.CAN_STAT_STATE 1) 3) { items := [ci 0 3 false], tec := 300 }
     let ctl : Fin 2 := 1
     let c : ℕ := ↑ctl
     s.canOn c = true ∧ s.rd (canFld R.CAN_STAT_STATE c) = 3) := by
  refine ⟨?_, ?_, ?_, ?_, ?_, ?_, ?_⟩ <;> decide +kernel

theorem witness_RadioItemsAndRecords :
    (let s : State := radS ((Tests.up 3).wr R.RADIO_CFG_RTSCTS 1) { items := [rI 0 false true false], nextId := 1, step := RadioStep.keyed 0 false, inProgress := some { stamp := 1, status := 2, data := [3, 4] } }
     let id : BitVec 16 := 0
     let up : Bool := false
     let r : Req := Req.host
     let i : RadioItem := rI 0 false true false
     let sel : ℕ := s.rd (s.bf r R.RADIO_ITSEL_ITEMID)
     s.accepts r R.RADIO_CMD ∧ s.owner = true ∧ s.radioItem sel = some i ∧ i.begun = false ∧ s.radioOn = true ∧
     s.radio.step = RadioStep.keyed id.toNat up ∧
     (up = false ∨ s.memory.dramBad.contains (DramHolder.item ItemKind.radio id.toNat) = false)) ∧
    (let s : State := radS ((Tests.up 3).wr R.RADIO_CFG_RTSCTS 1) { items := [rI 0 false true false], nextId := 1, step := RadioStep.keyed 0 false, inProgress := some { stamp := 1, status := 2, data := [3, 4] } }
     let i : RadioItem := rI 0 false true false
     let id : BitVec 16 := 0
     let up : Bool := false
     s.radioOn = true ∧ s.radio.step = RadioStep.keyed id.toNat up ∧ s.radioItem id.toNat = some i ∧
     s.on R.RADIO_CFG_RTSCTS = true ∧ s.on (lineBit 1) = false ∧ i.fails + 1 < s.rd R.RADIO_CTSWAIT_CTSFAIL ∧
     s.radio.step = RadioStep.keyed id.toNat false ∧ s.pgEn 96 = true ∧ i.begun = false) ∧
    (let s : State := radS ((Tests.up 3).wr R.RADIO_CFG_RTSCTS 1) { items := [rI 0 false true false], nextId := 1, step := RadioStep.keyed 0 false, inProgress := some { stamp := 1, status := 2, data := [3, 4] } }
     let x : RxRec := { stamp := 1, status := 2, data := [3, 4] }
     let start : BitVec 64 := 77
     s.radioOn = true ∧ (s.radio.inProgress.getD { stamp := start, status := 0, data := [] }).data.length < 2047 ∧
     s.radio.inProgress = some x ∧ (List.map (fun y => y.data.length) s.radio.rx).sum + x.data.length ≤ 65536) ∧
    (let s : State := radS (Tests.up 3) { items := [rI 0 true true true], nextId := 1, inProgress := some { stamp := 1, status := 2, data := [3, 4] } }
     let b : Bool := true
     let r : Req := Req.host
     let i : RadioItem := rI 0 true true true
     let id : BitVec 16 := 0
     let sel : ℕ := s.rd (s.bf r R.RADIO_ITSEL_ITEMID)
     s.accepts r R.RADIO_CMD ∧ s.owner = true ∧ s.radioItem sel = some i ∧ i.waitAck = true ∧ s.pgEn 96 = true ∧
     s.on (lineBit 0) ≠ b ∧ s.radioItem id.toNat = some i ∧ i.begun = true) ∧
    (let s : State := radS (Tests.up 3) { items := [rI 0 true false false], nextId := 1, step := RadioStep.sending 0, rx := [{ stamp := 1, status := 2, data := [3, 4] }], opened := [1, 2, 3, 4, 5] }
     let r : Req := Req.host
     let x : RxRec := { stamp := 1, status := 2, data := [3, 4] }
     let l : List RxRec := []
     let i : RadioItem := rI 0 true false false
     let id : BitVec 16 := 0
     s.radioOn = true ∧ s.radio.step = RadioStep.sending id.toNat ∧ s.radioItem id.toNat = some i ∧ i.ackReq = false ∧
     s.answers r R.RADIO_RXINFO ∧ s.radio.rx = x :: l ∧ s.memory.dramBad.contains DramHolder.radioRecord = false ∧
     s.answers r R.RADIO_RXDATA ∧ 4 ≤ s.radio.opened.length) ∧
    (let s : State := radS ((Tests.up 3).wr ((Tests.up 3).bf Req.host R.RADIO_TXCFG_LEN) 3) { wdata := [(16, [1, 2, 3, 4])] }
     let r : Req := Req.host
     let len : ℕ := s.rd (s.bf r R.RADIO_TXCFG_LEN)
     s.accepts r R.RADIO_CMD ∧ s.owner = true ∧ len ≠ 0 ∧ len ≤ (SMap.get (fun x => []) s.radio.wdata (s.bank r)).length ∧
     s.radio.items.length < 4096 ∧ s.ledgerFree LedgerKind.radio = true) ∧
    (let s : State := radS ((Tests.up 3).wr (lineBit 0) 1) { items := [rI 0 false true false], nextId := 1, step := RadioStep.defer 0, inProgress := some { stamp := 1, status := 2, data := [3, 4] } }
     let id : BitVec 16 := 0
     s.radioOn = true ∧ s.radio.step = RadioStep.defer id.toNat ∧ s.on (lineBit 0) = true) ∧
    (let s : State := radS (((Tests.up 3).wr R.RADIO_CTSWAIT_CTSFAIL 1).wr R.RADIO_CFG_RTSCTS 1) { items := [rI 0 false true false], nextId := 1, step := RadioStep.keyed 0 true, inProgress := some { stamp := 1, status := 2, data := [3, 4] } }
     let i : RadioItem := rI 0 false true false
     let id : BitVec 16 := 0
     let up : Bool := true
     s.radioOn = true ∧ s.radio.step = RadioStep.keyed id.toNat up ∧ s.radioItem id.toNat = some i ∧
     s.on R.RADIO_CFG_RTSCTS = true ∧ s.on (lineBit 1) = false ∧ s.rd R.RADIO_CTSWAIT_CTSFAIL ≤ i.fails + 1) ∧
    (let s : State := radS ((Tests.up 3).wr R.RADIO_CFG_RTSCTS 0) { items := [rI 0 false true false], nextId := 1, step := RadioStep.keyed 0 false, inProgress := some { stamp := 1, status := 2, data := [3, 4] } }
     let i : RadioItem := rI 0 false true false
     let id : BitVec 16 := 0
     s.radioOn = true ∧ s.radio.step = RadioStep.keyed id.toNat false ∧ s.radioItem id.toNat = some i ∧
     s.on R.RADIO_CFG_RTSCTS = false ∧ s.mirrorOn = false ∧
     s.memory.dramBad.contains (DramHolder.item ItemKind.radio id.toNat) = false) ∧
    (let s : State := radS (Tests.up 3) { items := [rI 0 true true false], nextId := 1, step := RadioStep.sending 0, rx := [{ stamp := 1, status := 2, data := [3, 4] }], opened := [1, 2, 3, 4, 5] }
     let i : RadioItem := rI 0 true true false
     let id : BitVec 16 := 0
     s.radioOn = true ∧ s.radio.step = RadioStep.sending id.toNat ∧ s.radioItem id.toNat = some i ∧ i.ackReq = true) ∧
    (let s : State := radS (Tests.up 3) { items := [rI 0 true false false], nextId := 1, step := RadioStep.tail, rx := [{ stamp := 1, status := 2, data := [3, 4] }], opened := [1, 2, 3, 4, 5] }
     s.radioOn = true ∧ s.radio.step = RadioStep.tail ∧ s.radioNext = none) ∧
    (let s : State := let __src := radS (Tests.up 3) { rx := [{ stamp := 1, status := 2, data := [3, 4] }] };
{ pending := __src.pending, regs := __src.regs, tb := __src.tb, fresh := __src.fresh, mem := __src.mem, wire := __src.wire, evt := __src.evt, recorder := __src.recorder, sys := __src.sys, exec := __src.exec, prog := __src.prog,
  memory :=
    let __src := (Tests.up 3).memory;
    { poison := __src.poison, writeBack := __src.writeBack, history := __src.history, rowCopy := __src.rowCopy, bankCopy := __src.bankCopy, ueWords := __src.ueWords, ceAt := __src.ceAt, slot0 := __src.slot0, slot1 := __src.slot1, store := __src.store, ledger := __src.ledger, retainSig := __src.retainSig, weak := __src.weak, dramBad := [DramHolder.radioRecord], lifeWarned := __src.lifeWarned },
  cox := __src.cox, force := __src.force, pwr := __src.pwr, edit := __src.edit, loop := __src.loop, clk := __src.clk, wdt := __src.wdt, rtc := __src.rtc, dio := __src.dio, panel := __src.panel, mbx := __src.mbx, spare := __src.spare, upd := __src.upd, sec := __src.sec, fbc := __src.fbc, pair := __src.pair, net := __src.net, radio := __src.radio, can := __src.can }
     let r : Req := Req.host
     let x : RxRec := { stamp := 1, status := 2, data := [3, 4] }
     let l : List RxRec := []
     s.answers r R.RADIO_RXINFO ∧ s.radio.rx = x :: l ∧ s.memory.dramBad.contains DramHolder.radioRecord = true) := by
  refine ⟨?_, ?_, ?_, ?_, ?_, ?_, ?_, ?_, ?_, ?_, ?_, ?_⟩ <;> decide +kernel

end I

/-! ### Ethernet, sessions and time of day (11) -/

namespace J

def net (s : State) (d : NetState) : State := { s with net := d }
def sk (s : State) (k kind st : Nat) : State := ((s.wr (sessFld R.SESS_CTL_KIND k) kind).wr (sessFld R.SESS_STAT_STATE k) st)
def ethOn (s : State) : State := (((s.wr R.NET_CFG_ETH1EN 1).wr R.NET_CFG_ETH2EN 1).wr R.NET_STAT_ETH1 2).wr R.NET_STAT_ETH2 1
def e0 : EthFrom := ⟨false,false,0x0A000001,false⟩
def g0 : TcpSeg := ⟨80,1000,5,1,true,true,false,false,1000,none,[1,2,3]⟩
def g1 : TcpSeg := ⟨80,1000,5,1,false,false,false,false,1000,none,[1,2,3]⟩
def i0 : NetItem := ⟨0,127,[1,2,3],false⟩
def i1 : NetItem := ⟨0,127,[1,2,3],true⟩
def d0 : Datagram := ⟨5,6,[1,2,3,4,5]⟩
def sel127 (s : State) : State := s.wr (s.bf .host R.NET_RXSEL_SESS) 127
def pm : PtpAnnounce := ⟨0,1,2,3,4,5,77,0⟩
def tod (s : State) : State := s.wr R.NET_TODCTL_EN 1

theorem witness_NetworkSessionsAndItems :
    (let s : State := net (sel127 (ethOn (sk (up 3) 127 1 3))) { items := [i1], sess := [(127, { peer := 167772161, port := 80, lport := 1000, flight := 3, rcv := 5, wnd := 100, cwnd := 1000, rx := [9, 8, 7, 6, 5] })] }
     let r : Req := Req.host
     let sess : Fin 128 := 127
     let k : ℕ := ↑sess
     let cmd : ℕ := R.SESS_CMD + 4096 * (k / 16) + 240 * (k % 16)
     s.accepts r cmd ∧ s.owner = true ∧ s.sessState k = 3 ∧ s.sessKind k ≠ 3 ∧ s.sessState k ≠ 0) ∧
    (let s : State := net (sel127 (ethOn (sk (up 3) 127 1 3))) { items := [i1], sess := [(127, { peer := 167772161, port := 80, lport := 1000, flight := 3, rcv := 5, wnd := 100, cwnd := 1000, rx := [9, 8, 7, 6, 5] })] }
     let sess : Fin 128 := 127
     let e : EthFrom := e0
     let g : TcpSeg := g1
     let k : ℕ := ↑sess
     let q : NetSess := s.nsess k
     s.netOn = true ∧ s.ethUp e.eth2 = true ∧ e.unfit = false ∧
     (findSess fun k => (decide (s.sessState k = 1) || decide (s.sessState k = 3) || decide (s.sessState k = 5)) && decide (s.sessKind k ≠ 3) && s.sessHears k e && decide ((s.nsess k).lport = g.dport) && decide ((s.nsess k).peer = e.src) && decide ((s.nsess k).port = g.sport)) = some k ∧
     s.sessState k = 3 ∧ g.acks = false ∧ g.rst = false ∧ g.fin = false ∧ g.seq = q.rcv ∧
     q.rx.length + g.data.length ≤ 65536 ∧ g.data ≠ []) ∧
    (let s : State := net (sel127 (ethOn (sk (up 3) 127 1 3))) { items := [i1], sess := [(127, { peer := 167772161, port := 80, lport := 1000, flight := 3, rcv := 5, wnd := 100, cwnd := 1000, rx := [9, 8, 7, 6, 5] })] }
     let sess : Fin 128 := 127
     let k : ℕ := ↑sess
     let q : NetSess := s.nsess k
     s.netOn = true ∧ s.sessOn k = true ∧ s.sessKind k ≠ 3 ∧ (s.sessState k = 1 ∨ 0 < q.flight) ∧ q.tries < 8 ∧
     s.sessState k ≠ 0 ∧ s.sessState k ≠ 2) ∧
    (let s : State := net (sel127 (ethOn (sk (up 3) 127 1 3))) { items := [i1], sess := [(127, { peer := 167772161, port := 80, lport := 1000, flight := 3, rcv := 5, wnd := 100, cwnd := 1000, rx := [9, 8, 7, 6, 5] })] }
     let r : Req := Req.host
     let sel : ℕ := s.rd (s.bf r R.NET_RXSEL_SESS)
     let id : BitVec 16 := 0
     let i : NetItem := i1
     List.find? (fun x => decide (x.id = id.toNat)) s.net.items = some i ∧ i.begun = true ∧ s.sessKind i.sess ≠ 3 ∧
     s.answers r R.NET_RXINFO ∧ s.memory.dramBad.contains (DramHolder.received sel) = false ∧ s.sessKind sel ≠ 3 ∧
     s.answers r R.NET_RXDATA ∧ 4 ≤ (s.nsess sel).rx.length) ∧
    (let s : State := net (sel127 (ethOn (sk (up 3) 127 3 4))) { items := [i1], sess := [(127, { lport := 6, dgrams := [d0], opened := [4, 5, 6, 7] })] }
     let r : Req := Req.host
     let sess : Fin 128 := 127
     let k : ℕ := ↑sess
     let cmd : ℕ := R.SESS_CMD + 4096 * (k / 16) + 240 * (k % 16)
     s.accepts r cmd ∧ s.owner = true ∧ s.sessState k = 4 ∧ s.sessItems k ≠ [] ∧ s.memory.dramBad = []) ∧
    (let s : State := net (sel127 (ethOn (sk (up 3) 127 3 4))) { items := [i1], sess := [(127, { lport := 6, dgrams := [d0], opened := [4, 5, 6, 7] })] }
     let id : BitVec 16 := 0
     let i : NetItem := i1
     let sess : Fin 128 := 127
     let e : EthFrom := e0
     let sport : ℕ := 5
     let dport : ℕ := 6
     let k : ℕ := ↑sess
     let q : NetSess := s.nsess k
     s.netOn = true ∧ s.ethUp e.eth2 = true ∧ e.unfit = false ∧
     (findSess fun k => decide (s.sessState k = 4) && s.sessHears k e && decide ((s.nsess k).lport = dport) && (decide (s.sessRaddr k = 0) || decide (s.sessRaddr k = e.src)) && (decide (s.rd (sessFld R.SESS_RPORT_PORT k) = 0) || decide (s.rd (sessFld R.SESS_RPORT_PORT k) = sport))) = some k ∧
     q.dgrams.length < 64 ∧ List.find? (fun x => decide (x.id = id.toNat) && x.begun) s.net.items = some i ∧
     s.sessKind i.sess = 3 ∧ s.memory.dramBad = []) ∧
    (let s : State := net (sel127 (ethOn (sk (up 3) 127 3 4))) { items := [i1], sess := [(127, { lport := 6, dgrams := [d0], opened := [4, 5, 6, 7] })] }
     let r : Req := Req.host
     let d : Datagram := d0
     let ds : List Datagram := []
     let sel : ℕ := s.rd (s.bf r R.NET_RXSEL_SESS)
     s.answers r R.NET_RXINFO ∧ s.memory.dramBad.contains (DramHolder.received sel) = false ∧ s.sessKind sel = 3 ∧
     (s.nsess sel).dgrams = d :: ds ∧ s.answers r R.NET_RXDATA ∧ 4 ≤ (s.nsess sel).opened.length) ∧
    (let s : State := net (ethOn (sk (up 3) 127 1 1)) { items := [i0], sess := [(127, { peer := 167772161, port := 80, lport := 1000, tries := 8 })] }
     let r : Req := Req.host
     let sess : Fin 128 := 127
     let k : ℕ := ↑sess
     let cmd : ℕ := R.SESS_CMD + 4096 * (k / 16) + 240 * (k % 16)
     s.accepts r cmd ∧ s.owner = true ∧ (s.sessState k = 1 ∨ s.sessState k = 2)) ∧
    (let s : State := net (ethOn (sk (up 3) 127 1 1)) { items := [i0], sess := [(127, { peer := 167772161, port := 80, lport := 1000, tries := 8 })] }
     let sess : Fin 128 := 127
     let e : EthFrom := e0
     let g : TcpSeg := g0
     let k : ℕ := ↑sess
     let q : NetSess := s.nsess k
     s.netOn = true ∧ s.ethUp e.eth2 = true ∧ e.unfit = false ∧
     (findSess fun k => (decide (s.sessState k = 1) || decide (s.sessState k = 3) || decide (s.sessState k = 5)) && decide (s.sessKind k ≠ 3) && s.sessHears k e && decide ((s.nsess k).lport = g.dport) && decide ((s.nsess k).peer = e.src) && decide ((s.nsess k).port = g.sport)) = some k ∧
     s.sessState k = 1 ∧ q.passive = false ∧ g.syn = true ∧ g.acks = true ∧ g.rst = false ∧ g.ack = (q.una + 1) % 4294967296) ∧
    (let s : State := net (ethOn (sk (up 3) 127 1 1)) { items := [i0], sess := [(127, { peer := 167772161, port := 80, lport := 1000, tries := 8 })] }
     let id : BitVec 16 := 0
     let i : NetItem := i0
     let sess : Fin 128 := 127
     let k : ℕ := ↑sess
     let q : NetSess := s.nsess k
     s.netOn = true ∧ s.sessOn k = true ∧ s.sessKind k ≠ 3 ∧ (s.sessState k = 1 ∨ 0 < q.flight) ∧ 8 ≤ q.tries ∧
     List.find? (fun x => decide (x.id = id.toNat)) s.net.items = some i ∧ i.begun = false ∧ s.memory.dramBad = []) ∧
    (let s : State := net (((sk (up 3) 127 1 3).wr ((up 3).bf Req.host R.NET_TXCFG_SESS) 127).wr ((up 3).bf Req.host R.NET_TXCFG_LEN) 3) { wdata := [(16, [1, 2, 3, 4])] }
     let r : Req := Req.host
     let to' : ℕ := s.rd (s.bf r R.NET_TXCFG_SESS)
     let len : ℕ := s.rd (s.bf r R.NET_TXCFG_LEN)
     s.accepts r R.NET_TXCMD ∧ s.owner = true ∧ (s.sessState to' = 3 ∨ s.sessState to' = 4) ∧ len ≠ 0 ∧
     len ≤ (s.netWdata (s.bank r)).length ∧ (s.sessKind to' = 3 → len ≤ 1452) ∧ s.ledgerFree LedgerKind.net = true ∧
     s.memory.dramBad = []) ∧
    (let s : State := net ((sk (up 3) 127 1 0).wr (sessFld R.SESS_CTL_LPORT 127) 5) { }
     let r : Req := Req.host
     let sess : Fin 128 := 127
     let k : ℕ := ↑sess
     let cmd : ℕ := R.SESS_CMD + 4096 * (k / 16) + 240 * (k % 16)
     s.accepts r cmd ∧ s.owner = true ∧ s.sessState k = 0 ∧ s.sessKind k ≠ 0) ∧
    (let s : State := net (ethOn ((sk (up 3) 127 1 3).wr (sessFld R.SESS_CTL_KEEPALIVE 127) 1)) { items := [i0], sess := [(127, { peer := 167772161, port := 80, lport := 1000, rcv := 5, wnd := 100, cwnd := 1000, rx := [9, 8, 7, 6, 5] })] }
     let sess : Fin 128 := 127
     let k : ℕ := ↑sess
     let q : NetSess := s.nsess k
     s.netOn = true ∧ s.sessOn k = true ∧ s.sessState k = 3 ∧ s.on (sessFld R.SESS_CTL_KEEPALIVE k) = true ∧ q.flight = 0) := by
  refine ⟨?_, ?_, ?_, ?_, ?_, ?_, ?_, ?_, ?_, ?_, ?_, ?_, ?_⟩ <;> decide +kernel

theorem witness_EthernetAndTimeOfDay :
    (let s : State := net (tod (ethOn ((up 3).wr R.PAIR_STAT_STATE 1))) { masters := [pm], twoStep := some (77, 5, 40), delayReq := some (5, 40) }
     let identity : ℕ := 77
     let domain : ℕ := 0
     let seq : ℕ := 5
     let t0 : ℕ := 40
     let m : PtpAnnounce := pm
     let b : Bool := true
     let speed : Fin 3 := 2
     let a : ArpTarget := ArpTarget.ip4 167772162
     s.answersFor b a = false ∧ s.romAnswers b a = false ∧ s.pgEn 80 = true ∧
     s.on (if b = true then R.NET_CFG_ETH2EN else R.NET_CFG_ETH1EN) = true ∧
     s.rd (if b = true then R.NET_STAT_ETH2 else R.NET_STAT_ETH1) ≠ ↑speed ∧ s.ptpOn = true ∧
     m.domain = s.rd R.NET_TODCTL_DOMAIN ∧ s.ptpFrom identity domain = true ∧ s.net.twoStep = some (identity, seq, t0)) ∧
    (let s : State := net (tod (ethOn ((up 3).wr R.PAIR_STAT_STATE 1))) { masters := [pm], twoStep := some (77, 5, 40), delayReq := some (5, 40) }
     let r : Req := Req.host
     let identity : ℕ := 77
     let domain : ℕ := 0
     let seq : ℕ := 5
     let t0 : ℕ := 40
     s.ptpFrom identity domain = true ∧ s.net.delayReq = some (seq, t0) ∧ s.ptpOn = true ∧ s.answers r R.NET_TODOFSLO) ∧
    (let s : State := net ((ethOn (up 3)).setReg R.NET_IP4 167772162) { learned := [{ mac := 7, eth2 := true }] }
     let b : Bool := false
     let len : ℕ := 1600
     let tags : ℕ := 0
     let a : ArpTarget := ArpTarget.ip4 167772162
     let e : EthFrom := e0
     s.answersFor b a = true ∧ s.answersFor e.eth2 a = true ∧ e.unfit = false ∧ s.pgEn 80 = true ∧ s.ethUp b = true ∧
     2 ≤ s.mode ∧ s.mode ≠ 7 ∧ (1522 < len ∨ 1 < tags)) ∧
    (let s : State := net ((ethOn (up 0)).setReg R.NET_IP4 167772162) { learned := [{ mac := 7, eth2 := true }] }
     let b : Bool := false
     let a : ArpTarget := ArpTarget.linkLocal true
     s.romAnswers b a = true) ∧
    (let s : State := net ((ethOn (up 3)).wr R.NET_CFG_BRIDGE 1) { learned := [{ mac := 7, eth2 := true }] }
     let b : Bool := false
     let dst : BitVec 48 := 8
     let src : BitVec 48 := 9
     let len : ℕ := 1500
     let tags : ℕ := 0
     s.pgEn 80 = true ∧ s.ethUp b = true ∧ 2 ≤ s.mode ∧ s.mode ≠ 7 ∧ len ≤ 1522 ∧ tags ≤ 1 ∧ s.on R.NET_CFG_BRIDGE = true ∧
     (s.ethUp !b) = true ∧ dst ≠ src ∧ dst.toNat ≠ s.serviceMac ∧
     List.find? (fun x => decide (x.mac = dst)) s.net.learned = none) ∧
    (let s : State := net (ethOn ((up 3).wr R.PAIR_STAT_STATE 1)) { announce := some 2 }
     let n : ℕ := 2
     s.net.announce = some n ∧ s.netOn = true ∧ s.pairState = 1) := by
  refine ⟨?_, ?_, ?_, ?_, ?_, ?_⟩ <;> decide +kernel

end J

/-! ### Edits, forcing, the debugger and the program's registers (00, 04, 05, 06, 07) -/

namespace K

def ed (s : State) (st : Nat) (e : EditState) : State := { s.wr R.EDIT_STAT_STATE st with edit := e }
def eb : EditBlock := ⟨1,5,16,[1,2,3]⟩
def etx : EditTx := ⟨7,3,[1],[2],[eb]⟩
def frc (s : State) (f : ForceState) : State := { s with force := f }
def fe : Word × Word × Word := (0x80000003, 0x00FF00F0, 0x12345678)
def fe1 : Word × Word × Word := (0xC0000003, 0x00FF00F0, 0x12345678)
def cst (s : State) (k : CoreSt) : State := s.setCore 1 k
def ten (s : State) : State := (s.wr ⟨R.EXEC_TEN0+4, 31, 31⟩ 1)
def slotA : UpdSlot := { state := 1, version := 3 }
def stg7 (b : Bool) : State := { up 1 with sys := { (up 1).sys with stage := 7 }, upd := { regions := [(8, if b then {a := slotA} else {})] } }

theorem witness_EditTransactions :
    (let s : State := ed (up 3) 1 { tx := some etx }
     let r : Req := Req.host
     let x : EditTx := etx
     let b : EditBlock := eb
     let bs : List EditBlock := []
     s.accepts r R.EDIT_CMD ∧ (s.mode = 2 ∨ s.mode = 3) ∧ s.editSt ≠ 0 ∧ s.edit.tx = some x ∧ s.editSt = 1 ∧
     s.edit.agreed = none ∧ s.accepts r R.EDIT_WDATA ∧ x.blocks = bs ++ [b] ∧ b.data.length + 4 ≤ b.len) ∧
    (let s : State := ed (up 2) 0 { }
     let r : Req := Req.host
     s.accepts r R.EDIT_CMD ∧ (s.mode = 2 ∨ s.mode = 3) ∧ s.editSt = 0) ∧
    (let s : State := ed (up 3) 3 { tx := some etx, peerNeeded := true }
     let x : EditTx := etx
     s.editSt = 3 ∧ s.edit.written = false ∧ s.edit.tx = some x ∧ s.sys.latch = false ∧ s.on R.FLASH_STAT_READONLY = false ∧
     s.edit.peerNeeded = true ∧ s.edit.peerReady = false) ∧
    (let s : State := ed (up 3) 3 { tx := some etx }
     let x : EditTx := etx
     s.editSt = 3 ∧ s.edit.written = false ∧ s.edit.tx = some x ∧ s.sys.latch = false ∧ s.on R.FLASH_STAT_READONLY = false ∧
     s.edit.peerNeeded = false) ∧
    (let s : State := ed ((up 3).wr R.FLASH_STAT_READONLY 1) 3 { tx := some etx }
     let x : EditTx := etx
     s.editSt = 3 ∧ s.edit.written = false ∧ s.edit.tx = some x ∧ s.sys.latch = false ∧ s.on R.FLASH_STAT_READONLY = true) ∧
    (let s : State := ed ((up 3).wr { addr := R.FBC_STROKE, hi := 31, lo := 0 } 5) 4 { tx := some etx }
     let x : EditTx := etx
     s.editSt = 4 ∧ s.edit.tx = some x ∧ s.edit.agreed = none ∧ s.edit.since + x.tmo ≤ s.extStroke) := by
  refine ⟨?_, ?_, ?_, ?_, ?_, ?_⟩ <;> decide +kernel

theorem witness_ForcingCommandsAndImages :
    (let s : State := frc (up 3) { staged := [(2, fe), (3, fe1)], table := [(2, fe)] }
     let e : Word × Word × Word := fe
     let area : ℕ := 0
     let o : ℕ := 12
     let r : Req := Req.host
     s.accepts r R.FORCE_CMD ∧ s.force.apply = false ∧ s.force.clear = false ∧
     dupForce (enabledForce s.force.staged) = false ∧ s.pgEn 18 = true ∧ enabledForce s.force.table = [e] ∧
     bitsOf e.1 30 30 = area ∧ o / 4 = bitsOf e.1 12 0) ∧
    (let s : State := frc (up 3) { staged := [(2, fe), (3, fe)], table := [(2, fe)] }
     let e : Word × Word × Word := fe
     let area : ℕ := 1
     let o : ℕ := 12
     let r : Req := Req.host
     s.accepts r R.FORCE_CMD ∧ s.force.apply = false ∧ s.force.clear = false ∧
     dupForce (enabledForce s.force.staged) = true ∧ s.pgEn 18 = true ∧ enabledForce s.force.table = [e] ∧
     (bitsOf e.1 30 30 ≠ area ∨ o / 4 ≠ bitsOf e.1 12 0)) ∧
    (let s : State := frc (up 3) { staged := [(2, fe), (3, fe)], table := [(2, fe)], apply := true }
     let r : Req := Req.host
     s.accepts r R.FORCE_CMD ∧ (s.force.apply = true ∨ s.force.clear = true)) ∧
    (let s : State := frc ((up 3).setReg (hdr 18 8) 0) { staged := [(2, fe), (3, fe)], table := [(2, fe)], clear := true }
     s.pgEn 18 = false) := by
  refine ⟨?_, ?_, ?_, ?_⟩ <;> decide +kernel

theorem witness_DebuggerCommands :
    (let s : State := ten (up 2)
     let r : Req := Req.host
     let c : Fin 5 := 1
     let task : Fin 64 := 63
     let a : ℕ := R.CORE_DBGCMD + 4096 * ↑c
     let k : CoreSt := s.core ↑c
     s.accepts r a ∧ s.debugMode = true ∧ k.halted = false ∧ k.failed = false ∧ s.lcoreOf ↑c ≠ none ∧
     s.taskEnabled ↑task = true ∧ k.fgRun = none ∧ k.bgRun = none ∧ s.busy ↑task = false) ∧
    (let s : State := ten (cst (up 5) { fgRun := some { task := 1, scan := 0, qsnap := [], qbuf := [], runtask := true }, halted := true })
     let r : Req := Req.host
     let c : Fin 5 := 1
     let task : Fin 64 := 63
     let a : ℕ := R.CORE_DBGCMD + 4096 * ↑c
     let k : CoreSt := s.core ↑c
     s.accepts r a ∧ s.debugMode = true ∧ k.halted = true ∧ k.failed = false ∧ s.lcoreOf ↑c ≠ none ∧
     s.taskEnabled ↑task = true) ∧
    (let s : State := cst (up 5) { halted := true }
     let r : Req := Req.host
     let c : Fin 5 := 1
     let task : Fin 64 := 63
     let a : ℕ := R.CORE_DBGCMD + 4096 * ↑c
     let k : CoreSt := s.core ↑c
     s.accepts r a ∧ s.debugMode = true ∧ k.failed = false ∧ s.lcoreOf ↑c ≠ none ∧ s.taskEnabled ↑task = false) ∧
    (let s : State := up 3
     let r : Req := Req.host
     let c : Fin 5 := 1
     let a : ℕ := R.CORE_DBGCMD + 4096 * ↑c
     s.accepts r a ∧ s.debugMode = false) := by
  refine ⟨?_, ?_, ?_, ?_⟩ <;> decide +kernel

theorem witness_ProgramRegisters :
    (let s : State := cst (up 3) { fgRun := some { task := 1, scan := 21474836487, qsnap := [], qbuf := [], runtask := true } }
     let r : Req := Req.core 1
     let i : ℕ := s.rd (s.bf r R.LOOP_TADDR_INDEX)
     let c : Fin 5 := 1
     let v : Word := 1473249280
     s.accepts (Req.core c) R.EXEC_STOPREQ ∧ bitsOf v 31 16 = 22480 ∧ s.answers r R.EXEC_STROKELO ∧
     s.answers r R.EXEC_SCANLO ∧ s.answers r R.PWR_EMODLO ∧ s.answers r R.LOOP_TDATA ∧ s.accepts r R.LOOP_TDATA ∧
     s.tableInUse i = false) ∧
    (let s : State := stg7 true
     let okB : Bool := true
     s.sys.stage = 7 ∧ s.mode = 1 ∧ s.sys.latch = false ∧ (s.region 8).a.state = 1 ∧ ((s.region 8).b.state ≠ 1 ∨ okB = false)) := by
  refine ⟨?_, ?_⟩ <;> decide +kernel

end K

/-! ### The stroke and its instants (01, 04, 08) -/

namespace L

def io (s : State) : State := let t := { s with sys := { s.sys with localIo := true } }; t.wr R.SYS_FLOOR_ELEMENTS 127
def fbs (s : State) (f : FbcState) : State := { s with fbc := f }
def exs (s : State) (f : ExecState) : State := { s with exec := f }
def frs (s : State) (f : ForceState) : State := { s with force := f }
def stp (s : State) (l : List Nat) (d : Option Nat) (p : Nat) : State := { s with sys := { s.sys with stopReqs := l }, pwr := { s.pwr with due := d } }.wr R.PWR_STAT_TARGET p
def lad : Admitted := { task := 5, cls := .m, lcore := 1, scan := 7, qsnap := [(1,2)] }
def synced (s : State) : State := (((((s.wr R.FBC_SYNC_STATE 4).wr R.FBC_SEGCFG_NO.live 254).setReg (R.SLOT_ENT0 + liveBank + 8 * 253) 0x40FB0000).wr R.FBC_DYNCFG_MINISLOTS.live 9).wr R.FBC_CFG_CHAEN.live 1).wr R.FBC_PAYLOAD_BYTES.live 32

theorem witness_StrokeStarts :
    (let s : State := io (up 3)
     let quiet : Prop := s.sys.latch = false ∧ 7 ≤ s.sys.stage ∧ s.rd R.SYS_STRAP_ROLE = 0 ∧ s.spare.subst = none ∧ s.edit.tx = none ∧ s.on R.SYS_CMDSTAT_PENDING = false ∧ s.rd R.FBC_CFGSTAT_STATE = 0 ∧ s.fbc.mgmt = [] ∧ s.memory.store = none ∧ s.pair.accepted = none ∧ s.pair.swap = 0 ∧ s.pair.swapAt = none ∧ s.pair.stopAt = none ∧ s.pair.demoted = false ∧ s.sys.localIo = true ∧ s.works FloorElem.io = true
     quiet ∧ s.mode = 3 ∧ s.sys.stopReqs = [] ∧ s.pwr.due = none ∧ s.force.apply = false ∧ s.force.clear = false) ∧
    (let s : State := frs (io (up 3)) { staged := [(1, 2147483651, 16711920, 305419896)], apply := true }
     let quiet : Prop := s.sys.latch = false ∧ 7 ≤ s.sys.stage ∧ s.rd R.SYS_STRAP_ROLE = 0 ∧ s.spare.subst = none ∧ s.edit.tx = none ∧ s.on R.SYS_CMDSTAT_PENDING = false ∧ s.rd R.FBC_CFGSTAT_STATE = 0 ∧ s.fbc.mgmt = [] ∧ s.memory.store = none ∧ s.pair.accepted = none ∧ s.pair.swap = 0 ∧ s.pair.swapAt = none ∧ s.pair.stopAt = none ∧ s.pair.demoted = false ∧ s.sys.localIo = true ∧ s.works FloorElem.io = true
     quiet ∧ s.mode = 3 ∧ s.sys.stopReqs = [] ∧ s.pwr.due = none ∧ s.force.apply = true ∧ s.force.clear = false) ∧
    (let s : State := frs (io (up 3)) { staged := [(1, 2147483651, 16711920, 305419896)], clear := true }
     let quiet : Prop := s.sys.latch = false ∧ 7 ≤ s.sys.stage ∧ s.rd R.SYS_STRAP_ROLE = 0 ∧ s.spare.subst = none ∧ s.edit.tx = none ∧ s.on R.SYS_CMDSTAT_PENDING = false ∧ s.rd R.FBC_CFGSTAT_STATE = 0 ∧ s.fbc.mgmt = [] ∧ s.memory.store = none ∧ s.pair.accepted = none ∧ s.pair.swap = 0 ∧ s.pair.swapAt = none ∧ s.pair.stopAt = none ∧ s.pair.demoted = false ∧ s.sys.localIo = true ∧ s.works FloorElem.io = true
     quiet ∧ s.mode = 3 ∧ s.sys.stopReqs = [] ∧ s.pwr.due = none ∧ s.force.clear = true) ∧
    (let s : State := (stp (io (up 3)) [9] none 0).setReg R.FBC_STROKE (BitVec.ofNat 32 (strokeModulus - 1))
     let reason : ℕ := 9
     let rest : List ℕ := []
     let quiet : Prop := s.sys.latch = false ∧ 7 ≤ s.sys.stage ∧ s.rd R.SYS_STRAP_ROLE = 0 ∧ s.spare.subst = none ∧ s.edit.tx = none ∧ s.on R.SYS_CMDSTAT_PENDING = false ∧ s.rd R.FBC_CFGSTAT_STATE = 0 ∧ s.fbc.mgmt = [] ∧ s.memory.store = none ∧ s.pair.accepted = none ∧ s.pair.swap = 0 ∧ s.pair.swapAt = none ∧ s.pair.stopAt = none ∧ s.pair.demoted = false ∧ s.sys.localIo = true ∧ s.works FloorElem.io = true
     quiet ∧ s.mode = 3 ∧ s.sys.stopReqs = reason :: rest ∧ s.pwr.due = none) ∧
    (let s : State := stp (io (up 3)) [] (some 0) 1
     let p : ℕ := 1
     let quiet : Prop := s.sys.latch = false ∧ 7 ≤ s.sys.stage ∧ s.rd R.SYS_STRAP_ROLE = 0 ∧ s.spare.subst = none ∧ s.edit.tx = none ∧ s.on R.SYS_CMDSTAT_PENDING = false ∧ s.rd R.FBC_CFGSTAT_STATE = 0 ∧ s.fbc.mgmt = [] ∧ s.memory.store = none ∧ s.pair.accepted = none ∧ s.pair.swap = 0 ∧ s.pair.swapAt = none ∧ s.pair.stopAt = none ∧ s.pair.demoted = false ∧ s.sys.localIo = true ∧ s.works FloorElem.io = true
     quiet ∧ s.mode = 3 ∧ s.sys.stopReqs = [] ∧ p < 3 ∧ s.pwr.due = some 0 ∧ s.rd R.PWR_STAT_TARGET = p) := by
  refine ⟨?_, ?_, ?_, ?_, ?_⟩ <;> decide +kernel

theorem witness_InstantsOfAStroke :
    (let s : State := exs (up 3) { looping := true }
     s.sys.latch = false ∧ s.mode = 3 ∧ s.rd R.SYS_STRAP_ROLE = 0 ∧ s.exec.looping = true ∧ s.pair.awaiting = false) ∧
    (let s : State := exs (up 5) { hostWrites := [(17367040, 5)], looping := true }
     let x : Host.Cell := (17367040, 5)
     s.sys.latch = false ∧ s.exec.looping = true ∧ s.pair.awaiting = false ∧ s.mode = 5 ∧ s.loop.due = [] ∧
     s.exec.engineWrites = [] ∧ s.exec.shared = [] ∧ s.exec.hostWrites = [x]) ∧
    (let s : State := let __src := (((up 2).setReg (hdr 18 8) 0).wr R.DIO_MAP_IEN 1).wr R.DIO_MAP_IOFS 64;
{ pending := __src.pending, regs := __src.regs, tb := __src.tb, fresh := __src.fresh, mem := __src.mem, wire := __src.wire, evt := __src.evt, recorder := __src.recorder, sys := __src.sys, exec := __src.exec, prog := __src.prog, memory := __src.memory, cox := __src.cox, force := __src.force, pwr := __src.pwr, edit := __src.edit, loop := __src.loop, clk := __src.clk, wdt := __src.wdt, rtc := __src.rtc, dio := { captured := [1, 2, 3, 4] }, panel := __src.panel, mbx := __src.mbx, spare := __src.spare, upd := __src.upd, sec := __src.sec, fbc := __src.fbc, pair := __src.pair, net := __src.net, radio := __src.radio, can := __src.can }
     s.sys.latch = false ∧ s.mode = 2 ∧ s.pgEn 112 = true ∧ s.pgEn 18 = false ∧ s.on R.DIO_MAP_IEN = true) ∧
    (let s : State := exs (up 3) { admitted := [lad], closed := false }
     let c : Fin 5 := 1
     let a : Admitted := lad
     s.sys.latch = false ∧ s.exec.record = none ∧ s.startable ↑c = some a) := by
  refine ⟨?_, ?_, ?_, ?_⟩ <;> decide +kernel

theorem witness_SlotsAndSegmentsAreSent :
    (let s : State := synced (up 2)
     let i : Fin 254 := 253
     let mine : Prop := ↑i < s.nSlots liveBank ∧ s.slotOwner liveBank ↑i = s.ownAddr ∧ s.transmits = true
     s.sys.latch = false ∧ s.fbc.conflict = false ∧ s.rd R.SYS_STRAP_ROLE = 0 ∧ s.compat liveBank = false ∧
     s.slotKind liveBank ↑i = 1 ∧ mine ∧ s.mode = 2 ∧ s.rd R.FBC_CFGSTAT_STATE ≠ 2 ∧ s.fbc.activated = none) ∧
    (let s : State := synced (up 2)
     let g : GrantPlan := (synced (up 2)).ownGrant.1
     s.dynMaster = true ∧ s.pair.swap ≠ 1 ∧ s.rd R.FBC_DYNCFG_MINISLOTS.live ≠ 0 ∧ s.ownGrant = (g, true) ∧
     s.firstMgmt = none ∧ s.firstUnsent = none ∧ s.requests = []) ∧
    (let s : State := up 3
     let i : Fin 254 := 253
     (s.slotOwner liveBank ↑i ≠ s.ownAddr ∨ s.transmits = false) ∧ s.compat liveBank = false ∧ s.dynMaster = false ∧
     s.pair.swap ≠ 1 ∧ s.fbc.replies = []) ∧
    (let s : State := exs (synced (up 3)) { imaged := true }
     let i : Fin 254 := 253
     let mine : Prop := ↑i < s.nSlots liveBank ∧ s.slotOwner liveBank ↑i = s.ownAddr ∧ s.transmits = true
     s.sys.latch = false ∧ s.fbc.conflict = false ∧ s.rd R.SYS_STRAP_ROLE = 0 ∧ s.compat liveBank = false ∧
     s.slotKind liveBank ↑i = 1 ∧ mine ∧ s.mode = 3 ∧ s.exec.imaged = true ∧ s.fbc.activated = none) ∧
    (let s : State := ((((synced (up 6)).wr R.SYS_STRAP_ROLE 3).wr R.FBC_SEGCFG_NO.live 0).wr R.FBC_SEGCFG_NI.live 254).setReg (R.SLOT_ENT0 + liveBank + 8 * 253) 2164064256
     let i : Fin 254 := 253
     let mine : Prop := ↑i < s.nSlots liveBank ∧ s.slotOwner liveBank ↑i = s.ownAddr ∧ s.transmits = true
     s.umpire = true ∧ s.mode = 6 ∧ s.slotKind liveBank ↑i = 2 ∧ s.pair.due = none ∧ mine) := by
  refine ⟨?_, ?_, ?_, ?_, ?_⟩ <;> decide +kernel

end L

/-! ### Floryn (08) -/

namespace M

def sy (st : Nat) (s : State) : State := (((s.wr R.FBC_SYNC_STATE st).wr R.FBC_CFG_CHAEN.live 1).wr R.FB_PORTCFG_P1EN 1)
def lnk (st : Nat) (s : State) : State := ((((sy st s).wr R.FBC_SEGCFG_NO.live 1).wr R.FBC_SEGCFG_NI.live 2).setReg (R.SLOT_ENT0 + liveBank) 0x40FC0000).setReg (R.SLOT_ENT0 + liveBank + 8) 0x80030000
def fr (sender slot : Nat) (aux : Nat) (pay : List Byte) : FlorynFrame := { rpt := 0, sender := sender, slot := slot, version := 1, stroke := 0, word2 := 1, flags := 0, len := pay.length, aux := BitVec.ofNat 32 aux, ready := false, rank := 7, cfggen := 0, payload := pay }
def rx (f : FlorynFrame) : FlorynRx := ⟨false, false, true, f.slot, f, true⟩
def fb (s : State) (f : FbcState) : State := { s with fbc := f }
def q0 : AcqReq := { id := 5, bank := 0, task := none, dest := 3, service := 0x20, index := 9, data := [], sent := true }
def q1 : AcqReq := { id := 5, bank := 0, task := none, dest := 3, service := 0x20, index := 9, data := [], sent := false }
def mst (s : State) : State := (s.setReg (R.FBC_MASTERS + liveBank) 0x0000FB03).setReg (R.FBC_MOFS + liveBank) 0x21
def refp (tb : Nat) : List Byte := toBytes 8 tb ++ toBytes 4 0x000003E8 ++ [0,0,0,0] ++ List.replicate 16 0
def res0 : AcqRes := ⟨7,1,0,0,[1,2,3,4,5,6,7,8,9]⟩
def stg0 (s : State) : State := ((((((((((s.wr R.FBC_CFG_CHAEN 1).wr R.FBC_STROKECFG_LEN 1000).wr R.FBC_SEGCFG_NO 1).wr R.FBC_SEGCFG_NT 0).wr R.FBC_PAYLOAD_BYTES 32).wr R.FBC_CUTOFF_US 100).setReg R.SLOT_ENT0 0x40FB0000).wr R.FBC_SETTLE_TICKS 10).setReg R.FBC_MASTERS 0).wr R.FBC_DYNCFG_MINISLOTS 0).wr R.FBC_SEGCFG_NI 0
def stg1 (s : State) : State := (((stg0 s).wr R.FBC_SEGCFG_NI 1).setReg (R.SLOT_ENT0 + 8) 0x80030000).wr (R.SLOT_ENT1_STATOFS.off 8) 0x7FFF
def acw (s : State) (l : List FlorynNode) : State := fb ((((s.wr R.FB_STAT_WORKING 1).wr R.FBC_DYNCFG_MINISLOTS.live 9).wr (s.bf .host R.FBC_ACQ_DEST_DEST) 3).wr (s.bf .host R.FBC_ACQ_SEL_REQID) 7) {nextReq := 65535, nodes := l, acq := [q0], acqDone := [res0], taken := [(0x10, 4)]}

theorem witness_FlorynFramesReceived :
    (let s : State := (lnk 4 (up 3)).wr R.SYS_STRAP_ROLE 1
     let x : FlorynRx := rx (fr 252 0 0 [1, 2])
     let f : FlorynFrame := x.frame
     let hears : Prop := s.forwards = true ∧ s.portOn x.chanB x.port2 = true ∧ s.pgEn 64 = true ∧ s.pgEn (65 + x.chanB.toNat) = true
     let valid : ℕ → Prop := fun typ => hears ∧ x.fcsOk = true ∧ s.formatOk typ x = true
     let first : Prop := List.find? (fun p => decide (p.1 = f.slot)) s.fbc.copies = none
     first ∧ f.slot < 254 ∧ valid 2 ∧ s.fbc.latched = false ∧ valid 3 ∧ s.fbc.closed = false ∧ valid 4) ∧
    (let s : State := (lnk 4 (up 3)).wr R.SYS_STRAP_ROLE 1
     let x : FlorynRx := rx (fr 252 0 0 [1, 2])
     let stamp : ℕ := 5
     let f : FlorynFrame := x.frame
     let hears : Prop := s.forwards = true ∧ s.portOn x.chanB x.port2 = true ∧ s.pgEn 64 = true ∧ s.pgEn (65 + x.chanB.toNat) = true
     let valid : ℕ → Prop := fun typ => hears ∧ x.fcsOk = true ∧ s.formatOk typ x = true
     let off : ℤ := ↑stamp - 64 - ↑(f.aux.toNat / 1000) - ↑(s.linkDelayOf x.chanB x.port2) - ↑(8 * ofBytes (List.take 8 f.payload))
     valid 1 ∧ s.on R.FBC_SYNC_ACTING = false ∧ s.fbc.ref = none ∧ s.syncState = 4 ∧ 200 < off.natAbs ∧ valid 8) ∧
    (let s : State := (lnk 4 (up 3)).wr R.FBC_CFG_MODE.live 1
     let offset : ℤ := 20
     let x : FlorynRx := rx (fr 3 255 1 [])
     let f : FlorynFrame := x.frame
     let hears : Prop := s.forwards = true ∧ s.portOn x.chanB x.port2 = true ∧ s.pgEn 64 = true ∧ s.pgEn (65 + x.chanB.toNat) = true
     let valid : ℕ → Prop := fun typ => hears ∧ x.fcsOk = true ∧ s.formatOk typ x = true
     valid 7 ∧ s.transmits = true ∧ f.sender < s.ownAddr ∧ s.compat liveBank = true ∧ s.syncState ≠ 0 ∧ offset.natAbs ≤ 100) ∧
    (let s : State := lnk 4 (up 3)
     let x : FlorynRx := let __src := rx (fr 3 1 0 [1, 2]);
{ chanB := __src.chanB, port2 := __src.port2, fcsOk := false, place := __src.place, frame := __src.frame, typeOk := __src.typeOk }
     let hears : Prop := s.forwards = true ∧ s.portOn x.chanB x.port2 = true ∧ s.pgEn 64 = true ∧ s.pgEn (65 + x.chanB.toNat) = true
     hears ∧ x.fcsOk = false) ∧
    (let s : State := fb (lnk 4 (up 3)) { closed := true }
     let x : FlorynRx := rx (fr 3 1 0 [1, 2])
     let f : FlorynFrame := x.frame
     let hears : Prop := s.forwards = true ∧ s.portOn x.chanB x.port2 = true ∧ s.pgEn 64 = true ∧ s.pgEn (65 + x.chanB.toNat) = true
     let valid : ℕ → Prop := fun typ => hears ∧ x.fcsOk = true ∧ s.formatOk typ x = true
     valid 3 ∧ f.slot < 254 ∧ s.fbc.closed = true) ∧
    (let s : State := mst (lnk 4 (up 3))
     let x : FlorynRx := rx (fr 3 254 0 (refp 10))
     let stamp : ℕ := 244
     let f : FlorynFrame := x.frame
     let hears : Prop := s.forwards = true ∧ s.portOn x.chanB x.port2 = true ∧ s.pgEn 64 = true ∧ s.pgEn (65 + x.chanB.toNat) = true
     let valid : ℕ → Prop := fun typ => hears ∧ x.fcsOk = true ∧ s.formatOk typ x = true
     let off : ℤ := ↑stamp - 64 - ↑(f.aux.toNat / 1000) - ↑(s.linkDelayOf x.chanB x.port2) - ↑(8 * ofBytes (List.take 8 f.payload))
     valid 1 ∧ s.on R.FBC_SYNC_ACTING = false ∧ s.fbc.ref = none ∧ s.syncState = 4 ∧ off.natAbs ≤ 200) ∧
    (let s : State := fb (lnk 4 (up 3)) { grants := [{ node := 3, first := 0, count := 5 }], acq := [q0] }
     let x : FlorynRx := rx (fr 3 255 1 (toBytes 4 327683 ++ [9, 0, 0, 0, 1, 2]))
     let dest : ℕ := 251
     let q : AcqReq := q0
     let f : FlorynFrame := x.frame
     let hears : Prop := s.forwards = true ∧ s.portOn x.chanB x.port2 = true ∧ s.pgEn 64 = true ∧ s.pgEn (65 + x.chanB.toNat) = true
     let valid : ℕ → Prop := fun typ => hears ∧ x.fcsOk = true ∧ s.formatOk typ x = true
     let w : Word := BitVec.ofNat 32 (ofBytes (List.take 4 f.payload))
     valid 6 ∧ dest = s.ownAddr ∧ bitsOf w 7 0 = 3 ∧ s.pair.swap ≠ 2 ∧ s.fbc.mgmt = [] ∧ s.fbc.dynSeen = [] ∧
     List.find? (fun y => y.sent && decide (y.id = bitsOf w 31 16)) s.fbc.acq = some q) ∧
    (let s : State := mst (lnk 5 (up 3))
     let x : FlorynRx := rx (fr 3 254 0 (refp 10))
     let hears : Prop := s.forwards = true ∧ s.portOn x.chanB x.port2 = true ∧ s.pgEn 64 = true ∧ s.pgEn (65 + x.chanB.toNat) = true
     let valid : ℕ → Prop := fun typ => hears ∧ x.fcsOk = true ∧ s.formatOk typ x = true
     valid 1 ∧ s.on R.FBC_SYNC_ACTING = false ∧ s.fbc.ref = none ∧ s.syncState = 5) ∧
    (let s : State := mst (lnk 2 (up 3))
     let x : FlorynRx := rx (fr 3 254 0 (refp 10))
     let stamp : ℕ := 2440
     let f : FlorynFrame := x.frame
     let hears : Prop := s.forwards = true ∧ s.portOn x.chanB x.port2 = true ∧ s.pgEn 64 = true ∧ s.pgEn (65 + x.chanB.toNat) = true
     let valid : ℕ → Prop := fun typ => hears ∧ x.fcsOk = true ∧ s.formatOk typ x = true
     let off : ℤ := ↑stamp - 64 - ↑(f.aux.toNat / 1000) - ↑(s.linkDelayOf x.chanB x.port2) - ↑(8 * ofBytes (List.take 8 f.payload))
     valid 1 ∧ s.on R.FBC_SYNC_ACTING = false ∧ s.fbc.ref = none ∧ s.syncState = 2 ∧ 1000 < off.natAbs) ∧
    (let s : State := fb (mst (lnk 2 (up 3))) { aligned := 7 }
     let x : FlorynRx := rx (fr 3 254 0 (refp 10))
     let stamp : ℕ := 174
     let f : FlorynFrame := x.frame
     let hears : Prop := s.forwards = true ∧ s.portOn x.chanB x.port2 = true ∧ s.pgEn 64 = true ∧ s.pgEn (65 + x.chanB.toNat) = true
     let valid : ℕ → Prop := fun typ => hears ∧ x.fcsOk = true ∧ s.formatOk typ x = true
     let off : ℤ := ↑stamp - 64 - ↑(f.aux.toNat / 1000) - ↑(s.linkDelayOf x.chanB x.port2) - ↑(8 * ofBytes (List.take 8 f.payload))
     valid 1 ∧ s.on R.FBC_SYNC_ACTING = false ∧ s.fbc.ref = none ∧ s.syncState = 2 ∧ off.natAbs ≤ 50 ∧ 7 ≤ s.fbc.aligned) ∧
    (let s : State := (lnk 4 (up 4)).wr R.SYS_STRAP_ROLE 1
     let x : FlorynRx := rx (fr 252 255 1 (toBytes 4 1049093))
     let f : FlorynFrame := x.frame
     let hears : Prop := s.forwards = true ∧ s.portOn x.chanB x.port2 = true ∧ s.pgEn 64 = true ∧ s.pgEn (65 + x.chanB.toNat) = true
     let valid : ℕ → Prop := fun typ => hears ∧ x.fcsOk = true ∧ s.formatOk typ x = true
     valid 5 ∧ s.dynMaster = false ∧ f.aux = s.reg R.FBC_STROKE + 1 ∧ f.len / 4 = 1) := by
  refine ⟨?_, ?_, ?_, ?_, ?_, ?_, ?_, ?_, ?_, ?_, ?_⟩ <;> decide +kernel

theorem witness_FlorynRolesConfigurationAndRequests :
    (let s : State := (mst (lnk 5 (up 3))).wr (linkFld false false) 1
     let r : Req := Req.host
     let chanB : Bool := false
     let port2 : Bool := false
     let k : ℕ := 1
     s.syncState ≠ 0 ∧ s.on R.FBC_SYNC_ACTING = false ∧ s.ownRank = some k ∧ s.compat liveBank = false ∧ s.syncState = 5 ∧
     s.on (linkFld chanB port2) = true ∧ s.accepts r R.FBC_APPLY) ∧
    (let s : State := acw (up 3) [{ chanB := false, port2 := false, addr := 3, rpt := 1, delay := 50 }]
     let r : Req := Req.host
     let req : AcqReq := { id := s.fbc.nextReq, bank := s.bank r, task := s.taskOf r, dest := s.rd (s.bf r R.FBC_ACQ_DEST_DEST), service := s.rd (s.bf r R.FBC_ACQ_DEST_SERVICE), index := s.rd (s.bf r R.FBC_ACQ_INDEX_INDEX), data := s.acqWdata (s.bank r), sent := false }
     s.accepts r R.FBC_ACQ_CMD ∧ (s.mode = 2 ∨ s.mode = 3) ∧ (s.paired = false ∨ s.pairState = 1) ∧
     req.data.length = s.rd (s.bf r R.FBC_ACQ_LEN_LEN) ∧ s.fbc.acq.length < 64 ∧ s.ledgerFree LedgerKind.acq = true ∧
     s.rd R.FBC_DYNCFG_MINISLOTS.live ≠ 0 ∧ s.anyWorking = true ∧ (s.fbc.nodes.any fun y => decide (y.addr = req.dest)) = true) ∧
    (let s : State := acw (up 3) [{ chanB := false, port2 := false, addr := 3, rpt := 1, delay := 50 }]
     let r : Req := Req.host
     let res : AcqRes := res0
     let n : ℕ := SMap.get (fun x => 0) s.fbc.taken (s.bank r)
     let id : ℕ := 5
     let q : AcqReq := q0
     List.find? (fun y => decide (y.id = id)) s.fbc.acq = some q ∧ q.sent = true ∧ s.answers r R.FBC_ACQ_RDATA ∧
     s.acqResult r = some res ∧ 4 ≤ (List.drop n res.data).length) ∧
    (let s : State := fb (mst (lnk 5 (((up 3).wr R.FBC_SYNC_ACTING 1).wr R.CLK_STAT_LOCK 1))) { readyRun := [(0, 64)] }
     let chanB : Bool := false
     let port2 : Bool := false
     let m : ℕ × ℕ × ℕ := (0, 3, 1)
     s.on R.FBC_SYNC_ACTING = true ∧ s.fbc.handover = none ∧
     List.find? (fun m => decide (m.1 < s.ownRank.getD 7) && decide (64 ≤ SMap.get (fun x => 0) s.fbc.readyRun m.1)) (s.masters liveBank) = some m ∧
     s.on (linkFld chanB port2) = false ∧ s.on R.CLK_STAT_LOCK = true) ∧
    (let s : State := mst (lnk 2 (up 3))
     (s.syncState = 1 ∨ s.syncState = 2)) ∧
    (let s : State := up 2
     let r : Req := Req.host
     let k : ℕ := 1
     let a : ℕ := 0
     s.accepts r R.FBC_APPLY ∧ s.mode = 2 ∧ s.umpire = false ∧ s.peerRuns = false ∧
     (s.rd R.FBC_CFGSTAT_STATE = 0 ∨ s.rd R.FBC_CFGSTAT_STATE = 3) ∧ s.cfgCheck 0 = some (k, a)) ∧
    (let s : State := stg1 (up 2)
     let r : Req := Req.host
     let u : State := (s.copyCfg 0 applyBank).wr R.FBC_CFGSTAT_STATE 1
     let stations : List ℕ := List.filter (fun i => decide (u.slotKind applyBank i = 2)) (u.ownedSlots applyBank)
     s.accepts r R.FBC_APPLY ∧ s.mode = 2 ∧ s.umpire = false ∧ s.peerRuns = false ∧
     (s.rd R.FBC_CFGSTAT_STATE = 0 ∨ s.rd R.FBC_CFGSTAT_STATE = 3) ∧ s.cfgCheck 0 = none ∧ s.compat 0 = false ∧ stations ≠ []) ∧
    (let s : State := stg0 (up 2)
     let r : Req := Req.host
     let u : State := (s.copyCfg 0 applyBank).wr R.FBC_CFGSTAT_STATE 1
     let stations : List ℕ := List.filter (fun i => decide (u.slotKind applyBank i = 2)) (u.ownedSlots applyBank)
     s.accepts r R.FBC_APPLY ∧ s.mode = 2 ∧ s.umpire = false ∧ s.peerRuns = false ∧
     (s.rd R.FBC_CFGSTAT_STATE = 0 ∨ s.rd R.FBC_CFGSTAT_STATE = 3) ∧ s.cfgCheck 0 = none ∧ stations = [] ∧
     u.lineCheck applyBank (u.chans applyBank) = none) ∧
    (let s : State := acw (up 3) []
     let r : Req := Req.host
     let req : AcqReq := { id := s.fbc.nextReq, bank := s.bank r, task := s.taskOf r, dest := s.rd (s.bf r R.FBC_ACQ_DEST_DEST), service := s.rd (s.bf r R.FBC_ACQ_DEST_SERVICE), index := s.rd (s.bf r R.FBC_ACQ_INDEX_INDEX), data := s.acqWdata (s.bank r), sent := false }
     s.accepts r R.FBC_ACQ_CMD ∧ (s.mode = 2 ∨ s.mode = 3) ∧ (s.paired = false ∨ s.pairState = 1) ∧
     req.data.length = s.rd (s.bf r R.FBC_ACQ_LEN_LEN) ∧ s.fbc.acq.length < 64 ∧ s.ledgerFree LedgerKind.acq = true ∧
     s.rd R.FBC_DYNCFG_MINISLOTS.live ≠ 0 ∧ s.anyWorking = true ∧
     (s.fbc.nodes.any fun y => decide (y.addr = req.dest)) = false) ∧
    (let s : State := fb (up 3) { acq := [q1] }
     let id : ℕ := 5
     let q : AcqReq := q1
     List.find? (fun y => decide (y.id = id)) s.fbc.acq = some q ∧ q.sent = false) ∧
    (let s : State := (pairUp 4 2 1).setCore 1 { fgRun := some { task := 1, scan := 0, qsnap := [], qbuf := [], runtask := false } }
     let r : Req := Req.core 1
     s.accepts r R.FBC_ACQ_CMD ∧ s.mode = 4 ∧ isCore r = true) := by
  refine ⟨?_, ?_, ?_, ?_, ?_, ?_, ?_, ?_, ?_, ?_, ?_⟩ <;> decide +kernel

end M

/-! ### The pair (05, 09) -/

namespace N

def pr (s : State) (p : PairState) : State := { s with pair := p }
def pl (mode st peer : Nat) : State := ((((((up mode).wr R.SYS_STRAP_ROLE 1).wr R.PAIR_STAT_STATE st).wr R.PAIR_STAT_PEER peer).wr R.PAIR_STAT_LINK 1).wr R.PAIR_LANES_INSERVICE 3)
def hb0 : HbInfo := ⟨2, true, [1], [1,2,3,4], []⟩
def ar : AdmRecord := ⟨0,[],[],0,[],[],[],[],false⟩
def od (pw : Option (Nat × Nat)) : OutDig := ⟨[],[],[],none,pw,none,none,some 7⟩
def rn : Run := ⟨1,0,[],[],false,false⟩
def wt (s : State) : State := s.setCore 1 { wait := some (3#5, 0x100, 9), fgRun := some rn }
def ed (s : State) (st : Nat) (e : EditState) : State := { s.wr R.EDIT_STAT_STATE st with edit := e }
def etx : EditTx := ⟨7,3,[1],[2],[]⟩

theorem witness_PairMessagesReceived :
    (let s : State := pr ((pl 4 2 1).wr R.PAIR_CFG_NOUMPIRE 1) { waits := [(ItemKind.acq, 3)], copyStart := some 6 }
     let id : ℕ := 3
     let kind : ItemKind := ItemKind.acq
     let h : PairHdr := { stroke := 0, epoch := 5 }
     let dig : OutDig := od (some (9, 3))
     let l : ℕ := 1
     let hears : Prop := s.paired = true ∧ s.pgEn 68 = true ∧ s.rd R.PAIR_LANES_INSERVICE ≠ 0 ∧ s.mode ≠ 0 ∧ s.mode ≠ 7 ∧ s.sys.latch = false
     let now : Prop := h.stroke = s.extStroke
     let p : ℕ := s.physOf l
     hears ∧ s.mode = 4 ∧ (s.core p).wait = none ∧ now ∧ dig.config = none ∧ dig.activation = none ∧ dig.snapshot = none ∧
     (s.pair.items.any fun i => decide (i.kind = kind) && decide (i.id = id)) = false) ∧
    (let s : State := pr ((pl 4 2 1).wr R.PAIR_CFG_NOUMPIRE 1) { waits := [(ItemKind.acq, 3)], copyStart := some 6 }
     let id : ℕ := 3
     let unit : ℕ := 0
     let epoch : ℕ := 7
     let a : ℕ := 9
     let hears : Prop := s.paired = true ∧ s.pgEn 68 = true ∧ s.rd R.PAIR_LANES_INSERVICE ≠ 0 ∧ s.mode ≠ 0 ∧ s.mode ≠ 7 ∧ s.sys.latch = false
     hears ∧ s.pair.copyStart ≠ none ∧ (a < qBase ∨ qBase + 32768 ≤ a) ∧ s.on R.PAIR_CFG_NOUMPIRE = true ∧
     unit % 2 = s.unitBit ∧ s.pairState = 2 ∧ epoch < 2 ^ 30 ∧ s.pair.waits.contains (ItemKind.acq, id) = true) ∧
    (let s : State := wt (pl 4 2 1)
     let l : ℕ := 1
     let addr : ℕ := 256
     let own : Word := 9
     let rd : BitVec 5 := 3
     let run : Run := rn
     let hears : Prop := s.paired = true ∧ s.pgEn 68 = true ∧ s.rd R.PAIR_LANES_INSERVICE ≠ 0 ∧ s.mode ≠ 0 ∧ s.mode ≠ 7 ∧ s.sys.latch = false
     let p : ℕ := s.physOf l
     let c : Fin 5 := 1
     let waitingFor : ℕ → Prop := fun n => (s.core n).wait = some (rd, addr, own) ∧ (s.core n).fgRun = some run ∧ (s.core n).halted = false ∧ (s.core n).failed = false ∧ s.sys.latch = false
     waitingFor ↑c ∧ hears ∧ s.mode = 4 ∧ waitingFor p) ∧
    (let s : State := pr (pl 4 2 1) { awaiting := true, fetching := true }
     let h : PairHdr := { stroke := 0, epoch := 5 }
     let x : Host.Cell := (5, 6)
     let hears : Prop := s.paired = true ∧ s.pgEn 68 = true ∧ s.rd R.PAIR_LANES_INSERVICE ≠ 0 ∧ s.mode ≠ 0 ∧ s.mode ≠ 7 ∧ s.sys.latch = false
     let now : Prop := h.stroke = s.extStroke
     hears ∧ s.following = true ∧ now ∧ s.pair.awaiting = true ∧ s.pair.fetching = true ∧ x.1 < 32768) ∧
    (let s : State := ed (pl 4 6 1) 3 { tx := some etx, written := true, mirrored := true }
     let tx : EditTx := etx
     let hears : Prop := s.paired = true ∧ s.pgEn 68 = true ∧ s.rd R.PAIR_LANES_INSERVICE ≠ 0 ∧ s.mode ≠ 0 ∧ s.mode ≠ 7 ∧ s.sys.latch = false
     hears ∧ s.edit.tx = some tx ∧ s.edit.agreed = none ∧ s.editSt = 3 ∧ s.edit.written = true ∧ 2 ≤ s.editSt) ∧
    (let s : State := let __src := pl 4 3 1;
{ pending := __src.pending, regs := __src.regs, tb := __src.tb, fresh := __src.fresh, mem := __src.mem, wire := __src.wire, evt := __src.evt, recorder := __src.recorder, sys := __src.sys, exec := { looping := true }, prog := __src.prog, memory := __src.memory, cox := __src.cox, force := __src.force, pwr := __src.pwr, edit := __src.edit, loop := __src.loop, clk := __src.clk, wdt := __src.wdt, rtc := __src.rtc, dio := __src.dio, panel := __src.panel, mbx := __src.mbx, spare := __src.spare, upd := __src.upd, sec := __src.sec, fbc := __src.fbc, pair := __src.pair, net := __src.net, radio := __src.radio, can := __src.can }
     let h : PairHdr := { stroke := 0, epoch := 5 }
     let rec' : AdmRecord := ar
     let hears : Prop := s.paired = true ∧ s.pgEn 68 = true ∧ s.rd R.PAIR_LANES_INSERVICE ≠ 0 ∧ s.mode ≠ 0 ∧ s.mode ≠ 7 ∧ s.sys.latch = false
     let now : Prop := h.stroke = s.extStroke
     hears ∧ s.mode = 4 ∧ now ∧ s.pairState = 3 ∧ rec'.delta = false ∧ s.pair.accepted = none ∧
     s.rd R.CLAIM_EPOCH_EPOCH ≤ h.epoch ∧ s.rd R.FBC_EPOCH_EH ≤ h.epoch ∧ s.pair.umpEpoch ≤ h.epoch) ∧
    (let s : State := let __src := pl 4 2 1;
{ pending := __src.pending, regs := __src.regs, tb := __src.tb, fresh := __src.fresh, mem := __src.mem, wire := __src.wire, evt := __src.evt, recorder := __src.recorder, sys := __src.sys, exec := { looping := true }, prog := __src.prog, memory := __src.memory, cox := __src.cox, force := __src.force, pwr := __src.pwr, edit := __src.edit, loop := __src.loop, clk := __src.clk, wdt := __src.wdt, rtc := __src.rtc, dio := __src.dio, panel := __src.panel, mbx := __src.mbx, spare := __src.spare, upd := __src.upd, sec := __src.sec, fbc := __src.fbc, pair := __src.pair, net := __src.net, radio := __src.radio, can := __src.can }
     let h : PairHdr := { stroke := 0, epoch := 5 }
     let rec' : AdmRecord := ar
     let hears : Prop := s.paired = true ∧ s.pgEn 68 = true ∧ s.rd R.PAIR_LANES_INSERVICE ≠ 0 ∧ s.mode ≠ 0 ∧ s.mode ≠ 7 ∧ s.sys.latch = false
     let now : Prop := h.stroke = s.extStroke
     hears ∧ s.mode = 4 ∧ now ∧ s.pairState ≠ 3 ∧ s.exec.looping = true ∧ rec'.delta = false) ∧
    (let s : State := pr ((pl 4 6 1).wr R.PAIR_CFG_NOUMPIRE 1) { waits := [(ItemKind.acq, 3)], copyStart := some 6 }
     let unit : ℕ := 1
     let hears : Prop := s.paired = true ∧ s.pgEn 68 = true ∧ s.rd R.PAIR_LANES_INSERVICE ≠ 0 ∧ s.mode ≠ 0 ∧ s.mode ≠ 7 ∧ s.sys.latch = false
     hears ∧ s.on R.PAIR_CFG_NOUMPIRE = true ∧ unit % 2 ≠ s.unitBit) := by
  refine ⟨?_, ?_, ?_, ?_, ?_, ?_, ?_, ?_⟩ <;> decide +kernel

theorem witness_PairLanesAndCopies :
    (let s : State := pr ((pl 2 4 1).wr R.PAIR_STAT_UMPIRE 1) { waits := [(ItemKind.acq, 1)], copyStart := some 6, hostWait := some (some 6) }
     let r : Req := Req.host
     let ln : Fin 4 := 1
     let lane : Fin 3 := 1
     let l : ℕ := ↑lane
     let failed : State → ℕ → Bool := fun t k => (t.rd R.PAIR_LANES_FAILED).testBit k
     let n : ℕ := SMap.get (fun x => 0) s.pair.resends l
     s.paired = true ∧ n ≠ 15 ∧ failed s l = false ∧ s.accepts r R.PAIR_CMD ∧ isCore r = false ∧ s.laneServes 2 = false ∧
     ↑ln ≤ 1 ∧ s.pair.copyStart ≠ none ∧ s.on R.PAIR_STAT_UMPIRE = true) ∧
    (let s : State := pr ((pl 2 4 1).wr R.PAIR_STAT_UMPIRE 1) { waits := [(ItemKind.acq, 1)], copyStart := some 6, hostWait := some (some 6) }
     let a : ℕ := 6
     s.pair.lagged = false ∧ s.pair.waits ≠ [] ∧ s.pair.hostWait = some (some a) ∧ s.reaches Req.host = true ∧
     s.sys.hpOut = true) ∧
    (let s : State := pr (((pl 2 6 1).wr R.PAIR_STAT_INTENT 1).wr R.SYS_PONTGT_MODE 3) { resends := [(1, 15)], peerConfig := ((pl 2 6 1).wr R.PAIR_CFG_LANESPARE 0).pairConfig }
     let r : Req := Req.host
     let mayCopy : Prop := s.mode = 2 ∧ s.pair.copyStart = none ∧ s.cfgBusy = false ∧ s.mbx.tripped = 0
     let lane : Fin 3 := 1
     let l : ℕ := ↑lane
     let n : ℕ := SMap.get (fun x => 0) s.pair.resends l
     let failed : State → ℕ → Bool := fun t k => (t.rd R.PAIR_LANES_FAILED).testBit k
     s.paired = true ∧ n = 15 ∧ failed s l = false ∧ s.accepts r R.PAIR_CMD ∧ isCore r = false ∧ mayCopy ∧
     s.resyncRefusal = 0 ∧ s.rd R.SYS_PONTGT_MODE = 3 ∧ s.on R.PAIR_STAT_INTENT = true) ∧
    (let s : State := (pl 2 4 1).wr R.PAIR_LANES_FAILED 7
     let lane : Fin 3 := 1
     let l : ℕ := ↑lane
     let failed : State → ℕ → Bool := fun t k => (t.rd R.PAIR_LANES_FAILED).testBit k
     let r : Req := Req.host
     let mayCopy : Prop := s.mode = 2 ∧ s.pair.copyStart = none ∧ s.cfgBusy = false ∧ s.mbx.tripped = 0
     s.paired = true ∧ s.accepts r R.PAIR_CMD ∧ isCore r = false ∧ mayCopy ∧ s.resyncRefusal ≠ 0 ∧ failed s l = true) := by
  refine ⟨?_, ?_, ?_, ?_⟩ <;> decide +kernel

end N

/-! ### Memories and the host's writes (01, 10, 18) -/

namespace O

def mm (s : State) (m : MemState) : State := { s with memory := m }

theorem witness_MemoriesAreReadAndRepaired :
    (let s : State := mm ((up 3).wr (R.MEM_BANK_ROWSFREE.off 64) 3) { rowCopy := [(16, 7)], bankCopy := some 15 }
     let page : ℕ := 256
     let slot : Fin 2 := 1
     let pg : ℕ := 33554432 + page % 8388608 / 256 * 256
     let off : ℕ := 70
     s.sys.latch = false ∧ s.memory.poison.contains (off / 32) = false ∧ s.memory.store = none ∧
     s.memory.weak.contains (↑slot, pg) = false ∧ s.pgEn 8 = true ∧ s.pgEn 9 = true ∧ s.pgEn 10 = true) ∧
    (let s : State := mm ((up 3).wr (R.MEM_BANK_ROWSFREE.off 64) 3) { rowCopy := [(16, 7)], bankCopy := some 15 }
     let b : ℕ := 15
     let bank : ℕ := 16
     let row : ℕ := 7
     let free : ℕ := s.rd (R.MEM_BANK_ROWSFREE.off (4 * bank))
     bank < 17 ∧ s.memory.rowCopy.contains (bank, row) = true ∧ 0 < free ∧ b < 16 ∧ s.memory.bankCopy = some b) := by
  refine ⟨?_, ?_⟩ <;> decide +kernel

theorem witness_HostWritesReachMemory :
    (let s : State := (up 2).wr R.RETAIN_STAT_RECALLED 1
     let start : BitVec 21 := 2031615
     let atOnce : Prop := s.mode = 2 ∨ s.mode = 6
     let sound : ℕ → Prop := fun base => s.memory.poison.contains (base / 32) = false
     s.reaches Req.host = true ∧ s.sys.hpOut = true ∧ s.recalled = true ∧ start.toNat < 2031616 ∧ s.standbyRefuses = false ∧
     sound (retainBase + 4 * start.toNat) ∧ atOnce) ∧
    (let s : State := (up 2).wr R.RETAIN_STAT_RECALLED 1
     let w : BitVec 22 := 1572864
     let a : ℕ := 18874368
     let atOnce : Prop := s.mode = 2 ∨ s.mode = 6
     let sound : ℕ → Prop := fun base => s.memory.poison.contains (base / 32) = false
     s.reaches Req.host = true ∧ s.sys.hpOut = true ∧ (w.toNat < 65536 ∨ 1048576 ≤ w.toNat) ∧ w.toNat < 2097152 ∧
     s.hostAddr (4 * w.toNat) = some a ∧ (areaOf a = Area.marks ∨ areaOf a = Area.instData) ∧ s.standbyRefuses = false ∧
     sound a ∧ atOnce) ∧
    (let s : State := (up 2).wr R.RETAIN_STAT_RECALLED 1
     let w : BitVec 22 := 1572864
     let a : ℕ := 18874368
     let sound : ℕ → Prop := fun base => s.memory.poison.contains (base / 32) = false
     s.reaches Req.host = true ∧ s.sys.hpOut = true ∧ (w.toNat < 65536 ∨ 1048576 ≤ w.toNat) ∧ w.toNat < 2097152 ∧
     s.hostAddr (4 * w.toNat) = some a ∧ areaOf a = Area.instData ∧ sound a ∧ s.imageAnswers = true) ∧
    (let s : State := (up 3).wr R.RETAIN_STAT_RECALLED 1
     let w : BitVec 22 := 5
     let a : ℕ := iBase + 20
     let start : BitVec 21 := 2031616
     s.reaches Req.host = true ∧ s.sys.hpOut = true ∧ s.recalled = true ∧ start.toNat = 2031616 ∧
     (w.toNat < 65536 ∨ 1048576 ≤ w.toNat) ∧ w.toNat < 2097152 ∧ s.hostAddr (4 * w.toNat) = some a ∧
     (areaOf a = Area.imageI ∨ areaOf a = Area.imageQ) ∧ s.imageAnswers = true) ∧
    (let s : State := (up 3).wr R.RETAIN_STAT_RECALLED 1
     let start : BitVec 21 := 2031615
     let sound : ℕ → Prop := fun base => s.memory.poison.contains (base / 32) = false
     s.reaches Req.host = true ∧ s.sys.hpOut = true ∧ s.recalled = true ∧ start.toNat < 2031616 ∧ s.standbyRefuses = false ∧
     sound (retainBase + 4 * start.toNat) ∧ s.mode = 3) ∧
    (let s : State := (up 3).wr R.RETAIN_STAT_RECALLED 1
     let w : BitVec 22 := 16384
     let a : ℕ := mBase
     let sound : ℕ → Prop := fun base => s.memory.poison.contains (base / 32) = false
     s.reaches Req.host = true ∧ s.sys.hpOut = true ∧ (w.toNat < 65536 ∨ 1048576 ≤ w.toNat) ∧ w.toNat < 2097152 ∧
     s.hostAddr (4 * w.toNat) = some a ∧ (areaOf a = Area.marks ∨ areaOf a = Area.instData) ∧ s.standbyRefuses = false ∧
     sound a ∧ s.mode = 3) ∧
    (let s : State := (up 3).wr R.RETAIN_STAT_RECALLED 1
     let w : BitVec 22 := 65536
     let p : BitVec 17 := 0
     s.reaches Req.host = true ∧ s.sys.hpOut = true ∧ w.toNat = 65536 + p.toNat) := by
  refine ⟨?_, ?_, ?_, ?_, ?_, ?_, ?_⟩ <;> decide +kernel

end O

/-! ### Register pages and events (00, 03) -/

namespace P

def qs (s : State) (src n : Nat) : State := s.setQueue src (List.replicate n ⟨7,src,false,5,3,4⟩)
def en (s : State) (src : Nat) : State := s.wr (R.EVT_SRCCFG_EN.off (4 * src)) 1
def cr (s : State) : State := s.setCore 1 { fgRun := some ⟨1,0,[],[],false,false⟩ }

theorem witness_PageHeaders :
    (let s : State := up 2
     let r : Req := Req.host
     let page : BitVec 7 := 114
     let bits : Word := 1
     let src : ℕ := ((bitEvents 114 0).getD 0 (0, 0)).1
     let code : ℕ := ((bitEvents 114 0).getD 0 (0, 0)).2
     let b : ℕ := 0
     let p : ℕ := page.toNat
     let may : ℕ → Prop := fun off => s.reaches r = true ∧ (r = Req.host → s.sys.hpOut = true) ∧ (hostSide r = true → pageAnswers s.mode p = true ∧ ¬((s.pairState = 2 ∨ s.pairState = 3) ∧ standbyClosed p = true)) ∧ (p = 18 → s.rd R.SYS_STRAP_ROLE = 0) ∧ mayWrite r p (hdr p off) = true ∧ (blockAt p).isSome = true
     may 24 ∧ s.mode ≠ 3 ∧ s.mode ≠ 4 ∧ b < 32 ∧ bits = BitVec.ofNat 32 (2 ^ b) ∧ bitEvents p b = [(src, code)] ∧ may 40 ∧
     s.locked p = false) ∧
    (let s : State := up 2
     let r : Req := Req.host
     let page : BitVec 7 := 114
     let p : ℕ := page.toNat
     let may : ℕ → Prop := fun off => s.reaches r = true ∧ (r = Req.host → s.sys.hpOut = true) ∧ (hostSide r = true → pageAnswers s.mode p = true ∧ ¬((s.pairState = 2 ∨ s.pairState = 3) ∧ standbyClosed p = true)) ∧ (p = 18 → s.rd R.SYS_STRAP_ROLE = 0) ∧ mayWrite r p (hdr p off) = true ∧ (blockAt p).isSome = true
     let plain : Prop := p = 8 ∨ p = 10 ∨ p = 12 ∨ p = 114
     may 8 ∧ s.locked p = false ∧ s.blockRefused (ctlPage p) = false ∧ plain) ∧
    (let s : State := up 2
     let r : Req := Req.host
     let page : BitVec 7 := 114
     let be : BitVec 4 := 7
     let w : BitVec 17 := 116800#17
     let p : ℕ := page.toNat
     r = Req.host ∧ s.reaches r = true ∧ s.sys.hpOut = true ∧ 4 * w.toNat / 4096 = p ∧ pageAnswers s.mode p = true ∧
     (blockAt p).isSome = true ∧ be ≠ 15) ∧
    (let s : State := up 3
     let r : Req := Req.host
     let w : BitVec 17 := BitVec.ofNat 17 (20736 / 4 + 255)
     let page : BitVec 7 := 4
     let p : ℕ := page.toNat
     let may : ℕ → Prop := fun off => s.reaches r = true ∧ (r = Req.host → s.sys.hpOut = true) ∧ (hostSide r = true → pageAnswers s.mode p = true ∧ ¬((s.pairState = 2 ∨ s.pairState = 3) ∧ standbyClosed p = true)) ∧ (p = 18 → s.rd R.SYS_STRAP_ROLE = 0) ∧ mayWrite r p (hdr p off) = true ∧ (blockAt p).isSome = true
     may 24 ∧ (s.mode = 3 ∨ s.mode = 4) ∧ may 8 ∧ s.locked p = false ∧ s.blockRefused (ctlPage p) = true ∧ p ≠ 0 ∧
     s.accepts r (4 * w.toNat) ∧ R.EVT_SRCCFG ≤ 4 * w.toNat ∧ 4 * w.toNat < R.EVT_SRCCFG + 1024) ∧
    (let s : State := up 2
     let r : Req := Req.host
     let page : BitVec 7 := 5
     let p : ℕ := page.toNat
     let may : ℕ → Prop := fun off => s.reaches r = true ∧ (r = Req.host → s.sys.hpOut = true) ∧ (hostSide r = true → pageAnswers s.mode p = true ∧ ¬((s.pairState = 2 ∨ s.pairState = 3) ∧ standbyClosed p = true)) ∧ (p = 18 → s.rd R.SYS_STRAP_ROLE = 0) ∧ mayWrite r p (hdr p off) = true ∧ (blockAt p).isSome = true
     may 8 ∧ s.locked p = false ∧ s.blockRefused (ctlPage p) = false ∧ (p = 4 ∨ p = 5)) ∧
    (let s : State := ((up 2).wr (lockFld 4) 1).wr (keyFld 4) 119
     let r : Req := Req.host
     let page : BitVec 7 := 5
     let key : BitVec 16 := 119
     let p : ℕ := page.toNat
     let may : ℕ → Prop := fun off => s.reaches r = true ∧ (r = Req.host → s.sys.hpOut = true) ∧ (hostSide r = true → pageAnswers s.mode p = true ∧ ¬((s.pairState = 2 ∨ s.pairState = 3) ∧ standbyClosed p = true)) ∧ (p = 18 → s.rd R.SYS_STRAP_ROLE = 0) ∧ mayWrite r p (hdr p off) = true ∧ (blockAt p).isSome = true
     may 40 ∧ s.locked p = true ∧ key ≠ 0 ∧ key.toNat = s.rd (keyFld p) ∧ s.on (lockoutFld p) = false) ∧
    (let s : State := ((up 2).wr (lockFld 4) 1).wr (keyFld 4) 120
     let r : Req := Req.host
     let page : BitVec 7 := 5
     let key : BitVec 16 := 119
     let p : ℕ := page.toNat
     let may : ℕ → Prop := fun off => s.reaches r = true ∧ (r = Req.host → s.sys.hpOut = true) ∧ (hostSide r = true → pageAnswers s.mode p = true ∧ ¬((s.pairState = 2 ∨ s.pairState = 3) ∧ standbyClosed p = true)) ∧ (p = 18 → s.rd R.SYS_STRAP_ROLE = 0) ∧ mayWrite r p (hdr p off) = true ∧ (blockAt p).isSome = true
     may 40 ∧ s.locked p = true ∧ (key = 0 ∨ key.toNat ≠ s.rd (keyFld p) ∨ s.on (lockoutFld p) = true)) := by
  refine ⟨?_, ?_, ?_, ?_, ?_, ?_, ?_⟩ <;> decide +kernel

theorem witness_EventsAreQueuedAndDelivered :
    (let s : State := (up 3).wr (R.EVT_SRCCFG_EN.off (4 * Ev.fbcHandover.source)) 0
     let cd : Cond := Ev.fbcHandover
     let roomy : ℕ → Prop := fun k => s.recorder.staged.length < 1024 ∨ k ≠ Ev.logDropped.source
     cd ∈ Ev.all ∧ s.pgEn cd.page = true ∧ roomy cd.source ∧ s.srcEn cd.source = false ∧ s.on cd.even = false) ∧
    (let s : State := (up 3).wr (R.EVT_SRCCFG_EN.off (4 * Ev.fbcHandover.source)) 0
     let r : Req := Req.host
     let port : Fin 4 := 0
     let a : ℕ := R.EVT_PHEAD + 16 * ↑port
     s.answers r a ∧ portReader r ↑port = true ∧ s.pgEn 4 = true ∧ ↑port ≠ 2 ∧ s.portNext ↑port = none) ∧
    (let s : State := qs (en ((up 3).wr Ev.fbcHandover.even 1) Ev.fbcHandover.source) Ev.fbcHandover.source 64
     let cd : Cond := Ev.fbcHandover
     let roomy : ℕ → Prop := fun k => s.recorder.staged.length < 1024 ∨ k ≠ Ev.logDropped.source
     cd ∈ Ev.all ∧ s.pgEn cd.page = true ∧ roomy cd.source ∧ s.on cd.even = true ∧ s.srcEn cd.source = true ∧
     s.pgEn 4 = true ∧ 64 ≤ (s.queue cd.source).length) ∧
    (let s : State := en ((up 3).wr Ev.fbcHandover.even 1) Ev.fbcHandover.source
     let cd : Cond := Ev.fbcHandover
     let roomy : ℕ → Prop := fun k => s.recorder.staged.length < 1024 ∨ k ≠ Ev.logDropped.source
     cd ∈ Ev.all ∧ s.pgEn cd.page = true ∧ roomy cd.source ∧ s.on cd.even = true ∧ s.srcEn cd.source = true ∧
     s.pgEn 4 = true ∧ (s.queue cd.source).length < 64) ∧
    (let s : State := (up 3).setReg (hdr 64 8) 0
     let cd : Cond := Ev.fbcHandover
     cd ∈ Ev.all ∧ s.pgEn cd.page = false) ∧
    (let s : State := cr ((up 3).wr (R.EVT_SRCCFG_EN.off 1020) 0)
     let source : BitVec 8 := 255
     let code : BitVec 7 := 127
     let c : Fin 5 := 1
     let k : ℕ := source.toNat
     s.accepts (Req.core c) R.EVT_RAISE ∧ 240 ≤ k ∧ code ≠ 0 ∧ s.srcEn k = false) ∧
    (let s : State := cr (en (up 3) 255)
     let source : BitVec 8 := 255
     let code : BitVec 7 := 127
     let c : Fin 5 := 1
     let k : ℕ := source.toNat
     s.accepts (Req.core c) R.EVT_RAISE ∧ 240 ≤ k ∧ code ≠ 0 ∧ s.srcEn k = true ∧ (s.queue k).length < 64) ∧
    (let s : State := qs (cr (en (up 3) 255)) 255 64
     let source : BitVec 8 := 255
     let code : BitVec 7 := 127
     let c : Fin 5 := 1
     let k : ℕ := source.toNat
     s.accepts (Req.core c) R.EVT_RAISE ∧ 240 ≤ k ∧ code ≠ 0 ∧ s.srcEn k = true ∧ 64 ≤ (s.queue k).length) ∧
    (let s : State := qs ((up 3).wr (R.EVT_SRCCFG_PRIO.off 1020) 3) 255 1
     let r : Req := Req.host
     let port : Fin 4 := 3
     let src : ℕ := 255
     let e : EvEntry := { seq := 7, source := 255, forced := false, code := 5, stamp := 3, data := 4 }
     let es : List EvEntry := []
     let a : ℕ := R.EVT_PHEAD + 16 * ↑port
     s.answers r a ∧ portReader r ↑port = true ∧ s.pgEn 4 = true ∧ ↑port ≠ 2 ∧ s.nextSource (↑port) 3 = some src ∧
     s.queue src = e :: es) := by
  refine ⟨?_, ?_, ?_, ?_, ?_, ?_, ?_, ?_, ?_⟩ <;> decide +kernel

end P

namespace Q

/-! ### The whole machine -/

theorem witness_StepRunsFrontCommand : ({ up 2 with pending := [.strokeStart, .oscStop] } : State).pending = [.strokeStart, .oscStop] ∧
    State.reset.pending = [] := by decide +kernel

theorem witness_StepTakesOneCommand : step { up 2 with pending := [.oscStop] } = exec .oscStop (up 2) := rfl

theorem witness_CanonicalFormIsKept :
    (up 3).canonical ∧ step { up 3 with pending := [.huready] } = .next ((up 3).wr R.RETAIN_STAT_HUREADY 1) := by
  refine ⟨by decide +kernel, ?_⟩
  rfl

theorem witness_CommandsChangeTheirPartsAlone :
    exec .huready (up 3) = .next ((up 3).wr R.RETAIN_STAT_HUREADY 1) ∧ Part.mem ∉ partsOf .huready := by
  refine ⟨rfl, by decide⟩

end Q

/-! ### Task entries (04) -/

namespace S

def bad (s : State) : State := s.setReg (R.EXEC_TCFG0 + 16 * 5) 0
def crs (s : State) (m : Nat) : State := s.setCore 1 { fgRun := some ⟨m,0,[],[],false,false⟩ }

theorem witness_TaskEntriesAreRefused :
    (let s : State := up 3
     let r : Req := Req.host
     let task : BitVec 6 := 5
     let cfg0 : ℕ := R.EXEC_TCFG0 + 16 * task.toNat
     s.accepts r cfg0 ∧ s.mode ≠ 2) ∧
    (let s : State := up 2
     let r : Req := Req.host
     let task : BitVec 6 := 5
     let v : Word := 65537
     let cfg0 : ℕ := R.EXEC_TCFG0 + 16 * task.toNat
     let cfg1 : ℕ := R.EXEC_TCFG1 + 16 * task.toNat
     let bad0 : Word → Prop := fun x => bitsOf x 31 16 = 0 ∨ bitsOf x 31 16 ≤ bitsOf x 15 0
     let bad1 : Word → Prop := fun x => bitsOf x 5 4 = 3 ∨ bitsOf x 13 12 = 2 ∨ bitsOf x 13 12 = 3 ∨ bitsOf x 17 16 = 3
     s.accepts r cfg0 ∧ s.mode = 2 ∧ (bad0 v ∨ bad1 (s.reg cfg1)) ∧ (¬bad0 (s.reg cfg0)) ∧ (¬bad1 v)) ∧
    (let s : State := up 2
     let r : Req := Req.host
     let task : BitVec 6 := 63
     let v : Word := 205072
     let cfg0 : ℕ := R.EXEC_TCFG0 + 16 * task.toNat
     let bad0 : Word → Prop := fun x => bitsOf x 31 16 = 0 ∨ bitsOf x 31 16 ≤ bitsOf x 15 0
     let bad1 : Word → Prop := fun x => bitsOf x 5 4 = 3 ∨ bitsOf x 13 12 = 2 ∨ bitsOf x 13 12 = 3 ∨ bitsOf x 17 16 = 3
     s.accepts r cfg0 ∧ s.mode = 2 ∧ (bad0 (s.reg cfg0) ∨ bad1 v)) ∧
    (let s : State := up 2
     let r : Req := Req.host
     let task : BitVec 6 := 5
     let v : Word := 131073
     let cfg0 : ℕ := R.EXEC_TCFG0 + 16 * task.toNat
     let cfg1 : ℕ := R.EXEC_TCFG1 + 16 * task.toNat
     let bad0 : Word → Prop := fun x => bitsOf x 31 16 = 0 ∨ bitsOf x 31 16 ≤ bitsOf x 15 0
     let bad1 : Word → Prop := fun x => bitsOf x 5 4 = 3 ∨ bitsOf x 13 12 = 2 ∨ bitsOf x 13 12 = 3 ∨ bitsOf x 17 16 = 3
     s.accepts r cfg0 ∧ s.mode = 2 ∧ (¬bad0 v) ∧ (¬bad1 (s.reg cfg1))) := by
  refine ⟨?_, ?_, ?_, ?_⟩ <;> decide +kernel

end S

end Sys2Proof.Tests
end

section
/-!
What a refused access to a register page leaves as it was, whoever made it (03 R106, 04 R153 to R156,
18 R565).
-/

namespace Sys2Proof.Machine

/-- The registers that what follows a refused access may write: those of an event, EXEC_FLTINFO and its companions, the TSTAT
words of the task entries, and the host port's page. -/
def refusalReg (a : Nat) : Bool :=
  evtReg a || decide ((0x10120 ≤ a ∧ a < 0x10130) ∨ (0x1014C ≤ a ∧ a % 16 = 12) ∨ a / 0x1000 = 0x72)

theorem evtReg_of_refusalReg {a : Nat} (h : refusalReg a = false) : evtReg a = false :=
  (Bool.or_eq_false_iff.1 h).1

theorem refusalReg_tstat (n : Nat) : refusalReg (taskFld R.EXEC_TSTAT_FAULTS n).addr = true := by
  rw [refusalReg, Bool.or_eq_true, decide_eq_true_eq]
  simp only [taskFld, Fld.off, R.EXEC_TSTAT_FAULTS]
  omega

/-- No page captures anything when an access to a whole register faults: its page has captured the access before. -/
theorem State.pageFault_access (s : State) (c a : Nat) : s.pageFault c (.access a) = s := by
  rw [State.pageFault, if_neg (by simp [Flt.access]), if_neg (by simp [Flt.access])]

/-- From s to t memory, a reset asked for and every register outside `refusalReg` are kept. -/
structure RefusalKeeps (s t : State) : Prop where
  mem : t.mem = s.mem
  resetDue : t.sys.resetDue = s.sys.resetDue
  reg : ∀ a, refusalReg a = false → t.reg a = s.reg a

namespace RefusalKeeps

variable {s t u : State}

theorem refl (s : State) : RefusalKeeps s s := ⟨rfl, rfl, fun _ _ => rfl⟩

/-- An update behind the registers. -/
theorem behind (h : RefusalKeeps s t) (hm : u.mem = t.mem) (hd : u.sys.resetDue = t.sys.resetDue) (hr : u.regs = t.regs) :
    RefusalKeeps s u :=
  ⟨hm.trans h.mem, hd.trans h.resetDue, fun a ha => by rw [← h.reg a ha, State.reg, hr, State.reg]⟩

theorem ite {c : Prop} [Decidable c] (h : RefusalKeeps s t) (g : RefusalKeeps s u) :
    RefusalKeeps s (if c then t else u) := by split <;> assumption

/-! ### Registers and events -/

theorem setReg (h : RefusalKeeps s t) {a : Nat} {w : Word} (ha : refusalReg a = true := by decide) :
    RefusalKeeps s (t.setReg a w) :=
  ⟨h.mem, h.resetDue, fun b hb => (t.reg_setReg_ne w fun e => by simp [e, ha] at hb).trans (h.reg b hb)⟩

theorem wr (h : RefusalKeeps s t) {f : Fld} {v : Nat} (hf : refusalReg f.addr = true := by decide) :
    RefusalKeeps s (t.wr f v) := h.setReg hf

theorem inc (h : RefusalKeeps s t) {f : Fld} (hf : refusalReg f.addr = true := by decide) : RefusalKeeps s (t.inc f) :=
  ite (h.wr hf) h

theorem raise (h : RefusalKeeps s t) {c : Cond} {d : Nat} (hc : c.source < 256 := by decide) :
    RefusalKeeps s (t.raise c d) :=
  ⟨by simp [h.mem], by simp [h.resetDue], fun a ha =>
    (t.reg_raise d [] 0 hc (evtReg_of_refusalReg ha)).trans (h.reg a ha)⟩

theorem out (h : RefusalKeeps s t) {w : Wire} : RefusalKeeps s (t.out w) := h.behind rfl rfl rfl

theorem setExec (h : RefusalKeeps s t) {x : ExecState} : RefusalKeeps s { t with exec := x } := h.behind rfl rfl rfl

theorem setCore (h : RefusalKeeps s t) {c : Nat} {k : CoreSt} : RefusalKeeps s (t.setCore c k) := h.setExec

/-! ### The end of an execution and of its acyclic requests -/

theorem sendDelta (h : RefusalKeeps s t) {q : List EvEntry} {l : List (Nat × Nat × Nat)} :
    RefusalKeeps s (t.sendDelta q l) := ite h.out h

theorem mirror (h : RefusalKeeps s t) {k : ItemKind} {n : Nat} {p : MirrorPhase} : RefusalKeeps s (t.mirror k n p) :=
  ite h.out h

theorem acqEnd (h : RefusalKeeps s t) {q : AcqReq} {o r n : Nat} {l : List Byte} : RefusalKeeps s (t.acqEnd q o r n l) := by
  have ended {x : FbcState} : RefusalKeeps s (({ t with fbc := x }.ledgerDrop .acq 0 q.id).mirrorForget .acq q.id) :=
    h.behind rfl rfl rfl
  exact ite ended.mirror.raise.raise ended.mirror.raise

theorem acqFail (h : RefusalKeeps s t) {which : AcqReq → Bool} {r : Nat} : RefusalKeeps s (t.acqFail which r) := by
  unfold State.acqFail
  induction t.fbc.acq.filter which generalizing t with
  | nil => exact h
  | cons q l ih => exact ih h.acqEnd

theorem endB (h : RefusalKeeps s t) {c : Nat} {r : Run} {fault : Nat} : RefusalKeeps s (t.endB c r fault) := by
  have noted {x : CoxState} : RefusalKeeps s { t with cox := x } := h.behind rfl rfl rfl
  exact noted.setCore.sendDelta

theorem resumeB (h : RefusalKeeps s t) {c : Nat} : RefusalKeeps s (t.resumeB c) := ite h.setCore h

theorem finishRun (h : RefusalKeeps s t) {c : Nat} {bgd : Bool} {r : Run} {fault : Nat} :
    RefusalKeeps s (t.finishRun c bgd r fault) := by
  have dropped : ∀ k, RefusalKeeps s ((if bgd then t.endB c r fault else t).setCore c k) := fun _ => (ite h.endB h).setCore
  refine resumeB (ite ?_ ?_)
  · exact (dropped _).raise (by decide : 15 < 256)
  · exact (dropped _).setExec

/-! ### A refused access -/

theorem captureFault (h : RefusalKeeps s t) {l : Nat} {r : Run} {pc : Word} {f : Flt} :
    RefusalKeeps s (t.captureFault l r pc f) := ite h.wr h.setReg.setReg.setReg.setReg

/-- The fault of a core's refused access. -/
theorem taskFault_access (s : State) (c : Nat) (bgd : Bool) (r : Run) (pc : Word) (a : Nat) :
    RefusalKeeps s (s.taskFault c bgd r pc (.access a)) := by
  have ended := ((refl s).captureFault (l := (s.lcoreOf c).getD 0) (r := r) (pc := pc) (f := .access a)).raise
    (c := Ev.execTaskFault) (d := 2 * 0x10000 + (s.lcoreOf c).getD 0 * 0x100 + r.task % 64)
  have ended := ((ended.inc (refusalReg_tstat r.task)).finishRun (c := c) (bgd := bgd) (r := r) (fault := 2)).acqFail
    (which := fun q => q.task = some r.task) (r := 9)
  unfold State.taskFault
  rw [State.pageFault_access]
  dsimp only
  split
  · exact raise (ite ended ended.setExec)
  · exact ended.behind rfl rfl rfl
  · exact ended

theorem hostFail (s : State) (n a : Nat) (w : Bool) : RefusalKeeps s (s.hostFail n a w) := by
  have counted : RefusalKeeps s (s.inc R.HOST_ERRCNT_COUNT) := (refl s).inc
  unfold State.hostFail
  exact out (ite (raise (ite counted.wr counted.setReg.setReg)) (ite counted.wr counted.setReg.setReg))

/-- What a refused write does beside its page's capture. -/
theorem accFails (s : State) (r : Req) (a : Nat) (e : PgErr) : RefusalKeeps s (s.accFails r a true (.pg e)) := by
  cases r with
  | host => exact hostFail s _ _ _
  | core c =>
    simp only [State.accFails]
    split
    · exact taskFault_access s _ _ _ _ _
    · exact refl s
  | mgmt n => exact refl s
  | marshal => exact refl s
  | pairLink => exact refl s

end RefusalKeeps

end Sys2Proof.Machine
end

section
/-!
A write that its page's rule refuses is captured in PG_ERR and changes no register that the refusal does
not itself write (03 R106).
-/

namespace Sys2Proof.Machine

/-- What a page takes of one register's writes it takes of another's in the same page: the requester rule names PWR_CMD alone. -/
theorem State.accepts_samePage {s : State} {r : Req} {a b : Nat} (h : s.accepts r a) (hp : b / 0x1000 = a / 0x1000)
    (hb : b ≠ R.PWR_CMD) : s.accepts r b := by
  obtain ⟨hreach, hheld, hhost, hforce, hmay, hen, hlock⟩ := h
  refine ⟨hreach, hheld, hp ▸ hhost, hp ▸ hforce, ?_, hp ▸ hen, hp ▸ hlock⟩
  unfold mayWrite at hmay ⊢
  rw [hp, if_neg hb]
  split
  · rwa [if_pos (by assumption)] at hmay
  · rw [if_neg (by assumption)] at hmay
    split
    · rwa [if_pos (by assumption)] at hmay
    · rfl

/-- The first refused access since PG_ERR was clear is the one captured (R106). -/
theorem State.reg_capture_first {s : State} {p : Nat} (o : Nat) (r : Req) (e : PgErr) (h : s.on ⟨hdr p 0x01C, 31, 31⟩ = false) :
    (s.capture p o r e).reg (hdr p 0x01C) =
      BitVec.ofNat 32 (0x80000000 + e.code * 0x1000000 + reqCode r * 0x10000 + o % 0x1000) := by
  unfold State.capture
  simp only [h]
  exact State.reg_setReg_same _ _ _

section Refused

variable {s : State} {r : Req} {a : Nat} {v : Word} {e : PgErr}

theorem State.regWrite_of_refused (h : s.accepts r a) (ha : a < 0x100000) (hr : (regSpec? a).isSome = true)
    (ho : 0x100 ≤ a % 0x1000) (hb : s.blockWrite r a v = (some e, s)) :
    s.regWrite r a v 15 = (some (.pg e), s.capture (a / 0x1000) (a % 0x1000) r e) := by
  have ⟨_, _, hhost, _⟩ := h
  have hpage : ¬ (hostSide r && !pageAnswers s.mode (a / 0x1000)) = true := by
    by_cases hh : hostSide r = true
    · simp [(hhost hh).1]
    · simp [hh]
  unfold State.regWrite
  simp only [if_neg hpage, blockAt_of_regSpec ha hr, State.pageWrite_of_accepts h hr ho, hb]
  simp

/-- A refused write leaves its page's capture and what else a refusal does, and no reset is due by it. -/
theorem State.cmdWrite_of_refused (h : s.accepts r a) (ha : a < 0x100000) (hr : (regSpec? a).isSome = true)
    (ho : 0x100 ≤ a % 0x1000) (hb : s.blockWrite r a v = (some e, s)) :
    s.cmdWrite r a v = (s.capture (a / 0x1000) (a % 0x1000) r e).accFails r a true (.pg e) := by
  have ⟨hreach, hheld, _⟩ := h
  have hd := (RefusalKeeps.accFails (s.capture (a / 0x1000) (a % 0x1000) r e) r a e).resetDue
  rw [State.capture_sys] at hd
  unfold State.cmdWrite
  rw [if_neg (by simp [hreach]), if_neg ?_, State.regWrite_of_refused h ha hr ho hb]
  · show s.settle _ = _
    unfold State.settle
    rw [hd]
    split
    · rfl
    · rw [if_pos (by assumption)]
  · by_cases hh : r = .host
    · simp [hheld hh]
    · simp [hh]

end Refused

end Sys2Proof.Machine
end

section
/-!
The EXEC page's rule for the task entries and the task enables (04 R133, R134), and the settled statement.
-/

namespace Sys2Proof.Machine

/-! ### The registers of a task entry -/

/-- The rows of EXEC_TCFG0 and EXEC_TCFG1 in the EXEC page's table. -/
def tcfg0Spec : RegSpec := ⟨0x140, 64, 16, 0xffffffff, 0, 0x10000, false, false⟩
def tcfg1Spec : RegSpec := ⟨0x144, 64, 16, 0xff033330, 0, 0, false, false⟩

theorem regSpec_tcfg0 {k : Nat} (hk : k < 64) : regSpec? (R.EXEC_TCFG0 + 16 * k) = some (tcfg0Spec, k) := by
  decide +revert

theorem regSpec_tcfg1 {k : Nat} (hk : k < 64) : regSpec? (R.EXEC_TCFG1 + 16 * k) = some (tcfg1Spec, k) := by
  decide +revert

theorem and_allOnes_word (w : Word) : w &&& 0xFFFFFFFF#32 = w := BitVec.and_allOnes

/-- What EXEC_TCFG1 holds after a write: its fields are the written word's, the bits outside them are kept. -/
def tcfg1Written (old v : Word) : Word := old &&& ~~~0xFF033330#32 ||| v &&& 0xFF033330#32

/-- Every bit of EXEC_TCFG0 is writable. -/
theorem writeBits_tcfg0 (old v : Word) : writeBits tcfg0Spec old v = v := by
  simp [writeBits, tcfg0Spec, and_allOnes_word]

theorem writeBits_tcfg1 (old v : Word) : writeBits tcfg1Spec old v = tcfg1Written old v := by
  simp [writeBits, tcfg1Spec, tcfg1Written, and_allOnes_word]

theorem State.plainWrite_tcfg0 (s : State) {k : Nat} (hk : k < 64) (v : Word) :
    s.plainWrite (R.EXEC_TCFG0 + 16 * k) v = s.setReg (R.EXEC_TCFG0 + 16 * k) v := by
  simp only [State.plainWrite, regSpec_tcfg0 hk, writeBits_tcfg0]

theorem State.plainWrite_tcfg1 (s : State) {k : Nat} (hk : k < 64) (v : Word) :
    s.plainWrite (R.EXEC_TCFG1 + 16 * k) v = s.setReg (R.EXEC_TCFG1 + 16 * k)
      (tcfg1Written (s.reg (R.EXEC_TCFG1 + 16 * k)) v) := by
  simp only [State.plainWrite, regSpec_tcfg1 hk, writeBits_tcfg1]

/-! ### What R134 refuses -/

/-- An EXEC_TCFG0 with period 0 or a phase not below the period. -/
abbrev periodPhaseBad (x : Word) : Prop := bitsOf x 31 16 = 0 ∨ bitsOf x 31 16 ≤ bitsOf x 15 0

/-- An EXEC_TCFG1 with class 0b11, trigger 0b10 or 0b11, or fault action 0b11. -/
abbrev kindBad (x : Word) : Prop := bitsOf x 5 4 = 3 ∨ bitsOf x 13 12 = 2 ∨ bitsOf x 13 12 = 3 ∨ bitsOf x 17 16 = 3

theorem taskCfgOk_eq (x y : Word) : taskCfgOk x y = !decide (periodPhaseBad x ∨ kindBad y) := by
  have ht : bitsOf y 13 12 < 4 := Nat.mod_lt _ (by decide)
  rw [Bool.eq_iff_iff]
  simp only [taskCfgOk, Bool.and_eq_true, decide_eq_true_eq, Bool.not_eq_true', decide_eq_false_iff_not]
  omega

/-- A field that a write mask holds whole is the written word's. -/
theorem bitsOf_merge (old v m : Word) (hi lo : Nat) (hm : ∀ i < hi + 1 - lo, m.getLsbD (lo + i) = true) :
    bitsOf (old &&& ~~~m ||| v &&& m) hi lo = bitsOf v hi lo := by
  apply Nat.eq_of_testBit_eq
  intro i
  rw [bitsOf_testBit, bitsOf_testBit]
  by_cases hi' : i < hi + 1 - lo
  · simp [hm i hi']
  · simp [hi']

/-- What EXEC_TCFG1 held before does not bear on R134. -/
theorem kindBad_tcfg1Written (old v : Word) : kindBad (tcfg1Written old v) ↔ kindBad v := by
  unfold kindBad tcfg1Written
  rw [bitsOf_merge _ _ _ 5 4 (by decide), bitsOf_merge _ _ _ 13 12 (by decide), bitsOf_merge _ _ _ 17 16 (by decide)]

/-! ### The EXEC page's rule -/

theorem State.blockWrite_exec {s : State} {r : Req} {a : Nat} {v : Word} (h : a / 0x1000 = 0x10) :
    s.blockWrite r a v = s.execWrite r a v := by
  unfold State.blockWrite
  rw [h]
  rfl

/-- The registers that R133 names: the task enables and the words EXEC_TCFG0 and EXEC_TCFG1 of the task entries. -/
inductive TaskReg : Nat → Prop
  | ten0 : TaskReg R.EXEC_TEN0
  | ten1 : TaskReg R.EXEC_TEN1
  | cfg0 {k : Nat} (hk : k < 64) : TaskReg (R.EXEC_TCFG0 + 16 * k)
  | cfg1 {k : Nat} (hk : k < 64) : TaskReg (R.EXEC_TCFG1 + 16 * k)

namespace TaskReg

variable {n : Nat}

theorem bounds (h : TaskReg n) : 0x10118 ≤ n ∧ n < 0x10540 ∧ n % 4 = 0 ∧
    (n < 0x10120 ∨ 0x10140 ≤ n ∧ (n % 16 = 0 ∨ n % 16 = 4)) := by
  cases h with
  | ten0 => decide
  | ten1 => decide
  | cfg0 hk => simp only [R.EXEC_TCFG0]; omega
  | cfg1 hk => simp only [R.EXEC_TCFG1]; omega

theorem row (h : TaskReg n) : (regSpec? n).isSome = true := by
  cases h with
  | ten0 => decide
  | ten1 => decide
  | cfg0 hk => rw [regSpec_tcfg0 hk]; rfl
  | cfg1 hk => rw [regSpec_tcfg1 hk]; rfl

end TaskReg

/-- In STOP alone is any of them written (R133). -/
theorem State.execWrite_outside_stop {s : State} {n : Nat} (r : Req) (v : Word) (h : TaskReg n) (hm : s.mode ≠ 2) :
    s.execWrite r n v = refuse .mode s := by
  have hb := h.bounds
  have hreg : n = R.EXEC_TEN0 ∨ n = R.EXEC_TEN1 ∨ (R.EXEC_TCFG0 ≤ n ∧ n < R.EXEC_TCFG0 + 0x400) ∧ (n - R.EXEC_TCFG0) % 16 ≠ 12 := by
    simp only [R.EXEC_TEN0, R.EXEC_TEN1, R.EXEC_TCFG0]
    omega
  unfold State.execWrite
  dsimp only
  rw [if_neg (by simp only [R.EXEC_STOPREQ]; omega), if_neg (by simp only [R.EXEC_FLTINFO]; omega), if_pos]
  simpa [hm, or_assoc] using hreg

section InStop

variable {s : State} {k : Nat} (r : Req) (v : Word) (hk : k < 64) (hm : s.mode = 2)

include hk hm

/-- In STOP the words EXEC_TCFG0 and EXEC_TCFG1 of an entry are written unless R134 refuses the entry as it would then stand. -/
theorem State.execWrite_entry {e : Nat} (he : e = 0 ∨ e = 4) :
    s.execWrite r (R.EXEC_TCFG0 + 16 * k + e) v =
      (let t := s.plainWrite (R.EXEC_TCFG0 + 16 * k + e) v
      if periodPhaseBad (t.reg (R.EXEC_TCFG0 + 16 * k)) ∨ kindBad (t.reg (R.EXEC_TCFG1 + 16 * k)) then refuse .range s
      else accept t) := by
  have hdiv : (R.EXEC_TCFG0 + 16 * k + e - R.EXEC_TCFG0) / 16 = k := by omega
  have hmod : (R.EXEC_TCFG0 + 16 * k + e - R.EXEC_TCFG0) % 16 = e := by omega
  unfold State.execWrite
  dsimp only
  rw [hdiv, hmod, taskCfgOk_eq, if_neg (by simp only [R.EXEC_STOPREQ, R.EXEC_TCFG0]; omega),
    if_neg (by simp only [R.EXEC_FLTINFO, R.EXEC_TCFG0]; omega), if_neg (by simp [hm]), if_pos]
  · simp only [Bool.not_eq_true', decide_eq_false_iff_not, ite_not]
  · simp only [Bool.and_eq_true, decide_eq_true_eq]
    omega

theorem State.execWrite_tcfg0 :
    s.execWrite r (R.EXEC_TCFG0 + 16 * k) v =
      if periodPhaseBad v ∨ kindBad (s.reg (R.EXEC_TCFG1 + 16 * k)) then refuse .range s
      else accept (s.setReg (R.EXEC_TCFG0 + 16 * k) v) := by
  have hne : R.EXEC_TCFG1 + 16 * k ≠ R.EXEC_TCFG0 + 16 * k := by simp only [R.EXEC_TCFG0, R.EXEC_TCFG1]; omega
  have h := State.execWrite_entry r v hk hm (.inl rfl)
  rw [Nat.add_zero] at h
  rw [h]
  simp only [State.plainWrite_tcfg0 s hk, State.reg_setReg_same, State.reg_setReg_ne _ _ hne]

theorem State.execWrite_tcfg1 :
    s.execWrite r (R.EXEC_TCFG1 + 16 * k) v =
      if periodPhaseBad (s.reg (R.EXEC_TCFG0 + 16 * k)) ∨ kindBad v then refuse .range s
      else accept (s.setReg (R.EXEC_TCFG1 + 16 * k) (tcfg1Written (s.reg (R.EXEC_TCFG1 + 16 * k)) v)) := by
  have hne : R.EXEC_TCFG0 + 16 * k ≠ R.EXEC_TCFG1 + 16 * k := by simp only [R.EXEC_TCFG0, R.EXEC_TCFG1]; omega
  have he : R.EXEC_TCFG1 + 16 * k = R.EXEC_TCFG0 + 16 * k + 4 := by simp only [R.EXEC_TCFG0, R.EXEC_TCFG1]; omega
  have h := State.execWrite_entry r v hk hm (.inr rfl)
  rw [← he] at h
  rw [h]
  simp only [State.plainWrite_tcfg1 s hk, State.reg_setReg_same, State.reg_setReg_ne _ _ hne, kindBad_tcfg1Written]

end InStop

/-! ### A write of one of these registers -/

/-- The refusal of R133 and R134 as PG_ERR shows it: the first capture since it was clear names the register, the code and the
requester; memory, the register and the words of the task entries that R133 names are kept. -/
def State.refusesTask (s : State) (r : Req) (a n code : Nat) (t : State) : Prop :=
  (s.on ⟨hdr 0x10 0x01C, 31, 31⟩ = false →
    t.reg (hdr 0x10 0x01C) = BitVec.ofNat 32 (0x80000000 + code * 0x1000000 + reqCode r * 0x10000 + n % 0x1000)) ∧
  t.mem = s.mem ∧ t.reg n = s.reg n ∧
  (R.EXEC_TCFG0 ≤ a → a < R.EXEC_TCFG0 + 0x400 → a % 16 ≠ 12 → t.reg a = s.reg a)

/-- A register of the EXEC page that neither a refused access nor its capture writes. -/
theorem refusalReg_exec {a : Nat} (h : 0x10118 ≤ a) (h' : a < 0x10540) (ha : a < 0x10120 ∨ 0x10130 ≤ a ∧ a % 16 ≠ 12) :
    refusalReg a = false := by
  simp only [refusalReg, evtReg, Bool.or_eq_false_iff, decide_eq_false_iff_not]
  omega

section Writes

variable {s : State} {r : Req} {n : Nat} {v : Word} (h : TaskReg n) (ha : s.accepts r n)

include h ha

/-- What the EXEC page refuses of them is captured and changes none of them. -/
theorem State.cmdWrite_refusesTask {e : PgErr} (a : Nat) (he : s.execWrite r n v = refuse e s) :
    s.refusesTask r a n e.code (s.cmdWrite r n v) := by
  have hb := h.bounds
  have hpage : n / 0x1000 = 0x10 := by omega
  rw [State.cmdWrite_of_refused ha (by omega) h.row (by omega) ((State.blockWrite_exec hpage).trans he), hpage]
  have hkeeps := RefusalKeeps.accFails (s.capture 0x10 (n % 0x1000) r e) r n e
  have hreg : ∀ b, refusalReg b = false → b ≠ hdr 0x10 0x01C →
      ((s.capture 0x10 (n % 0x1000) r e).accFails r n true (.pg e)).reg b = s.reg b :=
    fun b hb hne => (hkeeps.reg b hb).trans (s.capture_reg r e hne)
  have hn : refusalReg n = false := refusalReg_exec (by omega) (by omega) (by omega)
  refine ⟨fun hv => ?_, hkeeps.mem.trans (by simp), hreg n hn (by simp only [hdr]; omega), fun h1 h2 h3 => ?_⟩
  · rw [hkeeps.reg _ (by decide), State.reg_capture_first _ r e hv, Nat.mod_mod]
  · simp only [R.EXEC_TCFG0] at h1 h2
    exact hreg a (refusalReg_exec (by omega) (by omega) (by omega)) (by simp only [hdr]; omega)

theorem State.cmdWrite_task {t : State} (he : s.execWrite r n v = accept t) (hd : t.sys = s.sys) : s.cmdWrite r n v = t := by
  have hb := h.bounds
  exact State.cmdWrite_of_accepts ha (by omega) h.row (by omega) ((State.blockWrite_exec (by omega)).trans he) (by rw [hd])

end Writes

/-- A register write's next state is the one that the write leaves. -/
theorem State.to_registerWrite {s : State} {r : Req} {n : Nat} {v : Word} {p : State → Prop} (h : TaskReg n)
    (hp : p (s.cmdWrite r n v)) : s.to (.registerWrite r (BitVec.ofNat 17 (n / 4)) v 15) p := by
  have hb := h.bounds
  have hn : 4 * (BitVec.ofNat 17 (n / 4)).toNat = n := by simp only [BitVec.toNat_ofNat]; omega
  refine ⟨_, rfl, ?_⟩
  rwa [hn]

/-- Settles O60: outside STOP the EXEC page refuses every register that R133 names; in STOP it writes a word of a task entry
exactly where the entry then passes R134. -/
theorem taskEntriesAreRefused : Obligations.TaskEntriesAreRefused := by
  unfold Obligations.TaskEntriesAreRefused
  intro s r task v a cfg0 cfg1 w captured refused bad0 bad1 h0
  have hk : task.toNat < 64 := task.isLt
  have r0 : TaskReg cfg0 := .cfg0 hk
  have r1 : TaskReg cfg1 := .cfg1 hk
  have onPage : ∀ n, TaskReg n → s.accepts r n := fun n hn => by
    have hb := hn.bounds
    have hb0 := r0.bounds
    exact State.accepts_samePage h0 (by omega) (by simp only [R.PWR_CMD]; omega)
  have refuses : ∀ {n code} {e : PgErr} (x : Word), TaskReg n → s.execWrite r n x = refuse e s → e.code = code →
      s.to (.registerWrite r (w n) x 15) (refused n code) := fun x hn he hc =>
    State.to_registerWrite hn (hc ▸ State.cmdWrite_refusesTask hn (onPage _ hn) a he)
  refine ⟨fun hm => ⟨fun hbad => ?_, fun hbad => ?_, fun hgood0 hgood1 => ?_, fun hgood0 hgood1 => ?_⟩, fun hm => ?_⟩
  · exact refuses v r0 ((State.execWrite_tcfg0 r v hk hm).trans (if_pos hbad)) rfl
  · exact refuses v r1 ((State.execWrite_tcfg1 r v hk hm).trans (if_pos hbad)) rfl
  · exact State.to_registerWrite r0 (State.cmdWrite_task r0 h0
      ((State.execWrite_tcfg0 r v hk hm).trans (if_neg (not_or.2 ⟨hgood0, hgood1⟩))) rfl)
  · exact State.to_registerWrite r1 (State.cmdWrite_task r1 (onPage _ r1)
      ((State.execWrite_tcfg1 r v hk hm).trans (if_neg (not_or.2 ⟨hgood0, hgood1⟩))) rfl)
  · have stopOnly : ∀ n, TaskReg n → s.to (.registerWrite r (w n) v 15) (refused n 5) := fun n hn =>
      refuses v hn (State.execWrite_outside_stop r v hn hm) rfl
    exact ⟨stopOnly _ r0, stopOnly _ r1, stopOnly _ .ten0, stopOnly _ .ten1⟩

end Sys2Proof.Machine
end

section
/-!
What the context is after an instruction of each shape that Machine/Melax.lean gives its instructions (05 R188 to R191).
-/

namespace Sys2Proof.Machine

section Shapes

variable {s : State} {x : At} {e : Env} {i : Instr} {n : Nat} (h : s.fetches x e)

include h

/-- A register reads the same once the word fetched has been noted. -/
theorem reg_of_fetches (r : BitVec 5) : (e.fetched s x.fetch).reg r = e.reg r :=
  Env.reg_fetched (State.env_some h.1).1 x.fetch r

/-- Nothing but the next word. -/
theorem leaves_next {body : Env → IRes} (hi : exec i s = .next (s.instr x n body))
    (hb : body (e.fetched s x.fetch) = .done (e.fetched s x.fetch).advance) :
    s.leaves x e i { e.ctx with pc := e.ctx.pc + 4 } :=
  State.leaves_done h hi hb rfl rfl

/-- A new LA. -/
theorem leaves_la {g : Env → Bool} {b : Bool} (hi : exec i s = .next (s.instr x n fun e => e.laOnly (g e)))
    (hg : g (e.fetched s x.fetch) = b) : s.leaves x e i { e.ctx with la := b, pc := e.ctx.pc + 4 } :=
  hg ▸ State.leaves_done h hi rfl rfl rfl

/-- A pop above depth 0 (R188). -/
theorem leaves_pop {g : Bool → Bool → Bool} {top b : Bool} {rest : List Bool} (hl : e.ctx.las = top :: rest)
    (hi : exec i s = .next (s.instr x n fun e => e.popLa g)) (hg : g top e.ctx.la = b) :
    s.leaves x e i { e.ctx with las := rest, la := b, pc := e.ctx.pc + 4 } := by
  let popped : Env := { e.fetched s x.fetch with ctx := { e.ctx with las := rest } }
  have hpop : (e.fetched s x.fetch).popLa g = .done (popped.setLa (g top e.ctx.la)).advance := by
    simp only [Env.popLa, Env.fetched_ctx, hl]
    rfl
  exact hg ▸ State.leaves_done h hi hpop rfl rfl

/-- A push below depth 16 (R188). -/
theorem leaves_push {g : Env → Bool} {b : Bool} (hl : e.ctx.las.length < 16)
    (hi : exec i s = .next (s.instr x n fun e => e.pushLa (g e))) (hg : g (e.fetched s x.fetch) = b) :
    s.leaves x e i { e.ctx with las := e.ctx.la :: e.ctx.las, la := b, pc := e.ctx.pc + 4 } :=
  hg ▸ State.leaves_done h hi (if_neg (Nat.not_le.2 hl)) rfl rfl

/-- A result in a register that may be written. -/
theorem leaves_result {rd : BitVec 5} (hd : badDest rd = false) {g : Env → Word × Flags} {v : Word} {f : Flags}
    (hi : exec i s = .next (s.instr x n fun e => e.result rd (g e))) (hg : g (e.fetched s x.fetch) = (v, f)) :
    s.leaves x e i (e.delivers rd v f) := by
  have hctx : ((((e.fetched s x.fetch).setReg rd v).setFl f).advance).ctx = e.delivers rd v f := by
    unfold Env.delivers Env.advance Env.setFl Env.setReg
    split <;> rfl
  rw [← hctx]
  refine State.leaves_done h hi ?_ ?_ ?_
  · simp only [Env.result, hd, hg]
    rfl
  all_goals
    unfold Env.advance Env.setFl Env.setReg
    split <;> rfl

/-- New flags alone: as an instruction whose result G0 discards. -/
theorem leaves_flags {g : Env → Flags} {f : Flags} (hi : exec i s = .next (s.instr x n fun e => e.flagsOnly (g e)))
    (hg : g (e.fetched s x.fetch) = f) : s.leaves x e i (e.delivers 0 0 f) :=
  hg ▸ State.leaves_done h hi rfl rfl rfl

/-- An ALU instruction with two source registers. -/
theorem leaves_alu3 {rd ra rb : BitVec 5} (hd : badDest rd = false) {g : Word → Word → Flags → Word × Flags} {v : Word}
    {f : Flags} (hi : exec i s = alu3 g n x rd ra rb s) (hg : g (e.reg ra) (e.reg rb) e.ctx.fl = (v, f)) :
    s.leaves x e i (e.delivers rd v f) :=
  leaves_result h hd hi (by simpa only [reg_of_fetches h, Env.fetched_ctx] using hg)

/-- An ALU instruction with one source register. -/
theorem leaves_alu2 {rd ra : BitVec 5} (hd : badDest rd = false) {g : Word → Flags → Word × Flags} {v : Word}
    {f : Flags} (hi : exec i s = alu2 g n x rd ra s) (hg : g (e.reg ra) e.ctx.fl = (v, f)) :
    s.leaves x e i (e.delivers rd v f) :=
  leaves_result h hd hi (by simpa only [reg_of_fetches h, Env.fetched_ctx] using hg)

end Shapes

end Sys2Proof.Machine
end

section
/-!
The logic accumulator (05 R188, R189, R192), and the settled statement.
-/

namespace Sys2Proof.Machine

/-- R192's table of conditions as a list. -/
theorem Flags.holds_eq (f : Flags) (c : BitVec 4) :
    f.holds c = [true, f.z, !f.z, f.n != f.v, f.n == f.v, f.z || f.n != f.v, !f.z && f.n == f.v, f.c, !f.c, f.c || f.z,
      !f.c && !f.z, f.n, !f.n, f.v, !f.v, f.s].getD c.toNat false := by
  unfold Flags.holds
  have hc := c.isLt
  generalize c.toNat = k at hc
  interval_cases k <;> rfl

/-- Settles O4: each row is an instruction of one of the shapes, and CONDLA's conditions are R192's. -/
theorem logicAccumulator : Obligations.LogicAccumulator := by
  unfold Obligations.LogicAccumulator
  intro s x e rd ra k c h la f next holds
  refine ⟨leaves_next h rfl rfl, leaves_la h rfl rfl, leaves_la h rfl rfl, leaves_la h rfl rfl,
    fun hl => leaves_push h hl rfl rfl,
    fun top rest hl => ⟨leaves_pop h hl rfl rfl, leaves_pop h hl rfl rfl, leaves_pop h hl rfl rfl, leaves_pop h hl rfl ?popxor⟩,
    fun hd => leaves_result h hd rfl rfl, leaves_la h rfl ?putla, leaves_la h rfl ?tstb,
    fun hd => ⟨_, leaves_result h hd rfl rfl, fun j => ?putb⟩, leaves_la h rfl (Flags.holds_eq _ _)⟩
  case popxor => cases top <;> rfl
  case putla =>
    rw [reg_of_fetches h]
    simp [bne, Bool.beq_eq_decide_eq]
  case tstb => rw [reg_of_fetches h]
  case putb =>
    have hbit : k.toNat ≤ j ∧ j ≤ k.toNat ↔ j = k.toNat := by omega
    rw [reg_of_fetches h, bitsSet_getLsbD _ _ _ _ _ le_rfl k.isLt]
    simp only [hbit]
    split
    · next hj => subst hj; cases hla : e.ctx.la <;> simp [la, hla]
    · rfl

end Sys2Proof.Machine
end

section
/-!
The results and flags of the word operations (05 R190, R195), and the settled statement.
-/

namespace Sys2Proof.Machine

/-- Outside the signed 32-bit range. -/
def outside (v : Int) : Bool := decide (v < -2147483648 ∨ 2147483648 ≤ v)

/-- Limited to the signed 32-bit range. -/
def limited (v : Int) : Word :=
  if v < -2147483648 then 0x80000000 else if 2147483648 ≤ v then 0x7FFFFFFF else BitVec.ofInt 32 v

theorem clamp32_eq (v : Int) : clamp32 v = (limited v, outside v) := by
  unfold clamp32 limited outside
  by_cases hlo : v < -2147483648
  · simp [hlo]
  · by_cases hhi : 2147483648 ≤ v
    · simp [hlo, hhi, show (2147483647 : Int) < v by omega]
    · simp [hlo, hhi, show ¬ (2147483647 : Int) < v by omega]

/-- A word is not the exact value it is congruent to just where that is outside the range. -/
theorem toInt_ofInt_ne (v : Int) : decide ((BitVec.ofInt 32 v).toInt ≠ v) = outside v := by
  have hmod : (BitVec.ofInt 32 v).toInt = v.bmod (2 ^ 32) := BitVec.toInt_ofInt v
  unfold outside
  rw [hmod, Int.bmod_def]
  apply decide_eq_decide.2
  split <;> omega

/-! ### Sums and differences -/

theorem aluAdd_eq (a b : Word) (f : Flags) :
    aluAdd a b f = (a + b, { f.nz (a + b) with c := decide (2 ^ 32 ≤ a.toNat + b.toNat), v := outside (a.toInt + b.toInt) }) := by
  rw [← toInt_ofInt_ne, BitVec.ofInt_add, BitVec.ofInt_toInt, BitVec.ofInt_toInt]
  rfl

theorem aluSub_eq (a b : Word) (f : Flags) :
    aluSub a b f = (a - b, { f.nz (a - b) with c := decide (a.toNat < b.toNat), v := outside (a.toInt - b.toInt) }) := by
  have hsub : a - b = BitVec.ofInt 32 (a.toInt - b.toInt) := by
    rw [Int.sub_eq_add_neg, BitVec.ofInt_add, BitVec.ofInt_neg, BitVec.ofInt_toInt, BitVec.ofInt_toInt, BitVec.sub_eq_add_neg]
  rw [← toInt_ofInt_ne, ← hsub]
  rfl

theorem aluAdds_eq (a b : Word) (f : Flags) :
    aluAdds a b f = (limited (a.toInt + b.toInt),
      { (f.nz (limited (a.toInt + b.toInt))).sat (outside (a.toInt + b.toInt)) with c := false }) := by
  rw [aluAdds, clamp32_eq]

theorem aluSubs_eq (a b : Word) (f : Flags) :
    aluSubs a b f = (limited (a.toInt - b.toInt),
      { (f.nz (limited (a.toInt - b.toInt))).sat (outside (a.toInt - b.toInt)) with c := false }) := by
  rw [aluSubs, clamp32_eq]

theorem aluNeg_eq (a : Word) (f : Flags) :
    aluNeg a f = (limited (-a.toInt), (f.nz (limited (-a.toInt))).sat (outside (-a.toInt))) := by
  rw [aluNeg, clamp32_eq]

theorem aluAbs_eq (a : Word) (f : Flags) :
    aluAbs a f = (limited |a.toInt|, (f.nz (limited |a.toInt|)).sat (outside |a.toInt|)) := by
  rw [aluAbs, clamp32_eq, Int.abs_eq_natAbs]

/-! ### Products -/

theorem aluMuls_eq (a b : Word) (f : Flags) :
    aluMuls a b f = (limited (a.toInt * b.toInt), f.sat (outside (a.toInt * b.toInt))) := by
  rw [aluMuls, clamp32_eq]

/-- Bits 63 to 32 of a product of signed words. -/
theorem ofInt_mul_div (a b : Word) :
    BitVec.ofInt 32 (a.toInt * b.toInt / 4294967296) = BitVec.extractLsb' 32 32 (a.signExtend 64 * b.signExtend 64) := by
  have hprod : a.signExtend 64 * b.signExtend 64 = BitVec.ofInt 64 (a.toInt * b.toInt) := (BitVec.ofInt_mul ..).symm
  rw [hprod]
  apply BitVec.eq_of_toNat_eq
  rw [BitVec.extractLsb'_toNat, Nat.shiftRight_eq_div_pow, BitVec.toNat_ofInt, BitVec.toNat_ofInt]
  omega

/-- Bits 63 to 32 of a product of unsigned words. -/
theorem ofNat_mul_div (a b : Word) :
    BitVec.ofNat 32 (a.toNat * b.toNat / 4294967296) = BitVec.extractLsb' 32 32 (a.zeroExtend 64 * b.zeroExtend 64) := by
  have hlt : a.toNat * b.toNat < 2 ^ 64 := (Nat.mul_lt_mul'' a.isLt b.isLt).trans_eq (by norm_num)
  have hprod : (a.zeroExtend 64 * b.zeroExtend 64).toNat = a.toNat * b.toNat := by
    rw [BitVec.toNat_mul, BitVec.toNat_setWidth_of_le (by decide), BitVec.toNat_setWidth_of_le (by decide), Nat.mod_eq_of_lt hlt]
  apply BitVec.eq_of_toNat_eq
  rw [BitVec.extractLsb'_toNat, hprod, Nat.shiftRight_eq_div_pow, BitVec.toNat_ofNat]

/-! ### Quotients and remainders -/

/-- The quotient before it is limited: by 0, beyond the end of the range on the dividend's side (R195). -/
def quotient (a b : Word) : Int :=
  if b = 0 then (if a = 0 then 0 else if a.toInt < 0 then -2147483649 else 2147483648) else a.toInt.tdiv b.toInt

theorem limited_quotient_zero (a : Word) :
    limited (quotient a 0) = if a = 0 then 0 else if a.msb then 0x80000000 else 0x7FFFFFFF := by
  rw [quotient, if_pos rfl, BitVec.msb_eq_toInt]
  by_cases ha : a = 0
  · rw [if_pos ha, if_pos ha]
    rfl
  · by_cases hneg : a.toInt < 0
    · rw [if_neg ha, if_neg ha, if_pos hneg, if_pos (decide_eq_true hneg)]
      rfl
    · rw [if_neg ha, if_neg ha, if_neg hneg, if_neg (by simpa using hneg)]
      rfl

theorem aluDiv_eq (a b : Word) (f : Flags) :
    aluDiv a b f = (limited (quotient a b),
      { (f.nz (limited (quotient a b))).sat (decide (b = 0) || outside (quotient a b)) with c := false }) := by
  by_cases hb : b = 0
  · subst hb
    rw [limited_quotient_zero]
    rfl
  · rw [aluDiv, if_neg hb, clamp32_eq, decide_eq_false hb, Bool.false_or, quotient, if_neg hb]

theorem aluDivu_eq (a b : Word) (f : Flags) :
    aluDivu a b f = (if b = 0 then (if a = 0 then 0 else 0xFFFFFFFF) else a / b,
      { (f.nz (if b = 0 then (if a = 0 then 0 else 0xFFFFFFFF) else a / b)).sat (decide (b = 0)) with c := false }) := by
  unfold aluDivu
  by_cases hb : b = 0
  · simp only [hb, if_true, decide_true]
  · have hdiv : BitVec.ofNat 32 (a.toNat / b.toNat) = a / b := BitVec.eq_of_toNat_eq (by
      rw [BitVec.toNat_ofNat, BitVec.toNat_udiv, Nat.mod_eq_of_lt (lt_of_le_of_lt (Nat.div_le_self ..) a.isLt)])
    simp only [hb, if_false, decide_false, hdiv]

theorem aluRem_eq (a b : Word) (f : Flags) :
    aluRem a b f = (if b = 0 then a else BitVec.ofInt 32 (a.toInt.tmod b.toInt),
      { f.nz (if b = 0 then a else BitVec.ofInt 32 (a.toInt.tmod b.toInt)) with c := false, v := decide (b = 0) }) := rfl

theorem aluRemu_eq (a b : Word) (f : Flags) :
    aluRemu a b f = (if b = 0 then a else a % b,
      { f.nz (if b = 0 then a else a % b) with c := false, v := decide (b = 0) }) := by
  have hmod : BitVec.ofNat 32 (a.toNat % b.toNat) = a % b := BitVec.eq_of_toNat_eq (by
    rw [BitVec.toNat_ofNat, BitVec.toNat_umod, Nat.mod_eq_of_lt (lt_of_le_of_lt (Nat.mod_le ..) a.isLt)])
  rw [aluRemu, hmod]
  rfl

/-! ### Shifts, minima and maxima -/

/-- A shift by 31 or more leaves 32 copies of the sign. -/
theorem getElem_sshiftRight_of_le (a : Word) {n i : Nat} (hn : 31 ≤ n) (hi : i < 32) : (a.sshiftRight n)[i] = a.msb := by
  rw [BitVec.getElem_sshiftRight]
  split
  · have hlast : n + i = 31 := by omega
    simp only [hlast, BitVec.msb_eq_getLsbD_last, BitVec.getLsbD_eq_getElem (show 31 < 32 by decide)]
  · rfl

theorem sarBy_eq (a : Word) (n : Nat) : sarBy a n = a.sshiftRight (min n 31) := by
  rcases Nat.le_total n 31 with hn | hn
  · rw [min_eq_left hn, sarBy]
  · ext i hi
    rw [min_eq_right hn, sarBy, getElem_sshiftRight_of_le a hn hi, getElem_sshiftRight_of_le a le_rfl hi]

theorem rolBy_mod (a : Word) (n : Nat) : rolBy a (n % 32) = a <<< (n % 32) ||| a >>> (32 - n % 32) := by
  rw [rolBy, Nat.mod_mod, BitVec.rotateLeft_def, Nat.mod_mod]

theorem aluMin_eq (a b : Word) (f : Flags) : aluMin a b f = (BitVec.ofInt 32 (min a.toInt b.toInt), f) := by
  rw [aluMin, min_comm, min_def_lt, apply_ite (BitVec.ofInt 32), BitVec.ofInt_toInt, BitVec.ofInt_toInt]

theorem aluMax_eq (a b : Word) (f : Flags) : aluMax a b f = (BitVec.ofInt 32 (max a.toInt b.toInt), f) := by
  rw [aluMax, max_def_lt, apply_ite (BitVec.ofInt 32), BitVec.ofInt_toInt, BitVec.ofInt_toInt]

theorem aluMinu_eq (a b : Word) (f : Flags) : aluMinu a b f = (BitVec.ofNat 32 (min a.toNat b.toNat), f) := by
  rw [aluMinu, min_comm, min_def_lt, apply_ite (BitVec.ofNat 32), BitVec.ofNat_toNat, BitVec.ofNat_toNat,
    BitVec.setWidth_eq, BitVec.setWidth_eq]

theorem aluMaxu_eq (a b : Word) (f : Flags) : aluMaxu a b f = (BitVec.ofNat 32 (max a.toNat b.toNat), f) := by
  rw [aluMaxu, max_def_lt, apply_ite (BitVec.ofNat 32), BitVec.ofNat_toNat, BitVec.ofNat_toNat,
    BitVec.setWidth_eq, BitVec.setWidth_eq]

/-- Settles O1: each row is an ALU instruction whose function gives that result and those flags. -/
theorem wordOperations : Obligations.WordOperations := by
  unfold Obligations.WordOperations
  intro s x e rd ra rb h hd a b f out sat nz mark q qu m mu
  have cmp : s.leaves x e (.cmp x ra rb) (e.delivers 0 0
      { f.nz (a - b) with c := decide (a.toNat < b.toNat), v := outside (a.toInt - b.toInt) }) :=
    leaves_flags h rfl (by rw [reg_of_fetches h, reg_of_fetches h]; exact congrArg Prod.snd (aluSub_eq a b f))
  have sel : s.leaves x e (.sel x rd ra rb) (e.delivers rd (if e.ctx.la then a else b) f) :=
    leaves_result h hd rfl (by rw [reg_of_fetches h, reg_of_fetches h]; rfl)
  exact ⟨
    leaves_alu3 h hd rfl (aluAdd_eq a b f), leaves_alu3 h hd rfl (aluAdds_eq a b f),
    leaves_alu3 h hd rfl (aluSub_eq a b f), leaves_alu3 h hd rfl (aluSubs_eq a b f), cmp,
    leaves_alu3 h hd rfl rfl, leaves_alu3 h hd rfl (aluMuls_eq a b f),
    leaves_alu3 h hd rfl (congrArg (·, f) (ofInt_mul_div a b)), leaves_alu3 h hd rfl (congrArg (·, f) (ofNat_mul_div a b)),
    leaves_alu3 h hd rfl (aluDiv_eq a b f), leaves_alu3 h hd rfl (aluDivu_eq a b f),
    leaves_alu3 h hd rfl (aluRem_eq a b f), leaves_alu3 h hd rfl (aluRemu_eq a b f),
    leaves_alu3 h hd rfl rfl, leaves_alu3 h hd rfl rfl, leaves_alu3 h hd rfl rfl, leaves_alu3 h hd rfl rfl,
    leaves_alu3 h hd rfl rfl, leaves_alu3 h hd rfl rfl, leaves_alu3 h hd rfl (congrArg (·, f) (sarBy_eq a _)),
    leaves_alu3 h hd rfl (congrArg (·, f) (rolBy_mod a _)),
    leaves_alu3 h hd rfl (aluMin_eq a b f), leaves_alu3 h hd rfl (aluMax_eq a b f),
    leaves_alu3 h hd rfl (aluMinu_eq a b f), leaves_alu3 h hd rfl (aluMaxu_eq a b f),
    leaves_alu2 h hd rfl (aluNeg_eq a f), leaves_alu2 h hd rfl (aluAbs_eq a f), sel⟩

end Sys2Proof.Machine
end

section
/-!
The corners of division, remainder and conversion (05 R195), and the settled statement.
-/

namespace Sys2Proof.Machine

/-- A result r with V as given, and S kept or set. -/
def marks (f : Flags) (o : Word × Flags) (r : Word) (v keepS : Bool) : Prop :=
  o.1 = r ∧ o.2.v = v ∧ o.2.s = if keepS then f.s else true

/-! ### Division and remainder -/

theorem aluDiv_by_zero (a : Word) (f : Flags) :
    marks f (aluDiv a 0 f) (if 0 < a.toInt then 0x7FFFFFFF else if a.toInt < 0 then 0x80000000 else 0) true false := by
  rw [aluDiv_eq]
  refine ⟨?_, rfl, Bool.or_true _⟩
  rw [limited_quotient_zero, BitVec.msb_eq_toInt]
  have hzero : a = 0 ↔ a.toInt = 0 := BitVec.toInt_inj.symm
  rcases lt_trichotomy a.toInt 0 with hneg | hz | hpos
  · rw [if_neg (mt hzero.1 hneg.ne), if_pos (decide_eq_true hneg), if_neg hneg.not_gt, if_pos hneg]
  · rw [if_pos (hzero.2 hz), if_neg hz.not_gt, if_neg hz.not_lt]
  · rw [if_neg (mt hzero.1 hpos.ne'), if_neg (by simpa using hpos.le), if_pos hpos]

theorem aluDivu_by_zero (a : Word) (f : Flags) :
    marks f (aluDivu a 0 f) (if a ≠ 0 then 0xFFFFFFFF else 0) true false :=
  ⟨(ite_not ..).symm, rfl, Bool.or_true _⟩

theorem aluDiv_least (f : Flags) : marks f (aluDiv 0x80000000 0xFFFFFFFF f) 0x7FFFFFFF true false :=
  ⟨rfl, rfl, Bool.or_true _⟩

theorem aluRem_by_zero (a : Word) (f : Flags) : marks f (aluRem a 0 f) a true true := ⟨rfl, rfl, rfl⟩

theorem aluRemu_by_zero (a : Word) (f : Flags) : marks f (aluRemu a 0 f) a true true := ⟨rfl, rfl, rfl⟩

theorem aluRem_least (f : Flags) : marks f (aluRem 0x80000000 0xFFFFFFFF f) 0 false true := ⟨rfl, rfl, rfl⟩

/-! ### Conversion to an integer -/

/-- A binary32 operand by its fields (R196). -/
theorem b32_unpack (w : Nat) : b32.unpack w =
    let neg := decide (w / 0x80000000 % 2 = 1)
    if w / 0x800000 % 256 = 255 then (if w % 0x800000 = 0 then .inf neg else .nan)
    else if w / 0x800000 % 256 = 0 then .fin neg 0 0
    else .fin neg (0x800000 + w % 0x800000) ((w / 0x800000 % 256 : Nat) - 127 - 23) := rfl

section ToInt

variable (r : IntRound) {w : Nat}

theorem toInt_nan (lo hi : Int) (h : 0x7F800000 < w % 0x80000000) : b32.toInt r lo hi w = (0, true) := by
  rw [Fmt.toInt, b32_unpack]
  dsimp only
  rw [if_pos (by omega), if_neg (by omega)]

/-- Where the exponent is not below that of 2^31 the significand counts in units of 2^8 or more, and nothing is rounded. -/
theorem intMag_eq (m : Nat) {ex : Nat} (h : 158 ≤ ex) : intMag r m ((ex : Int) - 127 - 23) = m * 2 ^ (ex - 158) * 2 ^ 8 := by
  have hexp : ((ex : Int) - 127 - 23).toNat = (ex - 158) + 8 := by omega
  unfold intMag
  rw [if_pos (by omega), hexp, pow_add, mul_assoc]

/-- A number of magnitude 2^31 or more is an infinity, or finite and as large once rounded. -/
theorem b32_unpack_large (h : 0x4F000000 ≤ w % 0x80000000) (h' : w % 0x80000000 ≤ 0x7F800000) :
    b32.unpack w = .inf (decide (w / 0x80000000 % 2 = 1)) ∨
      ∃ m e, b32.unpack w = .fin (decide (w / 0x80000000 % 2 = 1)) m e ∧ 2147483648 ≤ intMag r m e ∧
        (0x4F000000 < w % 0x80000000 → 2147483648 < intMag r m e) := by
  rw [b32_unpack]
  dsimp only
  by_cases hinf : w % 0x80000000 = 0x7F800000
  · rw [if_pos (by omega), if_pos (by omega)]
    exact .inl rfl
  · rw [if_neg (by omega), if_neg (by omega)]
    refine .inr ⟨_, _, rfl, ?_⟩
    rw [intMag_eq r _ (by omega)]
    obtain hex | ⟨k, hk⟩ : w / 0x800000 % 256 = 158 ∨ ∃ k, w / 0x800000 % 256 - 158 = k + 1 :=
      (em _).imp_right fun hne => ⟨w / 0x800000 % 256 - 159, by omega⟩
    · rw [hex]
      omega
    · have := Nat.le_mul_of_pos_right (0x800000 + w % 0x800000) (Nat.two_pow_pos k)
      rw [hk, pow_succ, ← mul_assoc]
      omega

theorem toInt_above (h : 0x4F000000 ≤ w) (h' : w ≤ 0x7F800000) :
    b32.toInt r (-2147483648) 2147483647 w = (2147483647, true) := by
  have hpos : decide (w / 0x80000000 % 2 = 1) = false := decide_eq_false (by omega)
  obtain hw | ⟨m, e, hw, hmag, -⟩ := b32_unpack_large r (w := w) (by omega) (by omega)
  · rw [Fmt.toInt, hw, hpos]
    rfl
  · rw [Fmt.toInt, hw, hpos]
    dsimp only
    rw [signedMant, if_neg Bool.false_ne_true, if_neg (by omega), if_pos (by omega)]

theorem toInt_below (h : 0xCF000000 < w) (h' : w ≤ 0xFF800000) :
    b32.toInt r (-2147483648) 2147483647 w = (-2147483648, true) := by
  have hneg : decide (w / 0x80000000 % 2 = 1) = true := decide_eq_true (by omega)
  obtain hw | ⟨m, e, hw, -, hmag⟩ := b32_unpack_large r (w := w) (by omega) (by omega)
  · rw [Fmt.toInt, hw, hneg]
    rfl
  · have := hmag (by omega)
    rw [Fmt.toInt, hw, hneg]
    dsimp only
    rw [signedMant, if_pos rfl, if_pos (by omega)]

end ToInt

/-- A conversion that saturates sets V and S. -/
theorem fpuToInt_saturated {r : IntRound} {a w : Word} (f : Flags) {v : Int}
    (h : b32.toInt r (-2147483648) 2147483647 a.toNat = (v, true)) (hv : BitVec.ofInt 32 v = w) :
    marks f (fpuToInt r a f) w true false := by
  rw [fpuToInt, h]
  exact ⟨hv, rfl, Bool.or_true _⟩

/-- Settles O2: each row of R195 is a corner of its function. -/
theorem deterministicArithmetic : Obligations.DeterministicArithmetic := by
  unfold Obligations.DeterministicArithmetic
  intro s x e rd ra rb h hd a b gives
  have alu {i : Instr} {g : Word → Word → Flags → Word × Flags} {n : Nat} {a' b' r : Word} {v k : Bool} (ha : a = a')
      (hb : b = b') (hi : exec i s = alu3 g n x rd ra rb s) (hm : marks e.ctx.fl (g a' b' e.ctx.fl) r v k) : gives i r v k :=
    have ⟨hr, hflags⟩ : marks e.ctx.fl (g a b e.ctx.fl) r v k := by rwa [ha, hb]
    ⟨_, leaves_alu3 h hd hi (Prod.ext hr rfl), hflags⟩
  have conv {v : Int} {w : Word} (hw : BitVec.ofInt 32 v = w)
      (hv : ∀ r, b32.toInt r (-2147483648) 2147483647 a.toNat = (v, true)) :
      gives (.ftoi x rd ra) w true false ∧ gives (.ftoir x rd ra) w true false := by
    have one {i : Instr} {r : IntRound} (hi : exec i s = alu2 (fpuToInt r) 4 x rd ra s) : gives i w true false :=
      have ⟨hr, hm⟩ := fpuToInt_saturated e.ctx.fl (hv r) hw
      ⟨_, leaves_alu2 h hd hi (Prod.ext hr rfl), hm⟩
    exact ⟨one rfl, one rfl⟩
  exact ⟨fun hb => alu rfl hb rfl (aluDiv_by_zero a _), fun hb => alu rfl hb rfl (aluDivu_by_zero a _),
    fun ha hb => alu ha hb rfl (aluDiv_least _), fun hb => alu rfl hb rfl (aluRem_by_zero a _),
    fun hb => alu rfl hb rfl (aluRemu_by_zero a _), fun ha hb => alu ha hb rfl (aluRem_least _),
    fun hnan => conv rfl fun r => toInt_nan r _ _ hnan, fun hlo hhi => conv rfl fun r => toInt_above r hlo hhi,
    fun hlo hhi => conv rfl fun r => toInt_below r hlo hhi⟩

end Sys2Proof.Machine
end

section
/-!
What a task fault leaves (04 R153 to R156): the execution is abandoned, and EXEC_FLTINFO and its companions hold the fault
if they held none.
-/

namespace Sys2Proof.Machine

/-! ### Operations that only tell of something -/

/-- From s to t the cores are kept, and every register that raising an event cannot write. -/
structure TellKeeps (s t : State) : Prop where
  core : ∀ c, t.core c = s.core c
  reg : ∀ a, evtReg a = false → t.reg a = s.reg a

namespace TellKeeps

variable {s t u : State}

theorem refl (s : State) : TellKeeps s s := ⟨fun _ => rfl, fun _ _ => rfl⟩

/-- An update of neither the cores nor the registers. -/
theorem behind (h : TellKeeps s t) (hc : u.exec.cores = t.exec.cores) (hr : u.regs = t.regs) : TellKeeps s u :=
  ⟨fun c => by rw [← h.core c, State.core, hc, State.core], fun a ha => by rw [← h.reg a ha, State.reg, hr, State.reg]⟩

theorem ite {c : Prop} [Decidable c] (h : TellKeeps s t) (g : TellKeeps s u) : TellKeeps s (if c then t else u) := by
  split <;> assumption

theorem raise (h : TellKeeps s t) {c : Cond} {d : Nat} (hc : c.source < 256 := by decide) : TellKeeps s (t.raise c d) :=
  ⟨fun n => (t.core_raise c d [] 0 n).trans (h.core n), fun a ha => (t.reg_raise d [] 0 hc ha).trans (h.reg a ha)⟩

theorem sendDelta (h : TellKeeps s t) {q : List EvEntry} {l : List (Nat × Nat × Nat)} : TellKeeps s (t.sendDelta q l) :=
  ite (h.behind rfl rfl) h

theorem mirror (h : TellKeeps s t) {k : ItemKind} {n : Nat} {p : MirrorPhase} : TellKeeps s (t.mirror k n p) :=
  ite (h.behind rfl rfl) h

theorem acqEnd (h : TellKeeps s t) {q : AcqReq} {o r n : Nat} {l : List Byte} : TellKeeps s (t.acqEnd q o r n l) := by
  have dropped {x : FbcState} : TellKeeps s (({ t with fbc := x }.ledgerDrop .acq 0 q.id).mirrorForget .acq q.id) :=
    h.behind rfl rfl
  exact ite dropped.mirror.raise.raise dropped.mirror.raise

theorem acqFail (h : TellKeeps s t) {which : AcqReq → Bool} {r : Nat} : TellKeeps s (t.acqFail which r) := by
  unfold State.acqFail
  induction t.fbc.acq.filter which generalizing t with
  | nil => exact h
  | cons q l ih => exact ih h.acqEnd

end TellKeeps

/-! ### The end of an execution -/

theorem State.reg_endB (s : State) (c : Nat) (r : Run) (fault : Nat) {a : Nat} (ha : evtReg a = false) :
    (s.endB c r fault).reg a = s.reg a := (TellKeeps.refl _).sendDelta.reg a ha

theorem State.core_endB (s : State) (c : Nat) (r : Run) (fault : Nat) :
    (s.endB c r fault).core c = { s.core c with bClocks := 0 } :=
  ((TellKeeps.refl _).sendDelta.core c).trans (State.core_setCore_same _ c _)

theorem State.reg_resumeB (s : State) (c a : Nat) : (s.resumeB c).reg a = s.reg a := by
  unfold State.resumeB
  dsimp only
  split <;> rfl

theorem State.core_resumeB (s : State) (c : Nat) : ∃ b, (s.resumeB c).core c = { s.core c with bgSusp := b } := by
  unfold State.resumeB
  dsimp only
  split
  · exact ⟨false, State.core_setCore_same _ c _⟩
  · exact ⟨(s.core c).bgSusp, rfl⟩

/-- Handing over what an execution wrote, or telling of the end of one that RUNTASK started. -/
def State.reportEnd (s : State) (c : Nat) (r : Run) (fault : Nat) : State :=
  if r.runtask then s.raise (Ev.coreRuntask.at c 0) (s.coreData c)
  else { s with exec := { s.exec with finished := s.exec.finished ++
      [⟨r.task, r.scan, if fault = 0 then r.qbuf else [], fault⟩] } }

theorem TellKeeps.reportEnd (s : State) (c : Nat) (r : Run) (fault : Nat) : TellKeeps s (s.reportEnd c r fault) :=
  ite ((refl s).raise (by decide : 15 < 256)) ((refl s).behind rfl rfl)

theorem State.finishRun_eq (s : State) (c : Nat) (bgd : Bool) (r : Run) (fault : Nat) :
    s.finishRun c bgd r fault =
      let t := if bgd then s.endB c r fault else s
      ((t.setCore c ((t.core c).drop bgd)).reportEnd c r fault).resumeB c := rfl

theorem State.reg_finishRun (s : State) (c : Nat) (bgd : Bool) (r : Run) (fault : Nat) {a : Nat} (ha : evtReg a = false) :
    (s.finishRun c bgd r fault).reg a = s.reg a := by
  rw [State.finishRun_eq]
  dsimp only
  rw [State.reg_resumeB, (TellKeeps.reportEnd ..).reg a ha, State.reg_setCore]
  split
  · exact s.reg_endB c r fault ha
  · rfl

/-- An execution that has ended is no longer its core's, and the core steps as before. -/
theorem State.core_finishRun (s : State) (c : Nat) (bgd : Bool) (r : Run) (fault : Nat) :
    (s.finishRun c bgd r fault).runOf c bgd = none ∧
      ((s.finishRun c bgd r fault).core c).stepping = (s.core c).stepping := by
  let t := if bgd then s.endB c r fault else s
  let u := (t.setCore c ((t.core c).drop bgd)).reportEnd c r fault
  have hu : u.core c = (t.core c).drop bgd := ((TellKeeps.reportEnd ..).core c).trans (State.core_setCore_same ..)
  obtain ⟨b, hb⟩ := u.core_resumeB c
  have hb : (s.finishRun c bgd r fault).core c = { (t.core c).drop bgd with bgSusp := b } := hu ▸ hb
  unfold State.runOf
  rw [hb]
  cases bgd
  · exact ⟨rfl, rfl⟩
  · exact ⟨rfl, (congrArg CoreSt.stepping (s.core_endB c r fault) :)⟩

/-! ### A task fault -/

/-- The fault is captured, its cause noted, its event raised and the task's faults counted. -/
def State.noteFault (s : State) (c : Nat) (r : Run) (pc : Word) (f : Flt) : State :=
  let l := (s.lcoreOf c).getD 0
  let s := (s.pageFault c f).captureFault l r pc f
  let s := if f.code = 1 then s.wr (R.CORE_ILLSUB_CODE.off (0x1000 * c)) f.ill else s
  (s.raise Ev.execTaskFault (f.code * 0x10000 + l * 0x100 + r.task % 64)).inc (taskFld R.EXEC_TSTAT_FAULTS r.task)

/-- The task's FAULTACT is followed (04 R155). -/
def State.followFault (s : State) (task : Nat) : State :=
  match s.rd (taskFld R.EXEC_TCFG1_FAULTACT task) with
  | 1 =>
    let s := if s.exec.disabled.contains task then s
      else { s with exec := { s.exec with disabled := s.exec.disabled ++ [task] } }
    s.raise Ev.execTaskDisabled (task % 64)
  | 2 => s.askStop 0x11
  | _ => s

theorem State.taskFault_eq (s : State) (c : Nat) (bgd : Bool) (r : Run) (pc : Word) (f : Flt) :
    s.taskFault c bgd r pc f =
      (((s.noteFault c r pc f).finishRun c bgd r f.code).acqFail (fun q => q.task = some r.task) 9).followFault r.task := rfl

theorem TellKeeps.followFault {s t : State} (h : TellKeeps s t) {task : Nat} : TellKeeps s (t.followFault task) := by
  have disabled : TellKeeps s { t with exec := { t.exec with disabled := t.exec.disabled ++ [task] } } := h.behind rfl rfl
  have asked : TellKeeps s (t.askStop 0x11) := h.behind rfl rfl
  unfold State.followFault
  dsimp only
  split
  · exact (h.ite disabled).raise
  · exact asked
  · exact h

theorem TellKeeps.taskFault (s : State) (c : Nat) (bgd : Bool) (r : Run) (pc : Word) (f : Flt) :
    TellKeeps ((s.noteFault c r pc f).finishRun c bgd r f.code) (s.taskFault c bgd r pc f) :=
  (refl _).acqFail.followFault

theorem State.core_noteFault (s : State) (c : Nat) (r : Run) (pc : Word) {f : Flt} (hp : s.pageFault c f = s) (n : Nat) :
    (s.noteFault c r pc f).core n = s.core n := by
  unfold State.noteFault State.captureFault
  dsimp only
  rw [hp, State.core_inc, State.core_raise]
  (repeat' split) <;> rfl

/-- The execution that faults is abandoned, and the core steps as before. -/
theorem State.core_taskFault (s : State) (c : Nat) (bgd : Bool) (r : Run) (pc : Word) {f : Flt} (hp : s.pageFault c f = s) :
    (s.taskFault c bgd r pc f).runOf c bgd = none ∧ ((s.taskFault c bgd r pc f).core c).stepping = (s.core c).stepping := by
  have hkeeps := (TellKeeps.taskFault s c bgd r pc f).core c
  obtain ⟨hrun, hstep⟩ := (s.noteFault c r pc f).core_finishRun c bgd r f.code
  rw [State.runOf, hkeeps, ← State.runOf]
  exact ⟨hrun, hstep.trans (congrArg CoreSt.stepping (s.core_noteFault c r pc hp c))⟩

/-- What follows the capture of a fault that is no illegal instruction writes neither EXEC_FLTINFO nor its companions. -/
theorem State.reg_taskFault (s : State) (c : Nat) (bgd : Bool) (r : Run) (pc : Word) {f : Flt} (hp : s.pageFault c f = s)
    (hf : f.code ≠ 1) {a : Nat} (ha : 0x10120 ≤ a) (ha' : a < 0x10130) :
    (s.taskFault c bgd r pc f).reg a = (s.captureFault ((s.lcoreOf c).getD 0) r pc f).reg a := by
  have hevt : evtReg a = false := by
    simp only [evtReg, decide_eq_false_iff_not]
    omega
  rw [(TellKeeps.taskFault s c bgd r pc f).reg a hevt, State.reg_finishRun _ c bgd r _ hevt]
  unfold State.noteFault
  dsimp only
  rw [hp, if_neg hf, State.reg_inc_ne _ (by simp only [taskFld, Fld.off, R.EXEC_TSTAT_FAULTS]; omega),
    State.reg_raise _ _ _ _ (by decide) hevt]

theorem State.lcoreOf_lt (s : State) (c : Nat) : (s.lcoreOf c).getD 0 < 4 := by
  cases hl : s.lcoreOf c with
  | none => decide
  | some l => exact List.mem_range.1 (List.mem_of_find?_eq_some hl)

/-- EXEC_FLTINFO as it captures a fault. -/
def faultInfo (l : Nat) (r : Run) (f : Flt) : Word :=
  BitVec.ofNat 32 (0x80000000 + f.code * 0x10000 + l % 4 * 0x100 + r.task % 64)

/-- EXEC_FLTINFO and its companions after the first fault. -/
theorem State.captureFault_first {s : State} (l : Nat) (r : Run) (pc : Word) (f : Flt)
    (hv : s.on R.EXEC_FLTINFO_VALID = false) :
    let t := s.captureFault l r pc f
    t.reg R.EXEC_FLTINFO = faultInfo l r f ∧ t.reg R.EXEC_FLTPC = pc ∧ t.reg R.EXEC_FLTADDR = BitVec.ofNat 32 f.addr ∧
      t.reg R.EXEC_FLTSTROKE = BitVec.ofNat 32 r.scan := by
  unfold State.captureFault
  simp only [hv, Bool.false_eq_true, if_false]
  refine ⟨?_, ?_, ?_, State.reg_setReg_same _ _ _⟩
  · rw [State.reg_setReg_ne _ _ (by decide), State.reg_setReg_ne _ _ (by decide), State.reg_setReg_ne _ _ (by decide),
      State.reg_setReg_same]
    rfl
  · rw [State.reg_setReg_ne _ _ (by decide), State.reg_setReg_ne _ _ (by decide), State.reg_setReg_same]
  · rw [State.reg_setReg_ne _ _ (by decide), State.reg_setReg_same]

/-- The fields of EXEC_FLTINFO. -/
theorem faultInfo_fields {l : Nat} (r : Run) {f : Flt} (hl : l < 4) (hf : f.code < 256) :
    bitsOf (faultInfo l r f) 31 31 = 1 ∧ bitsOf (faultInfo l r f) 23 16 = f.code ∧ bitsOf (faultInfo l r f) 9 8 = l ∧
      bitsOf (faultInfo l r f) 5 0 = r.task % 64 := by
  simp only [bitsOf, faultInfo, BitVec.toNat_ofNat]
  omega

/-- The first fault, as a task fault that is no illegal instruction captures it (04 R156). -/
theorem State.taskFault_first {s : State} (c : Nat) (bgd : Bool) (r : Run) (pc : Word) {f : Flt} (hp : s.pageFault c f = s)
    (hf : f.code ≠ 1) (hlt : f.code < 256) (hv : s.on R.EXEC_FLTINFO_VALID = false) :
    let t := s.taskFault c bgd r pc f
    t.on R.EXEC_FLTINFO_VALID = true ∧ t.rd R.EXEC_FLTINFO_CODE = f.code ∧
      t.rd R.EXEC_FLTINFO_LCORE = (s.lcoreOf c).getD 0 ∧ t.rd R.EXEC_FLTINFO_TASK = r.task % 64 ∧
      t.reg R.EXEC_FLTPC = pc ∧ t.reg R.EXEC_FLTADDR = BitVec.ofNat 32 f.addr ∧
      t.reg R.EXEC_FLTSTROKE = BitVec.ofNat 32 r.scan := by
  intro t
  have hreg {a : Nat} (ha : 0x10120 ≤ a) (ha' : a < 0x10130) := s.reg_taskFault c bgd r pc hp hf ha ha'
  obtain ⟨hinfo, hpc, haddr, hstroke⟩ := State.captureFault_first ((s.lcoreOf c).getD 0) r pc f hv
  obtain ⟨hvalid, hcode, hlcore, htask⟩ := faultInfo_fields r (s.lcoreOf_lt c) hlt
  have hinfo : t.reg R.EXEC_FLTINFO = _ := (hreg (by decide) (by decide)).trans hinfo
  have hfield (fld : Fld) (h : fld.addr = R.EXEC_FLTINFO) :
      t.rd fld = bitsOf (faultInfo ((s.lcoreOf c).getD 0) r f) fld.hi fld.lo := by rw [State.rd, h, hinfo]
  refine ⟨?_, (hfield _ rfl).trans hcode, (hfield _ rfl).trans hlcore, (hfield _ rfl).trans htask,
    (hreg (by decide) (by decide)).trans hpc, (hreg (by decide) (by decide)).trans haddr,
    (hreg (by decide) (by decide)).trans hstroke⟩
  rw [State.on, (hfield _ rfl).trans hvalid]
  rfl

/-- An instruction that faults with ACCESS or with ALIGN, its word clean and its core not stepping. -/
theorem faults_of_flt {s : State} {x : At} {e : Env} {i : Instr} {n : Nat} {body : Env → IRes} {f : Flt} (h : s.fetches x e)
    (hclean : s.decoded e.ctx.pc.toNat x.fetch = .clean) (hstep : (s.core x.core).stepping = false)
    (hi : exec i s = .next (s.instr x n body)) (hb : body (e.fetched s x.fetch) = .flt f (e.fetched s x.fetch).s)
    (hf : f.code = 2 ∧ f.ill = 0 ∨ f.code = 3) : s.faults x e i f.code f.addr := by
  obtain ⟨hs, hc, -, -⟩ := State.env_some h.1
  let u := s.forgetHard (memOf e.ctx.pc.toNat).1 (memOf e.ctx.pc.toNat).2
  have hquiet : u.pageFault x.core f = u := by
    unfold State.pageFault
    rw [if_neg (by simp only [Bool.and_eq_true, decide_eq_true_eq]; omega), if_neg (by omega)]
  obtain ⟨hrun, hstepping⟩ := u.core_taskFault x.core e.bgd e.run e.ctx.pc hquiet
  have hend : s.instr x n body = u.taskFault x.core e.bgd e.run e.ctx.pc f := by
    rw [State.instr_of_fetches h, hb, Env.fetched_clean hs hclean, State.endInstr, hc, State.afterStep, hstepping,
      State.core_forgetHard, hstep]
    rfl
  have hl : u.lcoreOf x.core = s.lcoreOf x.core := by simp only [State.lcoreOf, u, State.reg_forgetHard]
  have hon : u.on R.EXEC_FLTINFO_VALID = s.on R.EXEC_FLTINFO_VALID := State.on_congr _ (State.reg_forgetHard ..)
  rw [hend] at hi
  refine ⟨_, hi, hrun, fun hv => ?_⟩
  rw [← hl]
  exact State.taskFault_first x.core e.bgd e.run e.ctx.pc hquiet (by omega) (by omega) (hon.trans hv)

end Sys2Proof.Machine
end

section
/-!
Branches and jumps (05 R192, R201), and the settled statement.
-/

namespace Sys2Proof.Machine

/-- An address that a branch may take: a multiple of 4 in the program area. -/
def goodTarget (a : Word) : Prop := a.toNat % 4 = 0 ∧ a.toNat < 0x01000000

theorem areaOf_eq_program_iff {a : Nat} : areaOf a = .program ↔ a < 0x01000000 := by
  unfold areaOf
  constructor
  · intro h
    by_contra hge
    rw [if_neg hge] at h
    (repeat' split at h) <;> cases h
  · exact fun h => if_pos h

theorem targetFault_good {a : Word} (h : goodTarget a) : targetFault a.toNat 4 = none := by
  rw [targetFault, if_neg (by simpa using h.1), if_neg (by simpa [areaOf_eq_program_iff] using h.2)]

theorem targetFault_unaligned {a : Nat} (h : a % 4 ≠ 0) : targetFault a 4 = some (.align a) := if_pos h

theorem targetFault_outside {a : Nat} (h : a % 4 = 0) (h' : 0x01000000 ≤ a) : targetFault a 4 = some (.access a) := by
  rw [targetFault, if_neg (by simpa using h), if_pos (by simpa [areaOf_eq_program_iff] using h')]

theorem branchTarget_eq (e : Env) (disp : BitVec 21) :
    e.branchTarget disp = BitVec.ofInt 32 (e.ctx.pc.toNat + 4 * disp.toInt) := by
  have hdisp : disp.signExtend 32 = BitVec.ofInt 32 disp.toInt := rfl
  rw [Env.branchTarget, hdisp, BitVec.ofInt_add, BitVec.ofInt_mul, mul_comm, BitVec.ofInt_natCast, BitVec.ofNat_toNat,
    BitVec.setWidth_eq]
  rfl

section

variable {s : State} {x : At} {e : Env} {i : Instr} {n : Nat} {taken : Env → Bool} {target : Env → Word} {a : Word}
  (h : s.fetches x e) (hi : exec i s = .next (s.instr x n fun e => e.branch (taken e) (target e)))
  (ha : target (e.fetched s x.fetch) = a)

include h hi

theorem leaves_not_taken (ht : taken (e.fetched s x.fetch) = false) : s.leaves x e i { e.ctx with pc := e.ctx.pc + 4 } :=
  leaves_next h hi (by rw [Env.branch, ht]; rfl)

include ha

theorem leaves_taken (ht : taken (e.fetched s x.fetch) = true) (hg : goodTarget a) :
    s.leaves x e i { e.ctx with pc := a } := by
  have hb : (e.fetched s x.fetch).branch (taken (e.fetched s x.fetch)) (target (e.fetched s x.fetch)) =
      .done { e.fetched s x.fetch with ctx := { e.ctx with pc := a } } := by
    rw [ht, ha, Env.branch, targetFault_good hg]
    rfl
  exact State.leaves_done h hi hb rfl rfl

/-- A target that is taken and bad. -/
theorem faults_taken (hclean : s.decoded e.ctx.pc.toNat x.fetch = .clean) (hstep : (s.core x.core).stepping = false)
    (ht : taken (e.fetched s x.fetch) = true) :
    (a.toNat % 4 ≠ 0 → s.faults x e i 3 a.toNat) ∧
      (a.toNat % 4 = 0 → 0x01000000 ≤ a.toNat → s.faults x e i 2 a.toNat) := by
  have hb {f : Flt} (hf : targetFault a.toNat 4 = some f) :
      (e.fetched s x.fetch).branch (taken (e.fetched s x.fetch)) (target (e.fetched s x.fetch)) =
        .flt f (e.fetched s x.fetch).s := by
    rw [ht, ha, Env.branch, hf]
    rfl
  exact ⟨fun hu => faults_of_flt h hclean hstep hi (hb (targetFault_unaligned hu)) (.inr rfl),
    fun hm ho => faults_of_flt h hclean hstep hi (hb (targetFault_outside hm ho)) (.inl ⟨rfl, rfl⟩)⟩

end

/-- Settles O5: each of the four is a branch on its own condition to its own target. -/
theorem branchesTakeTheirTarget : Obligations.BranchesTakeTheirTarget := by
  unfold Obligations.BranchesTakeTheirTarget
  intro s x e ra c disp h next target good
  have htarget : (e.fetched s x.fetch).branchTarget disp = target := branchTarget_eq _ disp
  have hjump : (e.fetched s x.fetch).reg ra = e.reg ra := reg_of_fetches h ra
  refine ⟨fun ht => leaves_not_taken h rfl ht, fun ht => leaves_not_taken h rfl ht,
    fun ht => leaves_not_taken h rfl (congrArg not ht),
    fun hg => ⟨fun ht => leaves_taken h rfl htarget ht hg, fun ht => leaves_taken h rfl htarget ht hg,
      fun ht => leaves_taken h rfl htarget (congrArg not ht) hg⟩,
    fun hg => leaves_taken h rfl hjump rfl hg, fun hclean hstep => ?_⟩
  exact ⟨fun ht => faults_taken h rfl htarget hclean hstep ht, fun ht => faults_taken h rfl htarget hclean hstep ht,
    fun ht => faults_taken h rfl htarget hclean hstep (congrArg not ht), faults_taken h rfl hjump hclean hstep rfl⟩

end Sys2Proof.Machine
end
